-- ==== Sys2Proof/Word.lean ====
section
/-! DEFINITION. The word types of the part: a byte of a link frame, a reading of the time base (R2),
an axle position, and one value for each of the four axle positions. -/

namespace Sys2Proof

/-- One byte of a vehicle link or actuator link frame. -/
abbrev Byte := BitVec 8

/-- A reading of the 32-bit time base, in ms (R2). Its arithmetic wraps modulo 2³². -/
abbrev Time := BitVec 32

/-- An axle position, 0 to 3. Channel n serves axle n. -/
abbrev Axle := Fin 4

/-- The four axle positions in index order. -/
def Axle.all : List Axle := [0, 1, 2, 3]

/-- One value for each of the four axle positions. -/
structure Axles (α : Type) where
  a0 : α
  a1 : α
  a2 : α
  a3 : α
deriving DecidableEq, Repr

namespace Axles

variable {α β : Type}

def get (x : Axles α) : Axle → α
  | 0 => x.a0
  | 1 => x.a1
  | 2 => x.a2
  | 3 => x.a3

def set (x : Axles α) (a : Axle) (v : α) : Axles α :=
  match a with
  | 0 => { x with a0 := v }
  | 1 => { x with a1 := v }
  | 2 => { x with a2 := v }
  | 3 => { x with a3 := v }

def ofFn (f : Axle → α) : Axles α := ⟨f 0, f 1, f 2, f 3⟩

def map (f : α → β) (x : Axles α) : Axles β := ofFn fun a => f (x.get a)

def toList (x : Axles α) : List α := [x.a0, x.a1, x.a2, x.a3]

def replicate (v : α) : Axles α := ⟨v, v, v, v⟩

end Axles

end Sys2Proof
end

