-- ==== Sys2Proof/Machine/Settings.lean ====
section
/-! DEFINITION. The settings of R7 as the manual's table gives them: each id with its fixed range and its
default, and the range and re-check rules of R9. -/

namespace Sys2Proof.Machine

/-- One row of the settings table of R7: the id, the fixed range and the default. -/
structure SettingRow where
  id : Nat
  lo : Nat
  hi : Nat
  dflt : Nat
deriving DecidableEq, Repr

/-- The settings table of R7, ids 1 to 20. -/
def settingRowsLow : List SettingRow :=
  [⟨1, 10, 50, 20⟩, ⟨2, 20, 1000, 100⟩, ⟨3, 40, 500, 100⟩, ⟨4, 200, 5000, 1000⟩, ⟨5, 0, 2000, 300⟩,
   ⟨6, 1, 120, 10⟩, ⟨7, 500, 1000, 900⟩, ⟨8, 100, 900, 400⟩, ⟨9, 100, 2000, 300⟩, ⟨10, 100, 1000, 400⟩,
   ⟨11, 50, 2000, 200⟩, ⟨12, 10, 2000, 100⟩, ⟨13, 100, 3000, 500⟩, ⟨14, 5, 120, 30⟩, ⟨15, 300, 5000, 1500⟩,
   ⟨16, 300, 5000, 2000⟩, ⟨17, 80, 140, 110⟩, ⟨18, 90, 160, 150⟩, ⟨19, 20, 300, 80⟩, ⟨20, 200, 900, 500⟩]

/-- The settings table of R7, ids 21 to 39. -/
def settingRowsHigh : List SettingRow :=
  [⟨21, 10, 1000, 50⟩, ⟨22, 50, 300, 125⟩, ⟨23, 0, 100, 10⟩, ⟨24, 0, 100, 5⟩, ⟨25, 0, 20000, 8000⟩,
   ⟨26, 200, 5000, 1000⟩, ⟨27, 10, 500, 50⟩, ⟨28, 150, 400, 250⟩, ⟨29, 170, 500, 350⟩, ⟨30, 190, 700, 450⟩,
   ⟨31, 5, 50, 20⟩, ⟨32, 10, 100, 30⟩, ⟨33, 100, 2000, 400⟩, ⟨34, 5, 100, 10⟩, ⟨35, 2, 50, 8⟩,
   ⟨36, 0, 1, 0⟩, ⟨37, 5, 100, 20⟩, ⟨38, 200, 5000, 1000⟩, ⟨39, 500, 10000, 2000⟩]

/-- The settings table of R7. The lower bounds of ids 18, 29 and 30 shown here are the least their
dependent bounds can be: `settingRange` computes the bound in force. -/
def settingRows : List SettingRow := settingRowsLow ++ settingRowsHigh

/-- The default of every setting, in id order (R7). -/
def settingDefaults : List Nat := settingRows.map (·.dflt)

/-! The ids of the settings, by the names of R7. -/

abbrev idPassPeriod : Nat := 1
abbrev idReportInterval : Nat := 2
abbrev idMotionStale : Nat := 3
abbrev idFallbackRecovery : Nat := 4
abbrev idTrimLimit : Nat := 5
abbrev idRotationInterval : Nat := 6
abbrev idOnRatio : Nat := 7
abbrev idOffRatio : Nat := 8
abbrev idFlapDwell : Nat := 9
abbrev idFlapTimeout : Nat := 10
abbrev idEngageThreshold : Nat := 11
abbrev idRampStep : Nat := 12
abbrev idReleaseDelay : Nat := 13
abbrev idEngagementWindow : Nat := 14
abbrev idFillTimeout : Nat := 15
abbrev idDrainTimeout : Nat := 16
abbrev idDerateStart : Nat := 17
abbrev idCutout : Nat := 18
abbrev idSlipThreshold : Nat := 19
abbrev idSlipCut : Nat := 20
abbrev idSlipStep : Nat := 21
abbrev idDrivelineTolerance : Nat := 22
abbrev idHoldKp : Nat := 23
abbrev idHoldKi : Nat := 24
abbrev idHoldMax : Nat := 25
abbrev idStandDownTime : Nat := 26
abbrev idAbandonPedal : Nat := 27
abbrev idWarm : Nat := 28
abbrev idHot : Nat := 29
abbrev idFade : Nat := 30
abbrev idHysteresis : Nat := 31
abbrev idPressureTolerance : Nat := 32
abbrev idTrackingTimeout : Nat := 33
abbrev idPollInterval : Nat := 34
abbrev idStarvation : Nat := 35
abbrev idArbiterMode : Nat := 36
abbrev idClearHoldoff : Nat := 37
abbrev idAlarmRaise : Nat := 38
abbrev idAlarmClear : Nat := 39

/-- The value of a setting in a settings record, by its id from 1 to 39. -/
def settingOf (values : List Nat) (id : Nat) : Nat := values.getD (id - 1) 0

/-- A settings record with one setting stored, by its id from 1 to 39. -/
def setSetting (values : List Nat) (id v : Nat) : List Nat := values.set (id - 1) v

/-- The range of a setting as it stands (R7): the fixed range of its row, with the bound that depends on
another setting computed from that setting's current value. -/
def settingRange (values : List Nat) (id : Nat) : Nat × Nat :=
  match settingRows.find? (·.id == id) with
  | none => (0, 0)
  | some row =>
    if id = idOffRatio then (row.lo, min row.hi (settingOf values idOnRatio - 100))
    else if id = idCutout then (settingOf values idDerateStart + 10, row.hi)
    else if id = idHot then (settingOf values idWarm + 20, row.hi)
    else if id = idFade then (settingOf values idHot + 20, row.hi)
    else (row.lo, row.hi)

/-- Lowers a setting to a bound, and says whether it was adjusted (R9). -/
def lowerTo (values : List Nat) (id bound : Nat) : List Nat × Bool :=
  if bound < settingOf values id then (setSetting values id bound, true) else (values, false)

/-- Raises a setting to a bound, and says whether it was adjusted (R9). -/
def raiseTo (values : List Nat) (id bound : Nat) : List Nat × Bool :=
  if settingOf values id < bound then (setSetting values id bound, true) else (values, false)

/-- Re-checks the settings whose range depends on the one just stored (R9), and says whether any was
adjusted. -/
def recheckDependents (values : List Nat) (id : Nat) : List Nat × Bool :=
  if id = idOnRatio then lowerTo values idOffRatio (settingOf values idOnRatio - 100)
  else if id = idDerateStart then raiseTo values idCutout (settingOf values idDerateStart + 10)
  else if id = idWarm then
    let hot := raiseTo values idHot (settingOf values idWarm + 20)
    if hot.2 then ((raiseTo hot.1 idFade (settingOf hot.1 idHot + 20)).1, true) else hot
  else if id = idHot then raiseTo values idFade (settingOf values idHot + 20)
  else (values, false)

/-- Applies one id and value pair (R9): the value is limited to the range as it stands and stored, then
the dependent settings are re-checked. The flag says whether the stored value differs from the value
sent or a dependent setting was adjusted. -/
def applySetting (values : List Nat) (id v : Nat) : List Nat × Bool :=
  let range := settingRange values id
  let stored := min (max v range.1) range.2
  let re := recheckDependents (setSetting values id stored) id
  (re.1, re.2 || decide (stored ≠ v))

/-- Applies the pairs of an accepted SETTINGS request in order (R9), and says whether any was clamped. -/
def applySettings (values : List Nat) : List (Nat × Nat) → List Nat × Bool
  | [] => (values, false)
  | (id, v) :: rest =>
    let one := applySetting values id v
    let more := applySettings one.1 rest
    (more.1, one.2 || more.2)

end Sys2Proof.Machine
end

