-- ==== Sys2Proof/Syntax.lean ====
section
/-! DEFINITION. The commands of the part: one constructor of `Instr` for each row of
spec/opcode_table.json, with the operands the row's rule names. Operands are carried as they are sent:
whether they are acceptable is judged by the command's own rule. -/

namespace Sys2Proof

/-- One per-axle entry of a chassis record (chapter 1, fields 16 + 4a to 19 + 4a). -/
structure AxleDesc where
  /-- daN per 100 kPa -/
  brakeFactor : Nat
  /-- kPa -/
  pMax : Nat
  /-- kg -/
  load : Nat
  /-- J/°C -/
  heatCap : Nat
deriving DecidableEq, Repr

/-- A chassis record as carried by CHASSIS (chapter 1, fields 0 to 11, and one entry per axle). -/
structure ChassisRecord where
  axleCount : Nat
  drive : Nat
  retarderFitted : Nat
  exhaustFitted : Nat
  radius : Nat
  ma : Nat
  na : Nat
  grossMass : Nat
  exhaustMin : Nat
  overRev : Nat
  k0 : Nat
  k1 : Nat
  axles : List AxleDesc
deriving DecidableEq, Repr

/-- The kinds of an axle route (R139, R140). -/
inductive RouteKind where
  | unrouted
  | localStage
  | remote
deriving DecidableEq, Repr

/-- One axle position of a ROUTE request: its kind (`none` for a kind that is not known) and its node
address (R140). -/
structure RouteField where
  kind : Option RouteKind
  addr : Nat
deriving DecidableEq, Repr

/-- A MOTION record as it is carried (section 11.7). A wheel speed of 0xFFFF is absent. -/
structure MotionRecord where
  wheels : Axles Nat
  engine : Nat
  gear : Nat
  clutch : Bool
  pedal : Nat
  lever : Nat
  ambient : Int
deriving DecidableEq, Repr

/-- One byte on VLRXD, and whether a gap of more than 1 ms separates it from the byte before (R179). -/
structure LineByte where
  gap : Bool
  byte : Byte
deriving DecidableEq, Repr

/-- An event at FSW: the level that the pin takes, and whether Flap Control acts on the change with it, or the change
waits to be taken (R134, R135). -/
structure SwitchEvent where
  closed : Bool
  taken : Bool
deriving DecidableEq, Repr

/-- The commands: requests of the vehicle link (each with the tag its answer copies), hand-offs taken by
the blocks, timer expiries, and events of the pins and the two links. -/
inductive Instr where
  | chassis (tag : Byte) (record : ChassisRecord)
  | settings (tag : Byte) (pairs : List (Nat × Nat))
  | tableOpen (tag : Byte) (table start : Nat)
  | tableData (tag : Byte) (fields : List Nat)
  | tableClose (tag : Byte)
  | tableRead (tag : Byte) (table first count : Nat)
  | route (tag : Byte) (axles : Axles RouteField) (retarder : Nat)
  | mask (tag : Byte) (flags : Axles Nat)
  | seedTemps (tag : Byte) (temps : List Int)
  | start (tag : Byte)
  | standDown (tag : Byte)
  | resetWarm (tag : Byte)
  | coldReset
  | motion (record : MotionRecord)
  | speedHoldUpdate
  | slipEvaluation
  | capacityRecomputation
  | motionTimerExpiry
  | recoveryExpiry
  | holdSet (tag : Byte) (setpoint : Nat)
  | holdCancel (tag : Byte)
  | assist (tag : Byte) (requester decel hold : Nat)
  | assistCancel (tag : Byte) (requester : Nat)
  | assistExpiry (requester : Nat)
  | mass (tag : Byte) (kg : Nat)
  | queryCapacities (tag : Byte)
  | queryAxles (tag : Byte)
  | queryFaults (tag : Byte)
  | queryEngagements (tag : Byte)
  | queryAssist (tag : Byte)
  | queryChassis (tag : Byte)
  | querySettings (tag : Byte)
  | queryRoute (tag : Byte)
  | clearFaults (tag : Byte) (sources : BitVec 16)
  | holdoffExpiry
  | vehicleLinkFrame (received : List LineByte)
  | frameAbandoned (received : List LineByte)
  | statusReport
  | pass
  | rotationTimerExpiry
  | thermalUpdate
  | retarderWant
  | retarderNodeState
  | fillTimerExpiry
  | drainTimerExpiry
  | retarderNodeLost
  | exhaustWant
  | flapSwitchChange (event : SwitchEvent)
  | flapTimerExpiry
  | pressureDemand (axle : Axle)
  | localSample (axle : Axle) (kPa : Int)
  | remoteMeasurement (axle : Axle)
  | channelPresenceChange (axle : Axle)
  | trackingTimerExpiry (axle : Axle)
  | pollTimerExpiry (addr : Nat)
  | commandFrameSent
  | actuatorAnswer (received : List Byte)
  | answerTimeout
  | abandonedWindowEnd
  | transmitFrameSent
deriving DecidableEq, Repr

end Sys2Proof
end

