-- ==== Sys2Proof/Machine/State.lean ====
section
/-! DEFINITION. The state of the Obtera 3620, block by block as chapter 0 lists what each block owns, as
plain data; the values after a cold reset; and the queue of commands that wait to be taken. -/

namespace Sys2Proof.Machine

/-! ## Time -/

/-- A running timer: the time base reading it was started at and its interval in ms. A timer that was
started keeps its interval when the setting it was read from changes (R10). -/
structure Timer where
  start : Time
  interval : Nat
deriving DecidableEq, Repr

/-! ## Mode Control (R168) -/

inductive Mode where
  | config
  | standby
  | active
  | fallback
  | standingDown
deriving DecidableEq, Repr

/-- Mode Control's items (R168). The recovery start time is held with the fallback recovery time that
stood when it was set, since the recovery expiry uses that value (R172). -/
structure ModeControl where
  mode : Mode
  standDownStart : Option Time
  recovery : Option Timer
deriving DecidableEq, Repr

/-! ## Table Store (chapter 1) -/

inductive TableState where
  | empty
  | loading
  | valid
  | invalid
deriving DecidableEq, Repr

inductive TableId where
  | retarderCurve
  | exhaustCurve
  | pedalMap
  | leverMap
  | gearTable
deriving DecidableEq, Repr

/-- One entry of a table. A map's entry has one field, and its second field is held as 0. -/
structure Entry where
  first : Nat
  second : Nat
deriving DecidableEq, Repr

/-- A table's state and its slots, each unwritten or holding an entry (R12). -/
structure Table where
  state : TableState
  slots : List (Option Entry)
deriving DecidableEq, Repr

/-- The open table and its cursor index (R12). -/
structure Cursor where
  table : TableId
  index : Nat
deriving DecidableEq, Repr

structure TableStore where
  chassis : Option ChassisRecord
  /-- the 39 settings in id order (R7) -/
  settings : List Nat
  retarderCurve : Table
  exhaustCurve : Table
  pedalMap : Table
  leverMap : Table
  gearTable : Table
  gearCount : Nat
  cursor : Option Cursor
deriving DecidableEq, Repr

/-! ## Demand Arbiter (chapter 2) -/

inductive LeadingSource where
  | nobody
  | pedal
  | assist
  | hold
  | lever
deriving DecidableEq, Repr

/-- The speed-hold state (R25). -/
structure SpeedHold where
  on : Bool
  setpoint : Nat
  accumulator : Nat
  force : Nat
deriving DecidableEq, Repr

/-- An entry of the assist table (R29). -/
structure AssistEntry where
  requester : Nat
  decel : Nat
  force : Nat
  hold : Nat
  expiry : Time
deriving DecidableEq, Repr

structure DemandArbiter where
  pedalReading : Nat
  leverReading : Nat
  pedalForce : Nat
  leverForce : Nat
  hold : SpeedHold
  assists : List AssistEntry
  mass : Nat
  total : Nat
  lead : LeadingSource
deriving DecidableEq, Repr

/-! ## Motion Input (chapter 3) -/

/-- Motion freshness. `unseen` is the manual's NONE: no valid record since the last reset. -/
inductive Freshness where
  | unseen
  | fresh
  | stale
deriving DecidableEq, Repr

/-- A gear as R43 leaves it. -/
inductive Gear where
  | neutral
  | forward (g : Nat)
  | reverse
deriving DecidableEq, Repr

inductive Driveline where
  | uncertain
  | confirmed
  | mismatch
  | decoupled
deriving DecidableEq, Repr

/-- What the last valid record published (R45). An absent wheel speed is `none`. -/
structure RoadData where
  reference : Nat
  wheels : Axles (Option Nat)
  ambient : Int
  taken : Time
deriving DecidableEq, Repr

/-- What the last taken record published (R45). -/
structure EngineData where
  speed : Nat
  gear : Gear
  clutch : Bool
  pedal : Nat
  lever : Nat
deriving DecidableEq, Repr

/-- Motion Input's items. `previous` is the previous engagement of R50. The last three fields are the
block's own present state of its condition faults (R185). -/
structure MotionInput where
  freshness : Freshness
  timer : Option Timer
  road : Option RoadData
  engine : EngineData
  driveline : Driveline
  matchCount : Nat
  mismatchCount : Nat
  previous : Option (Gear × Bool)
  clamped : Nat
  speedMissing : Axles Bool
  stalePresent : Bool
  mismatchPresent : Bool
deriving DecidableEq, Repr

/-! ## Slip Monitor (R54) -/

structure SlipMonitor where
  value : Nat
  limit : Nat
  counter : Nat
deriving DecidableEq, Repr

/-! ## Capacity Unit (R58) -/

/-- The exhaust zero reasons of R63; `nothing` is the manual's NONE. -/
inductive ExhaustZero where
  | nothing
  | unfitted
  | noTable
  | flapFaultedOpen
  | notCoupled
  | notConfirmed
  | lowEngineSpeed
  | noTorque
deriving DecidableEq, Repr

/-- The retarder zero reasons of R67; `nothing` is the manual's NONE. -/
inductive RetarderZero where
  | nothing
  | unfitted
  | noTable
  | nodeAbsent
  | nodeFault
  | oilCutout
  | noSpeed
  | noForce
deriving DecidableEq, Repr

/-- The published items of R58. -/
structure Capacity where
  exhaustTorque : Nat
  exhaust : Nat
  exhaustZero : ExhaustZero
  oilTemp : Option Int
  curveValue : Nat
  derate : Nat
  retarder : Nat
  retarderZero : RetarderZero
  fade : Axles Nat
  service : Axles Nat
  unmaskedSum : Nat
  advisedGear : Nat
deriving DecidableEq, Repr

/-- The Capacity Unit: its published items and its present state of OVERTEMP (R68). -/
structure CapacityUnit where
  items : Capacity
  overtempPresent : Bool
deriving DecidableEq, Repr

/-! ## Apportioner (R75) -/

inductive FlapWant where
  | close
  | open_
deriving DecidableEq, Repr

inductive Method where
  | nothing
  | trim
  | proportional
deriving DecidableEq, Repr

inductive Alarm where
  | clear
  | raised
deriving DecidableEq, Repr

/-- The Apportioner's items (R75). `weights` are the weights of the last pass, which QUERY AXLES carries
(R100). -/
structure Apportioner where
  target : Nat
  exhaustWant : FlapWant
  exhaustCounted : Nat
  retarderWant : Nat
  command : Nat
  retarderCounted : Nat
  serviceTotal : Nat
  surplus : Nat
  shortfall : Nat
  method : Method
  rounds : Nat
  shares : Axles Nat
  demands : Axles Nat
  eligible : Axles Bool
  weights : Axles Nat
  mask : Axles Bool
  pointer : Axle
  alarm : Alarm
  raiseMark : Option Time
  clearMark : Option Time
  passTimer : Option Timer
  rotationTimer : Option Timer
deriving DecidableEq, Repr

/-! ## Thermal Model (R101) -/

inductive Tier where
  | normal
  | warm
  | hot
  | fade
deriving DecidableEq, Repr

/-- An axle thermal record: the temperature in m°C, the tier and its changed flag (R101), and the force
used at the last running update (R115). -/
structure AxleThermal where
  temp : Int
  tier : Tier
  changed : Bool
  forceUsed : Nat
deriving DecidableEq, Repr

structure ThermalModel where
  axles : Axles AxleThermal
  ambientUsed : Int
  timer : Option Timer
  running : Bool
deriving DecidableEq, Repr

/-! ## Retarder Control (R118) -/

inductive RetarderState where
  | drained
  | filling
  | active
  | draining
  | faulted
deriving DecidableEq, Repr

/-- The node state a retarder unit answers with (section 11.7). -/
inductive NodeState where
  | drained
  | filling
  | filled
  | draining
deriving DecidableEq, Repr

/-- The content of a DEMAND for the retarder unit (R119): ENGAGE or RELEASE, and a force target. -/
structure RetarderTarget where
  engage : Bool
  force : Nat
deriving DecidableEq, Repr

/-- Retarder Control's items (R118), and the command last handed by the Apportioner (R119). -/
structure RetarderControl where
  state : RetarderState
  engagements : List Time
  heldEpisode : Bool
  releaseMark : Option Time
  fillTimer : Option Timer
  drainTimer : Option Timer
  handedCommand : Nat
  lastSent : RetarderTarget
  lastNodeState : Option NodeState
deriving DecidableEq, Repr

/-! ## Flap Control (R131) -/

inductive FlapState where
  | opened
  | closing
  | closed
  | opening
  | faulted
deriving DecidableEq, Repr

/-- Flap Control's items (R131). `solenoid` is the drive of FSOL, and `switchClosed` the reading of FSW as
the block last took it. -/
structure FlapControl where
  state : FlapState
  solenoid : Bool
  enteredOpen : Time
  timer : Option Timer
  switchClosed : Bool
deriving DecidableEq, Repr

/-! ## Channel Units (R139) -/

/-- The route an axle holds (R139). -/
inductive Route where
  | unrouted
  | localStage
  | remote (addr : Nat)
deriving DecidableEq, Repr

inductive ChannelState where
  | backup
  | commanded
  | faulted
  | unreachable
deriving DecidableEq, Repr

/-- The target of a REMOTE channel (R148): a pressure in kPa, or the release target. -/
inductive PressureTarget where
  | pressure (kPa : Nat)
  | release
deriving DecidableEq, Repr

/-- A Channel Unit's items (R139), with the sample timer of a LOCAL channel and whether its output was
switched since the last sample (R146). `sensorOut` is also the present state of SENSOR (R147). -/
structure Channel where
  route : Route
  state : Option ChannelState
  lastDemand : Nat
  measured : Option Nat
  sensorOut : Bool
  tracking : Option Timer
  lastSent : Option PressureTarget
  available : Bool
  sampling : Option Timer
  switched : Bool
deriving DecidableEq, Repr

/-! ## Actuator Link Controller (R155) -/

/-- What a node serves (R155). -/
inductive NodeUse where
  | axleModule (channel : Axle)
  | retarderUnit
deriving DecidableEq, Repr

inductive Presence where
  | unknown
  | present
  | lost
deriving DecidableEq, Repr

/-- An entry of the node table (R155). `lostPresent` is the present state of NODE_LOST (R163);
`reported` is also that of REPORTED (R164). -/
structure NodeEntry where
  addr : Nat
  use : NodeUse
  presence : Presence
  misses : Nat
  reported : Bool
  faultCode : Nat
  poll : Timer
  lostPresent : Bool
deriving DecidableEq, Repr

/-- What a request carries (section 9.2). -/
inductive Payload where
  | axleDemand (target : PressureTarget)
  | retarderDemand (target : RetarderTarget)
  | poll
deriving DecidableEq, Repr

/-- A request of the queue (R157). -/
structure Request where
  addr : Nat
  enqueued : Time
  payload : Payload
deriving DecidableEq, Repr

/-- The transaction in flight (R155, R160). `window` is none until the command frame has been sent.
`orphan` marks a transaction whose address a ROUTE has removed since it began (R156). -/
structure Transaction where
  request : Request
  start : Time
  window : Option Timer
  orphan : Bool
deriving DecidableEq, Repr

/-- The link: idle, carrying a transaction, or busy until the end of an abandoned transaction's answer
window (R165). -/
inductive LinkPhase where
  | idle
  | inFlight (t : Transaction)
  | abandoned (window : Option Timer)
deriving DecidableEq, Repr

structure LinkController where
  /-- the node table, in address order -/
  nodes : List NodeEntry
  queue : List Request
  phase : LinkPhase
  lastServed : Option Nat
deriving DecidableEq, Repr

/-! ## Fault Table (R184) -/

inductive Source where
  | axle (a : Axle)
  | retarder
  | flap
  | motion
  | driveline
  | node (addr : Nat)
deriving DecidableEq, Repr

inductive FaultCode where
  | tracking
  | fillTimeout
  | drainTimeout
  | stuckOpen
  | stuckClosed
  | nodeLost
  | reported
  | overtemp
  | staleMotion
  | speedMissing
  | mismatch
  | sensor
deriving DecidableEq, Repr

/-- An entry of the fault table (R184). Its kind is fixed by its code. -/
structure FaultEntry where
  source : Source
  code : FaultCode
  present : Bool
  first : Time
  last : Time
  count : Nat
deriving DecidableEq, Repr

/-- A held clear (R186): the request's tag, its source mask, the node addresses waited for and the
holdoff timer. -/
structure HeldClear where
  tag : Byte
  sources : BitVec 16
  waiting : List Nat
  holdoff : Timer
deriving DecidableEq, Repr

structure FaultTable where
  entries : List FaultEntry
  overflow : Nat
  held : Option HeldClear
deriving DecidableEq, Repr

/-! ## Transition flags (R182) -/

structure Flags where
  alarmRaised : Bool
  alarmCleared : Bool
  limitSet : Bool
  limitCleared : Bool
  fallbackEntered : Bool
  fallbackLeft : Bool
  standDownAbandoned : Bool
  assistDropped : Bool
  faultsChanged : Bool
  windowHeld : Bool
  modeChanged : Bool
deriving DecidableEq, Repr

/-! ## Answers and reports -/

/-- The refusal reasons, with the index that NOT_READY (an order number of R169 and an item's index) and
BAD_VALUE carry. -/
inductive Reason where
  | mode
  | notReady (order index : Nat)
  | alreadySet
  | full
  | notFound
  | overrun
  | noTableOpen
  | badValue (index : Nat)
  | busy
  | unknownKind
  | badLength
deriving DecidableEq, Repr

inductive AnswerCode where
  | done
  | clamped
  | refused (r : Reason)
deriving DecidableEq, Repr

/-- An axle's part of the QUERY AXLES answer (R100, R115, R154). -/
structure AxleReport where
  share : Nat
  demand : Nat
  eligible : Bool
  weight : Nat
  masked : Bool
  temp : Int
  tier : Tier
  tierChanged : Bool
  forceUsed : Nat
  route : Route
  state : Option ChannelState
  available : Bool
  lastDemand : Nat
  measured : Option Nat
  sensorOut : Bool
  trackingLeft : Option Nat
  /-- for a REMOTE channel, the last target sent -/
  lastSent : Option PressureTarget
deriving DecidableEq, Repr

/-- What the QUERY AXLES answer carries beside the axles' records (R100, R115). -/
structure PassReport where
  pointer : Axle
  rotationLeft : Option Nat
  target : Nat
  exhaustWant : FlapWant
  retarderWant : Nat
  serviceTotal : Nat
  method : Method
  rounds : Nat
  ambientUsed : Int
  running : Bool
  thermalLeft : Option Nat
deriving DecidableEq, Repr

/-- The QUERY CAPACITIES answer (R73): the per-axle items are the fade factor and the service capacity. -/
structure CapacityReport where
  exhaustTorque : Nat
  exhaust : Nat
  exhaustZero : ExhaustZero
  oilTemp : Option Int
  curveValue : Nat
  derate : Nat
  retarder : Nat
  retarderZero : RetarderZero
  axles : List (Nat × Nat)
  unmaskedSum : Nat
  slipValue : Nat
  slipLimit : Nat
  advisedGear : Nat
deriving DecidableEq, Repr

/-- The QUERY ENGAGEMENTS answer (R138). -/
structure EngagementReport where
  state : RetarderState
  lastNodeState : Option NodeState
  lastSent : RetarderTarget
  ages : List Nat
  heldEpisode : Bool
  fillLeft : Option Nat
  drainLeft : Option Nat
  flapLeft : Option Nat
  releaseAge : Option Nat
  flap : FlapState
  switchClosed : Bool
  solenoid : Bool
  sinceOpen : Nat
deriving DecidableEq, Repr

/-- An assist entry as the QUERY ASSIST answer carries it: with the time remaining (R41). -/
structure AssistReport where
  requester : Nat
  decel : Nat
  force : Nat
  hold : Nat
  left : Nat
deriving DecidableEq, Repr

/-- The QUERY ASSIST answer (R41). -/
structure DemandReport where
  pedalReading : Nat
  pedalForce : Nat
  leverReading : Nat
  leverForce : Nat
  hold : SpeedHold
  mass : Nat
  total : Nat
  lead : LeadingSource
  assists : List AssistReport
deriving DecidableEq, Repr

/-- A request queued for a node, as the QUERY ROUTE answer carries it: its age and its payload (R167). -/
structure QueuedReport where
  age : Nat
  payload : Payload
deriving DecidableEq, Repr

/-- A node record of the QUERY ROUTE answer (R167). -/
structure NodeReport where
  addr : Nat
  use : NodeUse
  presence : Presence
  misses : Nat
  faultCode : Nat
  reported : Bool
  pollLeft : Nat
  queued : List QueuedReport
deriving DecidableEq, Repr

/-- The QUERY ROUTE answer (R154, R167). The transaction in flight is its address and whether it serves a
DEMAND. -/
structure RouteReport where
  routes : Axles Route
  retarder : Option Nat
  nodes : List NodeReport
  inFlight : Option (Nat × Bool)
  lastServed : Option Nat
deriving DecidableEq, Repr

/-- A slot of the TABLE_READ answer (R19): the written marker, and the entry's fields, zero when it is unwritten. -/
structure SlotReport where
  written : Bool
  entry : Entry
deriving DecidableEq, Repr

/-- The TABLE_READ answer (R19), with each slot asked for in ascending index. -/
structure TableReport where
  state : TableState
  cursor : Option Nat
  gearCount : Option Nat
  slots : List SlotReport
deriving DecidableEq, Repr

/-- The data an answer returns. -/
inductive AnswerData where
  | nothing
  | table (r : TableReport)
  | capacities (r : CapacityReport)
  | axles (axles : List AxleReport) (pass : PassReport)
  | faults (entries : List FaultEntry) (overflow : Nat) (heldLeft : Option Nat)
  | engagements (r : EngagementReport)
  | demand (r : DemandReport)
  | chassis (r : ChassisRecord)
  | settings (values : List Nat)
  | route (r : RouteReport)
deriving DecidableEq, Repr

/-- What a block gives back for a request: an answer code and the data returned. -/
structure Reply where
  code : AnswerCode
  data : AnswerData
deriving DecidableEq, Repr

/-- An answer frame's content (R180): the tag and the kind of the request, and the reply. -/
structure Answer where
  tag : Byte
  kind : Byte
  reply : Reply
deriving DecidableEq, Repr

/-- An axle's block of the STATUS report. `state` is the channel state, none for a channel not routed. -/
structure AxleStatus where
  share : Nat
  demand : Nat
  measured : Nat
  celsius : Int
  tier : Tier
  tierChanged : Bool
  state : Option ChannelState
  masked : Bool
deriving DecidableEq, Repr

/-- The contents of a STATUS report (R181). -/
structure StatusReport where
  mode : Mode
  flags : Flags
  lead : LeadingSource
  total : Nat
  slipLimit : Nat
  exhaustCapacity : Nat
  retarderCapacity : Nat
  exhaustCounted : Nat
  command : Nat
  retarder : RetarderState
  flap : FlapState
  engagements : Nat
  driveline : Driveline
  advisedGear : Nat
  alarm : Alarm
  shortfall : Nat
  surplus : Nat
  faultsPresent : Nat
  clamped : Nat
  linkErrors : Nat
  axles : Axles AxleStatus
deriving DecidableEq, Repr

/-- A frame formed for VLTXD. -/
inductive Frame where
  | answer (a : Answer)
  | status (r : StatusReport)
deriving DecidableEq, Repr

/-! ## Vehicle Link Interface (R179 to R181) -/

/-- `rx` is the receive frame in progress: none while hunting, or the bytes received after the sync.
`tx` holds the frames formed and not yet sent whole, the one being sent first. -/
structure VehicleLink where
  rx : Option (List Byte)
  errors : Nat
  tx : List Frame
  report : Timer
deriving DecidableEq, Repr

/-! ## Hand-offs between blocks -/

/-- What one block has handed another and the other has not yet taken as its event (R46, R59, R77,
R162, R163). -/
inductive Handoff where
  /-- to the Demand Arbiter: pedal, lever and, for a valid record, the reference speed -/
  | demandRecord (pedal lever : Nat) (reference : Option Nat)
  /-- to the Slip Monitor: reference speed, drive axle speed, and whether a non-driven speed is present -/
  | slipRecord (reference : Nat) (drive : Option Nat) (nonDriven : Bool)
  /-- to the Capacity Unit: an event of R59 -/
  | recompute
  | retarderWant (want command : Nat)
  | exhaustWant (want : FlapWant)
  | pressureDemand (axle : Axle) (kPa : Nat)
  | retarderNodeState (st : NodeState)
  | retarderNodeLost
  | remoteMeasurement (axle : Axle) (kPa : Nat)
  /-- to a Channel Unit: its node became PRESENT (true) or LOST (false) -/
  | channelPresence (axle : Axle) (present : Bool)
deriving DecidableEq, Repr

/-! ## The part -/

/-- Everything the manual gives the part, block by block. `fswClosed` is the level of the position switch
pin FSW. `handed` holds the hand-offs in the order they were made. -/
structure Part where
  now : Time
  control : ModeControl
  store : TableStore
  demand : DemandArbiter
  motion : MotionInput
  slip : SlipMonitor
  cap : CapacityUnit
  app : Apportioner
  thermal : ThermalModel
  ret : RetarderControl
  flap : FlapControl
  chan : Axles Channel
  retRoute : Option Nat
  link : LinkController
  faults : FaultTable
  flags : Flags
  vl : VehicleLink
  fswClosed : Bool
  handed : List Handoff
deriving DecidableEq, Repr

/-- The state of the machine: the part, and the commands that wait to be taken, first in first out. -/
structure State where
  part : Part
  pending : List Instr
deriving DecidableEq, Repr

/-- The reasons the machine could stop with a fault. The manual names none: every command either takes
effect, is refused on the vehicle link, or finds nothing to act on. -/
inductive Fault where
deriving DecidableEq, Repr

/-- The reasons a command has no meaning. -/
inductive Refusal where
  /-- raised by `exec` for a row that has no meaning yet; safe, since nothing runs -/
  | notModelled (mnemonic : String)
deriving DecidableEq, Repr

/-! ## After a cold reset -/

def Table.emptyOf (slots : Nat) : Table := ⟨.empty, List.replicate slots none⟩

/-- No flag set (R182). -/
def Flags.none : Flags :=
  ⟨false, false, false, false, false, false, false, false, false, false, false⟩

/-- A Channel Unit as it is created when the chassis record is accepted (R139). The positions of a coach
without a chassis record, which have no Channel Unit, hold these values too. -/
def Channel.created : Channel :=
  { route := .unrouted, state := Option.none, lastDemand := 0, measured := Option.none, sensorOut := false,
    tracking := Option.none, lastSent := Option.none, available := false, sampling := Option.none,
    switched := false }

def SpeedHold.off : SpeedHold := ⟨false, 0, 0, 0⟩

/-- The Slip Monitor's items after either reset (R54). -/
def SlipMonitor.unlimited : SlipMonitor := ⟨0, 20000, 0⟩

def TableStore.cold : TableStore :=
  { chassis := none, settings := settingDefaults, retarderCurve := .emptyOf 12, exhaustCurve := .emptyOf 8,
    pedalMap := .emptyOf 9, leverMap := .emptyOf 6, gearTable := .emptyOf 12, gearCount := 0, cursor := none }

def DemandArbiter.cold : DemandArbiter :=
  { pedalReading := 0, leverReading := 0, pedalForce := 0, leverForce := 0, hold := .off, assists := [],
    mass := 0, total := 0, lead := .nobody }

def MotionInput.cold : MotionInput :=
  { freshness := .unseen, timer := none, road := none, engine := ⟨0, .neutral, false, 0, 0⟩,
    driveline := .uncertain, matchCount := 0, mismatchCount := 0, previous := none, clamped := 0,
    speedMissing := .replicate false, stalePresent := false, mismatchPresent := false }

def Capacity.cold : Capacity :=
  { exhaustTorque := 0, exhaust := 0, exhaustZero := .unfitted, oilTemp := none, curveValue := 0,
    derate := 1000, retarder := 0, retarderZero := .unfitted, fade := .replicate 0,
    service := .replicate 0, unmaskedSum := 0, advisedGear := 0 }

def Apportioner.cold : Apportioner :=
  { target := 0, exhaustWant := .open_, exhaustCounted := 0, retarderWant := 0, command := 0,
    retarderCounted := 0, serviceTotal := 0, surplus := 0, shortfall := 0, method := .nothing, rounds := 0,
    shares := .replicate 0, demands := .replicate 0, eligible := .replicate false,
    weights := .replicate 0, mask := .replicate false, pointer := 0, alarm := .clear, raiseMark := none,
    clearMark := none, passTimer := none, rotationTimer := none }

/-- An axle position that has no thermal record (R101). -/
def AxleThermal.absent : AxleThermal := ⟨0, .normal, false, 0⟩

def ThermalModel.cold : ThermalModel := ⟨.replicate .absent, 20, none, false⟩

def RetarderControl.cold : RetarderControl :=
  { state := .drained, engagements := [], heldEpisode := false, releaseMark := none, fillTimer := none,
    drainTimer := none, handedCommand := 0, lastSent := ⟨false, 0⟩, lastNodeState := none }

/-- Flap Control after a cold reset, by the level of the switch (R131). -/
def FlapControl.cold (switchClosed : Bool) : FlapControl :=
  { state := if switchClosed then .opening else .opened, solenoid := false, enteredOpen := 0, timer := none,
    switchClosed := switchClosed }

def LinkController.cold (phase : LinkPhase) : LinkController := ⟨[], [], phase, none⟩

/-- The Vehicle Link Interface after a cold reset (R179 to R181): the report timer runs from the release of
RSTN, at time 0, with the default report interval. -/
def VehicleLink.cold : VehicleLink := ⟨none, 0, [], ⟨0, settingOf settingDefaults idReportInterval⟩⟩

/-- The part right after a cold reset (R178), given the level of FSW and the phase the actuator link is left
in by a transaction that the reset abandoned (R166). -/
def Part.cold (fswClosed : Bool) (phase : LinkPhase) : Part :=
  { now := 0, control := ⟨.config, none, none⟩, store := .cold, demand := .cold, motion := .cold,
    slip := .unlimited, cap := ⟨.cold, false⟩, app := .cold, thermal := .cold, ret := .cold,
    flap := .cold fswClosed, chan := .replicate .created, retRoute := none, link := .cold phase,
    faults := ⟨[], 0, none⟩, flags := .none, vl := .cold, fswClosed := fswClosed, handed := [] }

/-- The machine right after a cold reset with the flap switch showing open and the actuator link idle, and no
command waiting. -/
def State.reset : State := ⟨Part.cold false .idle, []⟩

end Sys2Proof.Machine
end

