-- ==== Sys2Proof/Machine/Flags.lean ====
section
/-! DEFINITION. The transition flags (R182): how each is set, and the word in which STATUS carries them. -/

namespace Sys2Proof.Machine

namespace Part

def flagAlarmRaised (p : Part) : Part := { p with flags := { p.flags with alarmRaised := true } }
def flagAlarmCleared (p : Part) : Part := { p with flags := { p.flags with alarmCleared := true } }
def flagLimitSet (p : Part) : Part := { p with flags := { p.flags with limitSet := true } }
def flagLimitCleared (p : Part) : Part := { p with flags := { p.flags with limitCleared := true } }
def flagFallbackEntered (p : Part) : Part := { p with flags := { p.flags with fallbackEntered := true } }
def flagFallbackLeft (p : Part) : Part := { p with flags := { p.flags with fallbackLeft := true } }
def flagAbandoned (p : Part) : Part := { p with flags := { p.flags with standDownAbandoned := true } }
def flagAssistDropped (p : Part) : Part := { p with flags := { p.flags with assistDropped := true } }
def flagFaultsChanged (p : Part) : Part := { p with flags := { p.flags with faultsChanged := true } }
def flagWindowHeld (p : Part) : Part := { p with flags := { p.flags with windowHeld := true } }
def flagModeChanged (p : Part) : Part := { p with flags := { p.flags with modeChanged := true } }

end Part

/-- The flags in the bits of the STATUS layout (section 11.7): bit 0 ALARM_RAISED to bit 10 MODE_CHANGED. -/
def Flags.word (f : Flags) : Nat :=
  let bit := fun (b : Bool) (k : Nat) => if b then 2 ^ k else 0
  bit f.alarmRaised 0 + bit f.alarmCleared 1 + bit f.limitSet 2 + bit f.limitCleared 3 +
    bit f.fallbackEntered 4 + bit f.fallbackLeft 5 + bit f.standDownAbandoned 6 +
    bit f.assistDropped 7 + bit f.faultsChanged 8 + bit f.windowHeld 9 + bit f.modeChanged 10

end Sys2Proof.Machine
end

