-- ==== Sys2Proof/Machine/Operands.lean ====
section
/-! DEFINITION. How the rules read their inputs: times and timers (R2), rounding (R1), the saturating counters,
the chassis record, the settings, and the items one block reads of another. -/

namespace Sys2Proof.Machine

/-! ## Arithmetic (R1) -/

/-- A quotient rounded up. -/
def ceilDiv (a b : Nat) : Nat := (a + b - 1) / b

/-- A value limited to a range. -/
def limitTo (lo hi v : Nat) : Nat := min (max v lo) hi

def limitInt (lo hi v : Int) : Int := min (max v lo) hi

/-- A force saturated at 20000 daN. -/
def satForce (v : Nat) : Nat := min v 20000

/-- The difference of two values, whichever is larger. -/
def absDiff (a b : Nat) : Nat := (a - b) + (b - a)

/-- A point of a curve between (x0, y0) and (x1, y1) at x (R61, R65): the division is floored for a rising
part and rounded toward zero for a falling one. -/
def interpolate (x x0 y0 x1 y1 : Nat) : Nat :=
  if y0 ≤ y1 then y0 + (x - x0) * (y1 - y0) / (x1 - x0)
  else y0 - (x - x0) * (y0 - y1) / (x1 - x0)

/-! ## Time (R2) -/

/-- The time elapsed at `now` since `start`, on the difference modulo 2³². -/
def elapsed (now start : Time) : Nat := (now - start).toNat

/-- A reading that lies an interval after another. -/
def timeAfter (t : Time) (ms : Nat) : Time := t + BitVec.ofNat 32 ms

/-- Whether a timer's interval has elapsed. -/
def Timer.due (t : Timer) (now : Time) : Bool := decide (t.interval ≤ elapsed now t.start)

/-- The time base reading at which a timer expires. -/
def Timer.expiry (t : Timer) : Time := timeAfter t.start t.interval

/-- The time to a timer's expiry, 0 once it is due. -/
def Timer.left (t : Timer) (now : Time) : Nat := t.interval - elapsed now t.start

/-- Whether a timer that may be stopped is running and due. -/
def timerDue (t : Option Timer) (now : Time) : Bool :=
  match t with
  | some t => t.due now
  | none => false

/-- The time to the expiry of a timer, or none when it is stopped. -/
def timerLeft (t : Option Timer) (now : Time) : Option Nat := t.map (·.left now)

namespace Part

/-- A timer started now. -/
def startTimer (p : Part) (ms : Nat) : Option Timer := some ⟨p.now, ms⟩

/-! ## The coach description -/

/-- A setting as it stands (R10). -/
def setting (p : Part) (id : Nat) : Nat := settingOf p.store.settings id

/-- The axle count, 0 while no chassis record is set. -/
def axleCount (p : Part) : Nat :=
  match p.store.chassis with
  | some c => c.axleCount
  | none => 0

/-- Whether an axle position lies below the axle count. -/
def hasAxle (p : Part) (a : Axle) : Bool := decide (a.val < p.axleCount)

/-- The axles of the coach, in index order. -/
def axles (p : Part) : List Axle := Axle.all.filter p.hasAxle

/-- The chassis record's entry of an axle; all zero where there is none. -/
def axleDesc (p : Part) (a : Axle) : AxleDesc :=
  match p.store.chassis with
  | some c => c.axles.getD a.val ⟨0, 0, 0, 0⟩
  | none => ⟨0, 0, 0, 0⟩

/-- Whether an axle is the drive axle. -/
def isDrive (p : Part) (a : Axle) : Bool :=
  match p.store.chassis with
  | some c => a.val == c.drive
  | none => false

/-- Whether a chassis record is set and says the retarder is fitted. -/
def retarderFitted (p : Part) : Bool :=
  match p.store.chassis with
  | some c => c.retarderFitted == 1
  | none => false

/-- Whether a chassis record is set and says the exhaust is fitted. -/
def exhaustFitted (p : Part) : Bool :=
  match p.store.chassis with
  | some c => c.exhaustFitted == 1
  | none => false

/-! ## Items read across blocks -/

/-- The reference speed of the road data, if it holds one (R45). -/
def reference (p : Part) : Option Nat := p.motion.road.map (·.reference)

/-- The ambient of the road data, read as 20 °C while it is empty (R45). -/
def ambient (p : Part) : Int :=
  match p.motion.road with
  | some r => r.ambient
  | none => 20

/-- Passes run in ACTIVE and STANDING_DOWN (R76). -/
def passesRun (p : Part) : Bool :=
  match p.control.mode with
  | .active | .standingDown => true
  | .config | .standby | .fallback => false

/-- The node table's entry of an address. -/
def node (p : Part) (addr : Nat) : Option NodeEntry := p.link.nodes.find? (·.addr == addr)

/-- A node is available to its owner while it is PRESENT with no reported fault (R155). -/
def nodeAvailable (p : Part) (addr : Nat) : Bool :=
  match p.node addr with
  | some e => decide (e.presence = .present) && !e.reported
  | none => false

/-- The node table's entry of the retarder unit. -/
def retarderNode (p : Part) : Option NodeEntry := p.retRoute.bind p.node

/-- Whether a retarder node is routed and PRESENT. -/
def retarderPresent (p : Part) : Bool :=
  match p.retarderNode with
  | some e => decide (e.presence = .present)
  | none => false

/-- Whether a reported fault of the retarder node is present. -/
def retarderReported (p : Part) : Bool :=
  match p.retarderNode with
  | some e => e.reported
  | none => false

/-- Whether the flap is FAULTED with its switch showing open (R63, R71). -/
def flapFaultedOpen (p : Part) : Bool := decide (p.flap.state = .faulted) && !p.flap.switchClosed

/-- Whether any axle's tier is FADE (R96, R176). -/
def anyFade (p : Part) : Bool := p.axles.any fun a => decide ((p.thermal.axles.get a).tier = .fade)

/-- A table by its id (chapter 1). -/
def table (p : Part) : TableId → Table
  | .retarderCurve => p.store.retarderCurve
  | .exhaustCurve => p.store.exhaustCurve
  | .pedalMap => p.store.pedalMap
  | .leverMap => p.store.leverMap
  | .gearTable => p.store.gearTable

/-- Whether a table is VALID, and so served to its consumer (R20). -/
def tableValid (p : Part) (id : TableId) : Bool := decide ((p.table id).state = .valid)

end Part

/-- The entry of a slot, all zero where it is unwritten. -/
def Table.entry (t : Table) (k : Nat) : Entry := (t.slots.getD k none).getD ⟨0, 0⟩

/-- The number of slots of a table (chapter 1). -/
def TableId.slots : TableId → Nat
  | .retarderCurve => 12
  | .exhaustCurve => 8
  | .pedalMap => 9
  | .leverMap => 6
  | .gearTable => 12

/-- The table of an id from 1 to 5. -/
def tableOfId (id : Nat) : Option TableId :=
  match id with
  | 1 => some .retarderCurve
  | 2 => some .exhaustCurve
  | 3 => some .pedalMap
  | 4 => some .leverMap
  | 5 => some .gearTable
  | _ => none

/-- The id of a table. -/
def TableId.code : TableId → Nat
  | .retarderCurve => 1
  | .exhaustCurve => 2
  | .pedalMap => 3
  | .leverMap => 4
  | .gearTable => 5

/-- The kind of a fault code, true for a trip (R184). -/
def FaultCode.isTrip : FaultCode → Bool
  | .tracking | .fillTimeout | .drainTimeout | .stuckOpen | .stuckClosed => true
  | .nodeLost | .reported | .overtemp | .staleMotion | .speedMissing | .mismatch | .sensor => false

end Sys2Proof.Machine
end

