-- ==== Sys2Proof/Machine/Ops.lean ====
section
/-! DEFINITION. The operations the blocks share: handing on and taking what is handed, forming a frame and an
answer, recording a fault's occurrence and its end, and running a block's operation on the machine. -/

namespace Sys2Proof.Machine

/-- The outcome of one command. -/
abbrev Result := Host.Outcome State Fault Refusal

/-- A command whose whole effect is on the part: the waiting commands stay as they are. -/
def State.onPart (s : State) (f : Part → Part) : Result := .next { s with part := f s.part }

/-! ## Hand-offs -/

/-- Where a hand-off is taken: hand-offs of one lane are taken in the order they were made. -/
inductive Lane where
  | demandRecord
  | slipRecord
  | capacity
  | retarderWant
  | exhaustWant
  | pressure (axle : Axle)
  | retarderLink
  | channelLink (axle : Axle)
deriving DecidableEq, Repr

def Handoff.lane : Handoff → Lane
  | .demandRecord _ _ _ => .demandRecord
  | .slipRecord _ _ _ => .slipRecord
  | .recompute => .capacity
  | .retarderWant _ _ => .retarderWant
  | .exhaustWant _ => .exhaustWant
  | .pressureDemand a _ => .pressure a
  | .retarderNodeState _ => .retarderLink
  | .retarderNodeLost => .retarderLink
  | .remoteMeasurement a _ => .channelLink a
  | .channelPresence a _ => .channelLink a

/-- A hand-off that a pass makes (R77). -/
def Lane.ofPass : Lane → Bool
  | .retarderWant | .exhaustWant | .pressure _ => true
  | .demandRecord | .slipRecord | .capacity | .retarderLink | .channelLink _ => false

/-- A hand-off that the Actuator Link Controller makes to a node's owner (R162, R163). -/
def Lane.ofLink : Lane → Bool
  | .retarderLink | .channelLink _ => true
  | .demandRecord | .slipRecord | .capacity | .retarderWant | .exhaustWant | .pressure _ => false

/-- The loss of a node, handed to its owner (R163). -/
def Handoff.isLoss : Handoff → Bool
  | .retarderNodeLost => true
  | .channelPresence _ present => !present
  | .demandRecord _ _ _ | .slipRecord _ _ _ | .recompute | .retarderWant _ _ | .exhaustWant _
  | .pressureDemand _ _ | .retarderNodeState _ | .remoteMeasurement _ _ => false

namespace Part

/-- Hands something on to the block that takes it. -/
def handOn (p : Part) (h : Handoff) : Part := { p with handed := p.handed ++ [h] }

/-- The oldest hand-off of a lane, the one its block takes next. -/
def waiting (p : Part) (l : Lane) : Option Handoff := p.handed.find? fun h => decide (h.lane = l)

/-- The part once the oldest hand-off of a lane has been taken. -/
def taken (p : Part) (l : Lane) : Part :=
  { p with handed := p.handed.eraseP fun h => decide (h.lane = l) }

/-- Discards what waits in the lanes named. -/
def discardLanes (p : Part) (f : Lane → Bool) : Part :=
  { p with handed := p.handed.filter fun h => !f h.lane }

/-- Hands the Capacity Unit an event of R59. -/
def needCapacities (p : Part) : Part := p.handOn .recompute

/-! ## Frames formed (R180) -/

/-- Forms a frame. It is sent after those formed before it. -/
def form (p : Part) (f : Frame) : Part := { p with vl := { p.vl with tx := p.vl.tx ++ [f] } }

/-- Forms the answer to a request. -/
def answer (p : Part) (kind tag : Byte) (r : Reply) : Part := p.form (.answer ⟨tag, kind, r⟩)

end Part

/-- DONE with no data. -/
def Reply.done : Reply := ⟨.done, .nothing⟩

/-- CLAMPED when something was limited, DONE otherwise. -/
def Reply.applied (clamped : Bool) : Reply := ⟨if clamped then .clamped else .done, .nothing⟩

/-- DONE with data. -/
def Reply.carrying (d : AnswerData) : Reply := ⟨.done, d⟩

/-- REFUSED with a reason. -/
def Reply.refused (r : Reason) : Reply := ⟨.refused r, .nothing⟩

namespace Part

/-- Takes a request: the owning block's operation, then its answer (R180). -/
def request (p : Part) (kind tag : Byte) (op : Part → Part × Reply) : Part :=
  let r := op p
  r.1.answer kind tag r.2

/-! ## The fault table (R185) -/

end Part

/-- Whether an entry is the one of a source and code. -/
def FaultEntry.is (e : FaultEntry) (src : Source) (code : FaultCode) : Bool :=
  decide (e.source = src) && decide (e.code = code)

/-- A new entry at an occurrence. -/
def FaultEntry.new (now : Time) (src : Source) (code : FaultCode) : FaultEntry :=
  ⟨src, code, true, now, now, 1⟩

/-- An entry at a further occurrence. -/
def FaultEntry.again (e : FaultEntry) (now : Time) : FaultEntry :=
  { e with present := true, last := now, count := min (e.count + 1) 255 }

/-- The fault table after an occurrence, and whether anything changed (R185). -/
def FaultTable.occurred (t : FaultTable) (now : Time) (src : Source) (code : FaultCode) :
    FaultTable × Bool :=
  if t.entries.any (·.is src code) then
    ({ t with entries := t.entries.map fun e => if e.is src code then e.again now else e }, true)
  else if t.entries.length < 16 then
    ({ t with entries := t.entries ++ [.new now src code] }, true)
  else if t.entries.any (!·.present) then
    ({ t with entries := t.entries.eraseP (!·.present) ++ [.new now src code] }, true)
  else if t.overflow < 255 then ({ t with overflow := t.overflow + 1 }, true)
  else (t, false)

/-- The fault table after the end of a condition, and whether anything changed (R185). -/
def FaultTable.ended (t : FaultTable) (src : Source) (code : FaultCode) : FaultTable × Bool :=
  ({ t with entries := t.entries.map fun e => if e.is src code then { e with present := false } else e },
    t.entries.any fun e => e.is src code && e.present)

namespace Part

/-- Reports an occurrence to the Fault Table. A change sets FAULTS_CHANGED. -/
def faultOccurs (p : Part) (src : Source) (code : FaultCode) : Part :=
  let r := p.faults.occurred p.now src code
  let p := { p with faults := r.1 }
  if r.2 then p.flagFaultsChanged else p

/-- Reports the end of a condition to the Fault Table. A change sets FAULTS_CHANGED. -/
def faultEnds (p : Part) (src : Source) (code : FaultCode) : Part :=
  let r := p.faults.ended src code
  let p := { p with faults := r.1 }
  if r.2 then p.flagFaultsChanged else p

end Part

end Sys2Proof.Machine
end

