-- ==== Sys2Proof/Machine/Slip.lean ====
section
/-! DEFINITION. The Slip Monitor (chapter 3): evaluation of a valid record, the cut and the recovery of the slip
limit. -/

namespace Sys2Proof.Machine

/-- The slip value of a reference speed and a drive axle speed, in ‰ (R55). -/
def slipValueOf (reference drive : Nat) : Nat := (reference - drive) * 1000 / reference

namespace Part

def setSlip (p : Part) (m : SlipMonitor) : Part := { p with slip := m }

/-- The limit a cut computes from the counted endurance forces (R56). -/
def cutLimit (p : Part) : Nat :=
  min (satForce ((p.app.exhaustCounted + p.app.retarderCounted) * p.setting idSlipCut / 1000)) p.slip.limit

/-- An over-threshold record of a slip value (R56). -/
def slipOver (p : Part) (value : Nat) : Part :=
  let counter := p.slip.counter + 1
  if p.slip.limit = 20000 ∨ 3 ≤ counter then
    let new := p.cutLimit
    let q := p.setSlip ⟨value, new, 0⟩
    if p.slip.limit = 20000 ∧ new < 20000 then q.flagLimitSet else q
  else p.setSlip ⟨value, p.slip.limit, counter⟩

/-- A recovering record of a slip value (R57). -/
def slipRecover (p : Part) (value : Nat) : Part :=
  if p.slip.limit < 20000 then
    let raised := p.slip.limit + p.setting idSlipStep
    if p.cap.items.exhaust + p.cap.items.retarder ≤ raised ∨ 20000 ≤ raised then
      (p.setSlip ⟨value, 20000, 0⟩).flagLimitCleared
    else p.setSlip ⟨value, raised, 0⟩
  else p.setSlip ⟨value, p.slip.limit, 0⟩

/-- The Slip Monitor takes a handed valid record (R55): it evaluates it while passes run, at 300 cm/s or more, with
the drive axle's speed and a non-driven speed present. -/
def takeSlipRecord (p : Part) (reference : Nat) (drive : Option Nat) (nonDriven : Bool) : Part :=
  match drive with
  | some d =>
    if p.passesRun ∧ 300 ≤ reference ∧ nonDriven then
      let value := slipValueOf reference d
      if p.setting idSlipThreshold < value then p.slipOver value else p.slipRecover value
    else p
  | none => p

/-- SLIP_EVALUATION: the Slip Monitor takes the oldest record handed to it. -/
def slipEvaluation (p : Part) : Part :=
  match p.waiting .slipRecord with
  | some (.slipRecord reference drive nonDriven) =>
    (p.taken .slipRecord).takeSlipRecord reference drive nonDriven
  | _ => p

end Part

/-- SLIP_EVALUATION (R55). -/
def execSlipEvaluation (s : State) : Result := s.onPart (·.slipEvaluation)

end Sys2Proof.Machine
end

