-- ==== Sys2Proof/Machine/LinkQueue.lean ====
section
/-! DEFINITION. The request queue of the actuator link: posting and merging (R157), and the choice of the next
request (R159). -/

namespace Sys2Proof.Machine

def Payload.isDemand : Payload → Bool
  | .axleDemand _ => true
  | .retarderDemand _ => true
  | .poll => false

/-- Whether a request is a DEMAND for an address. -/
def Request.demandFor (r : Request) (addr : Nat) : Bool := r.addr == addr && r.payload.isDemand

/-- Whether a request is a POLL for an address. -/
def Request.pollFor (r : Request) (addr : Nat) : Bool := r.addr == addr && !r.payload.isDemand

/-- Whether a request has waited for the starvation limit (R159). -/
def Request.starved (r : Request) (now : Time) (limit : Nat) : Bool :=
  decide (limit ≤ elapsed now r.enqueued)

/-- Whether request `a` goes before request `b`: the earlier enqueue time first, then the lower address, then a
DEMAND before a POLL (R159). -/
def Request.before (now : Time) (a b : Request) : Bool :=
  decide (elapsed now b.enqueued < elapsed now a.enqueued) ||
    (decide (elapsed now a.enqueued = elapsed now b.enqueued) &&
      (decide (a.addr < b.addr) || (a.addr == b.addr && a.payload.isDemand)))

/-- The request of a list that goes before the others. -/
def earliest (now : Time) : List Request → Option Request
  | [] => none
  | r :: rest =>
    match earliest now rest with
    | none => some r
    | some b => if Request.before now b r then some b else some r

/-- The addresses of the node table in the order of ROTATING mode: those after the last served node, then the
others, each ascending. -/
def rotation (addrs : List Nat) (last : Option Nat) : List Nat :=
  match last with
  | none => addrs
  | some l => addrs.filter (fun a => decide (l < a)) ++ addrs.filter (fun a => decide (a ≤ l))

/-- What ROTATING mode serves for an address: its DEMAND if it has one queued, its POLL otherwise. -/
def queuedFor (queue : List Request) (addr : Nat) : Option Request :=
  match queue.find? (·.demandFor addr) with
  | some r => some r
  | none => queue.find? (·.pollFor addr)

/-- The request R159 chooses of a queue, or none when the queue holds none. -/
def chooseRequest (now : Time) (limit : Nat) (rotating : Bool) (addrs : List Nat) (last : Option Nat)
    (queue : List Request) : Option Request :=
  match earliest now (queue.filter fun r => r.starved now limit) with
  | some r => some r
  | none =>
    if rotating then (rotation addrs last).findSome? (queuedFor queue)
    else
      match earliest now (queue.filter fun r => r.payload.isDemand) with
      | some r => some r
      | none => earliest now (queue.filter fun r => !r.payload.isDemand)

namespace Part

/-- Whether a node's owner has still to take the loss of the node (assumption 10). -/
def lossWaiting (p : Part) : Bool := p.handed.any (·.isLoss)

/-- The transaction of a request begins (R160): it leaves the queue, and its node is the last served. -/
def beginTransaction (p : Part) (r : Request) : Part :=
  { p with link := { p.link with
      queue := p.link.queue.erase r
      phase := .inFlight ⟨r, p.now, none, false⟩
      lastServed := some r.addr } }

/-- While the link is idle, chooses the next request and begins its transaction (R159). The owner of a node that
has just become LOST posts before the choice (R163, assumption 10). -/
def chooseNext (p : Part) : Part :=
  match p.link.phase with
  | .idle =>
    if p.lossWaiting then p
    else
      match chooseRequest p.now (p.setting idStarvation) (p.setting idArbiterMode == 1)
          (p.link.nodes.map (·.addr)) p.link.lastServed p.link.queue with
      | some r => p.beginTransaction r
      | none => p
  | .inFlight _ => p
  | .abandoned _ => p

end Part

/-- A queue with a request placed in it by R157: a DEMAND replaces the payload of the DEMAND queued for its node,
and a POLL is not added beside a request for its node. -/
def placeRequest (queue : List Request) (now : Time) (addr : Nat) (payload : Payload) : List Request :=
  if payload.isDemand then
    if queue.any (·.demandFor addr) then
      queue.map fun r => if r.demandFor addr then { r with payload := payload } else r
    else queue ++ [⟨addr, now, payload⟩]
  else if queue.any (fun r => r.addr == addr) then queue
  else queue ++ [⟨addr, now, payload⟩]

namespace Part

/-- Posts a request (R157). A request for an address that is not in the node table is discarded. An idle link
chooses at once (R159). -/
def post (p : Part) (addr : Nat) (payload : Payload) : Part :=
  match p.node addr with
  | some _ =>
    { p with link := { p.link with queue := placeRequest p.link.queue p.now addr payload } }.chooseNext
  | none => p

end Part

end Sys2Proof.Machine
end

