-- ==== Sys2Proof/Machine/Channels.lean ====
section
/-! DEFINITION. The Channel Units (chapter 8): availability, entering and leaving COMMANDED, the target of a
remote channel, samples, measurements and tracking, and the withdrawal of a share. -/

namespace Sys2Proof.Machine

namespace Part

/-! ## Share withdrawal (R92) -/

/-- The Apportioner withdraws an axle's share while passes run (R92): the share joins the shortfall, share and
pressure demand become 0, and a demand of 0 is handed to the channel. -/
def withdrawShare (p : Part) (a : Axle) : Part :=
  if p.passesRun then
    { p with app := { p.app with
        shortfall := p.app.shortfall + p.app.shares.get a
        shares := p.app.shares.set a 0
        demands := p.app.demands.set a 0 } }.handOn (.pressureDemand a 0)
  else p

/-! ## Channel state -/

def setChannel (p : Part) (a : Axle) (c : Channel) : Part := { p with chan := p.chan.set a c }

end Part

/-- The target of a REMOTE channel (R148). -/
def Channel.target (c : Channel) : PressureTarget :=
  match c.state with
  | some .commanded => .pressure c.lastDemand
  | some .backup | some .faulted | some .unreachable | none => .release

/-- Whether a LOCAL channel's output stage is driven (R145): the level of MODn. -/
def Channel.driven (c : Channel) : Bool :=
  decide (c.route = .localStage) && decide (c.state = some .commanded)

/-- A channel as it leaves its state for another that is not COMMANDED (R144): a channel that leaves COMMANDED
drops its demand, stops its tracking timer, and switches a local output off. -/
def Channel.released (c : Channel) (st : ChannelState) : Channel :=
  if c.state = some .commanded then
    { c with state := some st, lastDemand := 0, tracking := none,
             switched := c.switched || decide (c.route = .localStage) }
  else { c with state := some st }

/-- A channel as it enters UNREACHABLE (R149). -/
def Channel.unreachable (c : Channel) : Channel :=
  { c.released .unreachable with lastDemand := 0, tracking := none, measured := none }

namespace Part

/-- A REMOTE channel posts its target when it differs from the last target sent (R148). -/
def postTarget (p : Part) (a : Axle) : Part :=
  let c := p.chan.get a
  match c.route with
  | .remote addr =>
    if c.lastSent = some c.target then p
    else (p.setChannel a { c with lastSent := some c.target }).post addr (.axleDemand c.target)
  | .unrouted => p
  | .localStage => p

/-- A channel changes to a state other than COMMANDED (R144). -/
def releaseChannel (p : Part) (a : Axle) (st : ChannelState) : Part :=
  (p.setChannel a ((p.chan.get a).released st)).postTarget a

/-- Whether a channel is available (R142). A channel that is UNREACHABLE has yet to take its node's return, and is
not available (assumption 11). -/
def channelAvailable (p : Part) (a : Axle) : Bool :=
  let c := p.chan.get a
  match c.route with
  | .unrouted => false
  | .localStage => decide (c.state ≠ some .faulted) && !c.sensorOut
  | .remote addr =>
    decide (c.state ≠ some .faulted) && decide (c.state ≠ some .unreachable) && p.nodeAvailable addr

/-- Judges a channel's availability again (R142). A COMMANDED channel that is not available becomes BACKUP
(R144); a change is published, handed to the Capacity Unit, and withdraws the share of a channel that is no
longer available (R92). -/
def judgeChannel (p : Part) (a : Axle) : Part :=
  let avail := p.channelAvailable a
  let p := if !avail && decide ((p.chan.get a).state = some .commanded) then p.releaseChannel a .backup else p
  if (p.chan.get a).available = avail then p
  else
    let p := (p.setChannel a { p.chan.get a with available := avail }).needCapacities
    if avail then p else p.withdrawShare a

/-- The channels when passes stop (R144): each COMMANDED channel becomes BACKUP. -/
def stopChannel (p : Part) (a : Axle) : Part :=
  if (p.chan.get a).state = some .commanded then p.releaseChannel a .backup else p

def stopChannels (p : Part) : Part := Axle.all.foldl stopChannel p

/-! ## Pressure demands (R143) -/

/-- A channel takes a handed pressure demand (R143). Entering COMMANDED switches a local output. R143 and R144 speak of a
demand handed at a pass: the model's choice is that the demand of 0 which R92 hands outside a pass is taken in the same
way, so that an available channel in BACKUP enters COMMANDED with 0 by it (assumption 32). -/
def takeDemand (p : Part) (a : Axle) (kPa : Nat) : Part :=
  let c := p.chan.get a
  if !p.passesRun then p
  else if c.state = some .commanded then (p.setChannel a { c with lastDemand := kPa }).postTarget a
  else if c.state = some .backup ∧ c.available then
    (p.setChannel a
      { c with state := some .commanded, lastDemand := kPa,
               switched := c.switched || decide (c.route = .localStage) }).postTarget a
  else p

/-- PRESSURE_DEMAND: the channel takes the oldest demand handed to it. -/
def pressureDemand (p : Part) (a : Axle) : Part :=
  match p.waiting (.pressure a) with
  | some (.pressureDemand _ kPa) => (p.taken (.pressure a)).takeDemand a kPa
  | _ => p

/-! ## Measurements (R146 to R150) -/

/-- Compares a measurement with the last demand (R150). -/
def trackPressure (p : Part) (a : Axle) (kPa : Nat) : Part :=
  let c := p.chan.get a
  if c.state = some .commanded then
    if p.setting idPressureTolerance < absDiff kPa c.lastDemand then
      match c.tracking with
      | some _ => p
      | none => p.setChannel a { c with tracking := p.startTimer (p.setting idTrackingTimeout) }
    else p.setChannel a { c with tracking := none }
  else p

/-- A sample that is not discarded is judged against the range 0 to 1200 kPa (R147), and one in range is the
measured pressure and a measurement for tracking (R146). -/
def judgeSample (p : Part) (a : Axle) (kPa : Int) : Part :=
  let c := p.chan.get a
  if 0 ≤ kPa ∧ kPa ≤ 1200 then
    let p := p.setChannel a { c with measured := some kPa.toNat, sensorOut := false }
    let p := if c.sensorOut then p.faultEnds (.axle a) .sensor else p
    (p.judgeChannel a).trackPressure a kPa.toNat
  else
    let p := p.setChannel a { c with sensorOut := true }
    let p := if c.sensorOut then p else p.faultOccurs (.axle a) .sensor
    p.judgeChannel a

/-- LOCAL_SAMPLE: a LOCAL channel samples its sensor every 5 ms (R146). A sample in whose 5 ms the output was
switched is discarded. -/
def localSample (p : Part) (a : Axle) (kPa : Int) : Part :=
  let c := p.chan.get a
  if c.route = .localStage ∧ timerDue c.sampling p.now then
    let next := { c with sampling := p.startTimer 5, switched := false }
    if c.switched then p.setChannel a next else (p.setChannel a next).judgeSample a kPa
  else p

/-- A channel takes the measured pressure of its node's answer (R149). -/
def takeMeasurement (p : Part) (a : Axle) (kPa : Nat) : Part :=
  (p.setChannel a { p.chan.get a with measured := some kPa }).trackPressure a kPa

/-- REMOTE_MEASUREMENT: the channel takes the measurement at the front of what its node handed it. -/
def remoteMeasurement (p : Part) (a : Axle) : Part :=
  match p.waiting (.channelLink a) with
  | some (.remoteMeasurement _ kPa) => (p.taken (.channelLink a)).takeMeasurement a kPa
  | _ => p

/-! ## Presence (R149) -/

/-- The channel's node became LOST: BACKUP and COMMANDED become UNREACHABLE (R149). -/
def channelLost (p : Part) (a : Axle) : Part :=
  let c := p.chan.get a
  if c.state = some .backup ∨ c.state = some .commanded then
    ((p.setChannel a c.unreachable).postTarget a).judgeChannel a
  else p.judgeChannel a

/-- The channel's node became PRESENT: UNREACHABLE becomes BACKUP (R149). -/
def channelFound (p : Part) (a : Axle) : Part :=
  let c := p.chan.get a
  if c.state = some .unreachable then (p.setChannel a { c with state := some .backup }).judgeChannel a
  else p.judgeChannel a

/-- CHANNEL_PRESENCE_CHANGE: the channel takes the presence change at the front of what its node handed it. A
link that waited for the owner of a lost node then chooses (assumption 10). -/
def channelPresenceChange (p : Part) (a : Axle) : Part :=
  match p.waiting (.channelLink a) with
  | some (.channelPresence _ true) => ((p.taken (.channelLink a)).channelFound a).chooseNext
  | some (.channelPresence _ false) => ((p.taken (.channelLink a)).channelLost a).chooseNext
  | _ => p

/-! ## Tracking expiry (R151) and re-admission (R152) -/

/-- TRACKING_TIMER_EXPIRY: the channel trips (R151). -/
def trackingTimerExpiry (p : Part) (a : Axle) : Part :=
  if timerDue (p.chan.get a).tracking p.now then
    let p := p.setChannel a { p.chan.get a with tracking := none }
    let p := p.faultOccurs (.axle a) .tracking
    (p.releaseChannel a .faulted).judgeChannel a
  else p

/-- A clear re-admits a FAULTED channel (R152): to UNREACHABLE, entered as R149 states, when its node is LOST. -/
def readmitChannel (p : Part) (a : Axle) : Part :=
  let c := p.chan.get a
  if c.state = some .faulted then
    let lost : Bool := match c.route with
      | .remote addr =>
        match p.node addr with
        | some e => decide (e.presence = .lost)
        | none => false
      | .unrouted => false
      | .localStage => false
    ((p.setChannel a (if lost then c.unreachable else c.released .backup)).postTarget a).judgeChannel a
  else p

end Part

/-! ## The commands -/

/-- PRESSURE_DEMAND (R143). -/
def execPressureDemand (a : Axle) (s : State) : Result := s.onPart (·.pressureDemand a)

/-- LOCAL_SAMPLE (R146). -/
def execLocalSample (a : Axle) (kPa : Int) (s : State) : Result := s.onPart (·.localSample a kPa)

/-- REMOTE_MEASUREMENT (R149). -/
def execRemoteMeasurement (a : Axle) (s : State) : Result := s.onPart (·.remoteMeasurement a)

/-- CHANNEL_PRESENCE_CHANGE (R149). -/
def execChannelPresenceChange (a : Axle) (s : State) : Result := s.onPart (·.channelPresenceChange a)

/-- TRACKING_TIMER_EXPIRY (R151). -/
def execTrackingTimerExpiry (a : Axle) (s : State) : Result := s.onPart (·.trackingTimerExpiry a)

end Sys2Proof.Machine
end

