-- ==== Sys2Proof/Machine/Demand.lean ====
section
/-! DEFINITION. The Demand Arbiter (chapter 2): pedal and lever forces, speed hold, the assist table, the coach
mass, and the total demand with its leading source. -/

namespace Sys2Proof.Machine

namespace Part

/-! ## Pedal and lever (R23, R24) -/

/-- The pedal force of a pedal reading by the pedal map (R23). -/
def pedalForceOf (p : Part) (reading : Nat) : Nat :=
  if p.tableValid .pedalMap then
    let f := fun k => ((p.table .pedalMap).entry k).first
    let k := reading / 125
    if k = 8 then f 8 else f k + (reading - 125 * k) * (f (k + 1) - f k) / 125
  else 0

/-- The lever force of a lever reading by the lever map (R24). -/
def leverForceOf (p : Part) (stage : Nat) : Nat :=
  if p.tableValid .leverMap then ((p.table .leverMap).entry stage).first else 0

/-! ## Total demand (R37 to R39) -/

/-- The largest force among the entries of the assist table, 0 when it is empty. -/
def assistForce (p : Part) : Nat := p.demand.assists.foldl (fun m e => max m e.force) 0

/-- The total demand (R37), the pedal force alone in STANDING_DOWN (R39). -/
def totalDemand (p : Part) : Nat :=
  let d := p.demand
  if p.control.mode = .standingDown then satForce d.pedalForce
  else satForce (max (max d.pedalForce p.assistForce) (max d.hold.force d.leverForce))

/-- The leading source (R38, R39): the first source, in the order PEDAL, ASSIST, HOLD, LEVER, that gives the largest
force. -/
def leadingSource (p : Part) : LeadingSource :=
  let d := p.demand
  if p.totalDemand = 0 then .nobody
  else if p.control.mode = .standingDown then .pedal
  else
    let top := max (max d.pedalForce p.assistForce) (max d.hold.force d.leverForce)
    if d.pedalForce = top then .pedal
    else if p.assistForce = top then .assist
    else if d.hold.force = top then .hold
    else .lever

/-- Recomputes the total demand and the leading source (R40). -/
def retotal (p : Part) : Part :=
  { p with demand := { p.demand with total := p.totalDemand, lead := p.leadingSource } }

/-- Recomputes the pedal and lever forces from the readings (R23, R24), then the total demand. -/
def remapForces (p : Part) : Part :=
  { p with demand := { p.demand with
      pedalForce := p.pedalForceOf p.demand.pedalReading
      leverForce := p.leverForceOf p.demand.leverReading } }.retotal

/-! ## Speed hold (R25 to R28) -/

/-- One update of speed hold at a valid record (R27). -/
def holdUpdate (p : Part) (reference : Nat) : SpeedHold :=
  let h := p.demand.hold
  let top : Int := p.setting idHoldMax
  let error : Int := (reference : Int) - h.setpoint
  let step : Int := ((p.setting idHoldKi : Int) * error).tdiv 10
  let acc : Int := limitInt 0 top (h.accumulator + step)
  let force : Int := limitInt 0 top ((p.setting idHoldKp : Int) * error + acc)
  { h with accumulator := acc.toNat, force := force.toNat }

/-- The Demand Arbiter takes a handed record (R22, R23, R24, R27, R40). -/
def takeDemandRecord (p : Part) (pedal lever : Nat) (reference : Option Nat) : Part :=
  let hold :=
    match reference with
    | some v => if p.demand.hold.on then p.holdUpdate v else p.demand.hold
    | none => p.demand.hold
  { p with demand := { p.demand with
      pedalReading := pedal, leverReading := lever, hold := hold } }.remapForces

/-- SPEED_HOLD_UPDATE: the Demand Arbiter takes the oldest record handed to it. -/
def speedHoldUpdate (p : Part) : Part :=
  match p.waiting .demandRecord with
  | some (.demandRecord pedal lever reference) =>
    (p.taken .demandRecord).takeDemandRecord pedal lever reference
  | _ => p

/-- Speed hold is cancelled (R28). -/
def cancelHold (p : Part) : Part := { p with demand := { p.demand with hold := .off } }.retotal

/-- HOLD_SET (R26). -/
def holdSet (p : Part) (setpoint : Nat) : Part × Reply :=
  if p.control.mode ≠ .active then (p, .refused .mode)
  else
    let v := limitTo 800 3000 setpoint
    let h := p.demand.hold
    let h := if h.on then { h with setpoint := v } else ⟨true, v, 0, 0⟩
    ({ p with demand := { p.demand with hold := h } }.retotal, .applied (decide (v ≠ setpoint)))

/-! ## The assist table (R29 to R34) -/

/-- The force of a deceleration at a coach mass (R29). -/
def assistForceOf (mass decel : Nat) : Nat := satForce (ceilDiv (mass * decel) 10000)

/-- The assist entry of a requester, its hold started now (R30, R31). -/
def assistEntry (p : Part) (requester decel hold : Nat) : AssistEntry :=
  ⟨requester, decel, assistForceOf p.demand.mass decel, hold, timeAfter p.now hold⟩

def setAssists (p : Part) (l : List AssistEntry) : Part :=
  { p with demand := { p.demand with assists := l } }.retotal

/-- ASSIST (R30, R31). -/
def assist (p : Part) (requester decel hold : Nat) : Part × Reply :=
  if p.control.mode ≠ .active then (p, .refused .mode)
  else if 15 < requester then (p, .refused (.badValue 0))
  else
    let d := limitTo 0 8000 decel
    let h := limitTo 50 5000 hold
    let clamped := decide (d ≠ decel) || decide (h ≠ hold)
    let e := p.assistEntry requester d h
    let l := p.demand.assists
    if l.any (·.requester == requester) then
      (p.setAssists (l.map fun x => if x.requester == requester then e else x), .applied clamped)
    else if 4 ≤ l.length then (p, .refused .full)
    else (p.setAssists (l ++ [e]), .applied clamped)

/-- ASSIST_CANCEL (R33). -/
def assistCancel (p : Part) (requester : Nat) : Part × Reply :=
  if 15 < requester then (p, .refused (.badValue 0))
  else if p.demand.assists.any (·.requester == requester) then
    (p.setAssists (p.demand.assists.filter (·.requester != requester)), .done)
  else (p, .refused .notFound)

end Part

/-- Whether an assist entry's expiry time is reached: its hold time has elapsed since the hold started (R29,
R32). -/
def AssistEntry.due (e : AssistEntry) (now : Time) : Bool :=
  decide (e.hold ≤ elapsed now (e.expiry - BitVec.ofNat 32 e.hold))

/-- The time remaining until an assist entry's expiry (R41). -/
def AssistEntry.left (e : AssistEntry) (now : Time) : Nat :=
  e.hold - elapsed now (e.expiry - BitVec.ofNat 32 e.hold)

namespace Part

/-- ASSIST_EXPIRY: a requester's entry leaves the table at its expiry time (R32). -/
def assistExpiry (p : Part) (requester : Nat) : Part :=
  if p.demand.assists.any (fun e => e.requester == requester && e.due p.now) then
    p.setAssists (p.demand.assists.filter (·.requester != requester))
  else p

/-- The assist table is emptied at a mode change; ASSIST_DROPPED is set if it held an entry (R34). -/
def dropAssists (p : Part) : Part :=
  if p.demand.assists.isEmpty then p else (p.setAssists []).flagAssistDropped

/-! ## Coach mass (R35, R36) -/

/-- Sets the coach mass and recomputes every assist force (R36). -/
def setMass (p : Part) (kg : Nat) : Part :=
  let l := p.demand.assists.map fun e => { e with force := assistForceOf kg e.decel }
  { p with demand := { p.demand with mass := kg, assists := l } }.retotal

/-- MASS (R35). The missing chassis record is item 2 of R169. -/
def mass (p : Part) (kg : Nat) : Part × Reply :=
  match p.store.chassis with
  | none => (p, .refused (.notReady 2 0))
  | some c =>
    let v := limitTo 5000 c.grossMass kg
    (p.setMass v, .applied (decide (v ≠ kg)))

/-- HOLD_CANCEL (R28). -/
def holdCancel (p : Part) : Part × Reply := (p.cancelHold, .done)

end Part

end Sys2Proof.Machine
end

