-- ==== Sys2Proof/Machine/Flap.lean ====
section
/-! DEFINITION. Flap Control (chapter 7): the flap's states, the wants, the position switch, the timeout, and
re-admission. -/

namespace Sys2Proof.Machine

namespace Part

def setFlap (p : Part) (f : FlapControl) : Part := { p with flap := f }

/-- Sets Flap Control's items, and hands the Capacity Unit a change of the flap state (R131). -/
def changeFlap (p : Part) (f : FlapControl) : Part :=
  if p.flap.state = f.state then p.setFlap f else (p.setFlap f).needCapacities

/-- The flap enters OPEN now, with its timer stopped. -/
def flapOpened (p : Part) : Part :=
  p.changeFlap { p.flap with state := .opened, solenoid := false, enteredOpen := p.now, timer := none }

/-- The flap enters OPENING with the solenoid off and the flap timer started. -/
def flapOpening (p : Part) : Part :=
  p.changeFlap { p.flap with state := .opening, solenoid := false,
                             timer := p.startTimer (p.setting idFlapTimeout) }

/-- The flap trips: the fault is raised, the solenoid is off and the timer stopped. -/
def flapTrips (p : Part) (code : FaultCode) : Part :=
  let p := p.faultOccurs .flap code
  p.changeFlap { p.flap with state := .faulted, solenoid := false, timer := none }

/-- An OPEN want (R133): CLOSING and CLOSED open at once, straight to OPEN when the switch already shows open. The
switch is read as it stands, also while a change of it waits to be taken (R135, assumption 29). -/
def flapOpenWant (p : Part) : Part :=
  match p.flap.state with
  | .closing | .closed => if p.fswClosed then p.flapOpening else p.flapOpened
  | .opened | .opening | .faulted => p

/-- A CLOSE want (R132): taken in OPEN once the minimum open dwell has passed. -/
def flapCloseWant (p : Part) : Part :=
  match p.flap.state with
  | .opened =>
    if p.setting idFlapDwell ≤ elapsed p.now p.flap.enteredOpen then
      p.changeFlap { p.flap with state := .closing, solenoid := true,
                                 timer := p.startTimer (p.setting idFlapTimeout) }
    else p
  | .closing | .closed | .opening | .faulted => p

/-- EXHAUST_WANT: Flap Control takes the oldest want handed to it. -/
def exhaustWantTaken (p : Part) : Part :=
  match p.waiting .exhaustWant with
  | some (.exhaustWant .close) => (p.taken .exhaustWant).flapCloseWant
  | some (.exhaustWant .open_) => (p.taken .exhaustWant).flapOpenWant
  | _ => p

/-- Flap Control acts on a change of the switch reading (R134). -/
def takeSwitch (p : Part) (closed : Bool) : Part :=
  let p := p.setFlap { p.flap with switchClosed := closed }
  match p.flap.state, closed with
  | .opened, true => p.flapTrips .stuckClosed
  | .opened, false => p
  | .closing, true => p.changeFlap { p.flap with state := .closed, timer := none }
  | .closing, false => p
  | .closed, true => p
  | .closed, false => p.flapTrips .stuckOpen
  | .opening, true => p
  | .opening, false => p.flapOpened
  | .faulted, true => p.needCapacities
  | .faulted, false => p.needCapacities

/-- Whether the switch shows another reading than the one Flap Control last took, and Flap Control is to take it:
while a chassis record is set and says the exhaust is fitted (R131). -/
def switchWaits (p : Part) : Bool := p.exhaustFitted && p.flap.switchClosed != p.fswClosed

/-- Flap Control acts on the change of FSW that waits, if one does (R134). -/
def takeWaitingSwitch (p : Part) : Part := if p.switchWaits then p.takeSwitch p.fswClosed else p

/-- FLAP_SWITCH_CHANGE: FSW takes a level, and Flap Control acts on the change, or the change waits while another event
that arrived with it is taken first (R135, assumption 29). Flap Control acts on each change (R134): one that still
waits is taken before the next. -/
def flapSwitchChange (p : Part) (e : SwitchEvent) : Part :=
  let p := if e.closed = p.fswClosed then p else { p.takeWaitingSwitch with fswClosed := e.closed }
  if e.taken then p.takeWaitingSwitch else p

/-- FLAP_TIMER_EXPIRY: the flap did not arrive (R135). An expiry that Flap Control does not act on, since no
fitted exhaust is recorded, only stops the timer (R131). -/
def flapTimerExpiry (p : Part) : Part :=
  if timerDue p.flap.timer p.now then
    if p.exhaustFitted then
      match p.flap.state with
      | .closing => p.flapTrips .stuckOpen
      | .opening => p.flapTrips .stuckClosed
      | .opened | .closed | .faulted => p.setFlap { p.flap with timer := none }
    else p.setFlap { p.flap with timer := none }
  else p

/-- A clear re-admits a FAULTED flap, by the switch as it stands (R136). -/
def readmitFlap (p : Part) : Part :=
  if p.flap.state = .faulted then
    if !p.fswClosed then p.flapOpened
    else if p.passesRun then p.changeFlap { p.flap with state := .closed, solenoid := true, timer := none }
    else p.flapOpening
  else p

/-- Flap Control judges the flap anew from the switch: OPEN now when it shows open, else OPENING (R131, R137). -/
def judgeFlap (p : Part) : Part :=
  let p := p.setFlap { p.flap with switchClosed := p.fswClosed, solenoid := false }
  if p.fswClosed then p.flapOpening else p.flapOpened

/-- Flap Control at the acceptance of the chassis record (R131). -/
def flapAtAcceptance (p : Part) : Part :=
  if p.exhaustFitted then p.judgeFlap
  else p.changeFlap { p.flap with state := .opened, timer := none }

/-- Flap Control at a warm reset (R137). A flap that is not fitted is left OPEN. -/
def flapAtWarmReset (p : Part) : Part :=
  if p.store.chassis.isSome && !p.exhaustFitted then
    p.changeFlap { p.flap with state := .opened, solenoid := false, timer := none }
  else p.judgeFlap

end Part

/-! ## The commands -/

/-- EXHAUST_WANT (R132, R133). -/
def execExhaustWant (s : State) : Result := s.onPart (·.exhaustWantTaken)

/-- FLAP_SWITCH_CHANGE (R134). -/
def execFlapSwitchChange (e : SwitchEvent) (s : State) : Result := s.onPart (·.flapSwitchChange e)

/-- FLAP_TIMER_EXPIRY (R135). -/
def execFlapTimerExpiry (s : State) : Result := s.onPart (·.flapTimerExpiry)

end Sys2Proof.Machine
end

