-- ==== Sys2Proof/Machine/Retarder.lean ====
section
/-! DEFINITION. Retarder Control (chapter 7): the retarder's states and targets, engagement admission, release,
node states, node loss, the two timeouts, and re-admission. -/

namespace Sys2Proof.Machine

/-- The target of each retarder state (R119), given the command last handed. -/
def RetarderState.target (st : RetarderState) (command : Nat) : RetarderTarget :=
  match st with
  | .drained => ⟨false, 0⟩
  | .filling => ⟨true, 0⟩
  | .active => ⟨true, command⟩
  | .draining => ⟨false, 0⟩
  | .faulted => ⟨false, 0⟩

namespace Part

/-- Posts a target for the retarder node, while one is routed (R119). -/
def postRetarder (p : Part) (t : RetarderTarget) : Part :=
  match p.retRoute with
  | some addr => p.post addr (.retarderDemand t)
  | none => p

/-- The target becomes the last target sent, and is posted (R119). -/
def sendRetarder (p : Part) (t : RetarderTarget) : Part :=
  { p with ret := { p.ret with lastSent := t } }.postRetarder t

/-- Posts the target of the retarder's state when it has changed (R119). -/
def retargetRetarder (p : Part) : Part :=
  let t := p.ret.state.target p.ret.handedCommand
  if p.ret.lastSent = t then p else p.sendRetarder t

/-- The retarder changes its state: both timers stop and the release-delay mark becomes none (R119). -/
def setRetarder (p : Part) (st : RetarderState) : Part :=
  { p with ret := { p.ret with state := st, fillTimer := none, drainTimer := none, releaseMark := none } }

/-- The retarder changes to a state other than DRAINING, and a changed target is posted (R119). -/
def enterRetarder (p : Part) (st : RetarderState) : Part := (p.setRetarder st).retargetRetarder

/-- The retarder enters DRAINING: the RELEASE target is posted afresh and the drain timer started (R119,
R123). -/
def drainRetarder (p : Part) : Part :=
  let p := p.setRetarder .draining
  let p := { p with ret := { p.ret with drainTimer := p.startTimer (p.setting idDrainTimeout) } }
  p.sendRetarder ⟨false, 0⟩

/-! ## The handed want (R120 to R124) -/

/-- The engagement list without the entries that are at least a window old (R121). -/
def prunedEngagements (p : Part) : List Time :=
  p.ret.engagements.filter fun t => decide (elapsed p.now t < p.setting idEngagementWindow * 1000)

/-- An engage wish taken in DRAINED (R121). -/
def considerEngage (p : Part) : Part :=
  if p.control.mode ≠ .active then p
  else if !(p.retarderFitted && p.retarderPresent && !p.retarderReported) then p
  else
    let kept := p.prunedEngagements
    let p := { p with ret := { p.ret with engagements := kept } }
    if kept.length < 4 then
      let p := { p with ret := { p.ret with engagements := kept ++ [p.now], heldEpisode := false } }
      let p := p.setRetarder .filling
      { p with ret := { p.ret with
          fillTimer := p.startTimer (p.setting idFillTimeout) } }.retargetRetarder
    else if p.ret.heldEpisode then p
    else { p with ret := { p.ret with heldEpisode := true } }.flagWindowHeld

/-- Whether a handed want and command make a release pass (R120). -/
def isReleasePass (p : Part) (want command : Nat) : Bool :=
  match p.control.mode with
  | .active => want == 0
  | .standingDown => command == 0
  | .config | .standby | .fallback => false

/-- A handed want judged in ACTIVE (R124). -/
def judgeRelease (p : Part) (want command : Nat) : Part :=
  if p.isReleasePass want command then
    match p.ret.releaseMark with
    | none => { p with ret := { p.ret with releaseMark := some p.now } }
    | some m => if p.setting idReleaseDelay ≤ elapsed p.now m then p.drainRetarder else p
  else { p with ret := { p.ret with releaseMark := none } }

/-- Retarder Control takes a handed want and command (R120): it records the command, then acts by its state. -/
def takeWant (p : Part) (want command : Nat) : Part :=
  let p := { p with ret := { p.ret with handedCommand := command } }
  let p := if p.ret.state = .active then p.retargetRetarder else p
  match p.ret.state with
  | .drained => if p.setting idEngageThreshold ≤ want then p.considerEngage else p
  | .filling =>
    match p.control.mode with
    | .active => if want < p.setting idEngageThreshold then p.drainRetarder else p
    | .standingDown => p.drainRetarder
    | .config | .standby | .fallback => p
  | .active => p.judgeRelease want command
  | .draining => p
  | .faulted => p

/-- RETARDER_WANT: Retarder Control takes the oldest want handed to it. -/
def retarderWantTaken (p : Part) : Part :=
  match p.waiting .retarderWant with
  | some (.retarderWant want command) => (p.taken .retarderWant).takeWant want command
  | _ => p

/-! ## Node states and node loss (R123 to R127) -/

/-- Retarder Control acts on the node state of an answer (R123 to R126, R128). -/
def takeNodeState (p : Part) (st : NodeState) : Part :=
  match p.ret.state, st with
  | .filling, .filled => p.enterRetarder .active
  | .filling, .drained | .filling, .filling | .filling, .draining => p
  | .active, .drained | .active, .draining => p.drainRetarder
  | .active, .filling | .active, .filled => p
  | .draining, .drained => p.enterRetarder .drained
  | .draining, .filling | .draining, .filled | .draining, .draining => p
  | .drained, .filling | .drained, .filled | .drained, .draining => p.drainRetarder
  | .drained, .drained => p
  | .faulted, _ => p

/-- RETARDER_NODE_STATE: Retarder Control takes the node state at the front of what its node handed it. -/
def retarderNodeStateTaken (p : Part) : Part :=
  match p.waiting .retarderLink with
  | some (.retarderNodeState st) => (p.taken .retarderLink).takeNodeState st
  | _ => p

/-- Retarder Control acts on the loss of its node (R127). -/
def loseRetarder (p : Part) : Part :=
  match p.ret.state with
  | .filling | .active | .draining => p.enterRetarder .drained
  | .drained | .faulted => p

/-- RETARDER_NODE_LOST: Retarder Control takes the loss at the front of what its node handed it. A link that
waited for the owner of a lost node then chooses (assumption 10). -/
def retarderNodeLostTaken (p : Part) : Part :=
  match p.waiting .retarderLink with
  | some .retarderNodeLost => ((p.taken .retarderLink).loseRetarder).chooseNext
  | _ => p

/-! ## Timeouts, clears and stops -/

/-- FILL_TIMER_EXPIRY: the fill timed out (R123). -/
def fillTimerExpiry (p : Part) : Part :=
  if timerDue p.ret.fillTimer p.now then
    (p.faultOccurs .retarder .fillTimeout).enterRetarder .faulted
  else p

/-- DRAIN_TIMER_EXPIRY: the drain timed out (R125). -/
def drainTimerExpiry (p : Part) : Part :=
  if timerDue p.ret.drainTimer p.now then
    (p.faultOccurs .retarder .drainTimeout).enterRetarder .faulted
  else p

/-- A clear re-admits a FAULTED retarder (R128). -/
def readmitRetarder (p : Part) : Part :=
  if p.ret.state = .faulted then
    if !p.retarderPresent || decide (p.ret.lastNodeState = some .drained) then p.enterRetarder .drained
    else p.drainRetarder
  else p

/-- The retarder when passes stop (R98, R129): a command of 0 is handed, and FILLING and ACTIVE are released at
once. -/
def stopRetarder (p : Part) : Part :=
  let p := { p with ret := { p.ret with handedCommand := 0 } }
  match p.ret.state with
  | .filling | .active => p.drainRetarder
  | .drained | .draining | .faulted => p

end Part

/-! ## The commands -/

/-- RETARDER_WANT (R120). -/
def execRetarderWant (s : State) : Result := s.onPart (·.retarderWantTaken)

/-- RETARDER_NODE_STATE (R126). -/
def execRetarderNodeState (s : State) : Result := s.onPart (·.retarderNodeStateTaken)

/-- RETARDER_NODE_LOST (R127). -/
def execRetarderNodeLost (s : State) : Result := s.onPart (·.retarderNodeLostTaken)

/-- FILL_TIMER_EXPIRY (R123). -/
def execFillTimerExpiry (s : State) : Result := s.onPart (·.fillTimerExpiry)

/-- DRAIN_TIMER_EXPIRY (R125). -/
def execDrainTimerExpiry (s : State) : Result := s.onPart (·.drainTimerExpiry)

end Sys2Proof.Machine
end

