-- ==== Sys2Proof/Machine/Modes.lean ====
section
/-! DEFINITION. Mode Control (chapter 10): what the other blocks do at a change of mode, the alarm while passes
are stopped, readiness, and the causes of each change. -/

namespace Sys2Proof.Machine

namespace Part

/-! ## Stopping passes (R98, R129, R137, R144) -/

/-- The Apportioner's items when passes stop (R98). The mask, the pointer and the alarm level are kept. -/
def stoppedApportioner (a : Apportioner) : Apportioner :=
  { Apportioner.cold with mask := a.mask, pointer := a.pointer, alarm := a.alarm }

/-- Passes stop (R98): the Apportioner's items, then what it hands on, which takes the place of the wants and
demands a pass left waiting (assumption 12). -/
def stopPasses (p : Part) : Part :=
  let p := { p with app := stoppedApportioner p.app }
  let p := p.discardLanes Lane.ofPass
  ((p.flapOpenWant).stopRetarder).stopChannels

/-- The alarm level judged from the tiers alone (R176). -/
def judgeAlarm (p : Part) : Part :=
  match p.app.alarm, p.anyFade with
  | .clear, true => { p with app := { p.app with alarm := .raised } }.flagAlarmRaised
  | .raised, false => { p with app := { p.app with alarm := .clear } }.flagAlarmCleared
  | .clear, false => p
  | .raised, true => p

/-- A tier change handed on by Mode Control: the alarm is judged from the tiers while passes are stopped (R176). -/
def tierChangeAlarm (p : Part) : Part := if p.passesRun then p else p.judgeAlarm

/-! ## A change of mode (R168) -/

/-- The pass timer and the rotation timer are started (R76, R94). -/
def startPassTimer (p : Part) : Part :=
  { p with app := { p.app with passTimer := p.startTimer (p.setting idPassPeriod) } }

def startRotationTimer (p : Part) : Part :=
  { p with app := { p.app with
      rotationTimer := p.startTimer (p.setting idRotationInterval * 1000) } }

def stopRotationTimer (p : Part) : Part := { p with app := { p.app with rotationTimer := none } }

/-- What the other blocks do when they are informed of a change from `old` to the mode that now stands (R168). -/
def actOnModeChange (p : Part) (old : Mode) : Part :=
  match p.control.mode with
  | .active =>
    if old = .standingDown then p.retotal.startRotationTimer
    else p.startPassTimer.startRotationTimer
  | .standingDown => (p.cancelHold.dropAssists).retotal.stopRotationTimer
  | .fallback => (p.stopPasses.cancelHold).dropAssists.judgeAlarm
  | .standby => if old = .fallback then p else p.stopPasses.retotal.judgeAlarm
  | .config => p.stopPasses.retotal.judgeAlarm

/-- Mode Control changes the mode (R168): MODE_CHANGED is set, a start time that belongs to the mode left becomes
none, the other blocks act, and the Capacity Unit is handed the change (R59). -/
def changeMode (p : Part) (new : Mode) : Part :=
  let old := p.control.mode
  if old = new then p
  else
    let c := p.control
    let p := { p with control :=
      { mode := new
        standDownStart := if old = Mode.standingDown then none else c.standDownStart
        recovery := if old = Mode.fallback then none else c.recovery } }
    ((p.flagModeChanged).actOnModeChange old).needCapacities

/-! ## Readiness (R169) -/

/-- The lowest axle below the axle count whose route is NONE. -/
def unroutedAxle (p : Part) : Option Axle :=
  p.axles.find? fun a => decide ((p.chan.get a).route = .unrouted)

/-- Items 1 to 9 of R169: the first that is missing, by its order number and index. -/
def missingItem (p : Part) : Option (Nat × Nat) :=
  match p.store.cursor with
  | some c => some (1, c.table.code)
  | none =>
    if p.store.chassis.isNone then some (2, 0)
    else if !p.tableValid .pedalMap then some (3, 0)
    else if !p.tableValid .leverMap then some (4, 0)
    else if p.retarderFitted && !p.tableValid .retarderCurve then some (5, 0)
    else if p.exhaustFitted && !p.tableValid .exhaustCurve then some (6, 0)
    else if p.exhaustFitted && !p.tableValid .gearTable then some (7, 0)
    else
      match p.unroutedAxle with
      | some a => some (8, a.val)
      | none => if p.retarderFitted && p.retRoute.isNone then some (9, 0) else none

/-- START (R169, R170). -/
def start (p : Part) : Part × Reply :=
  match p.control.mode with
  | .active => (p, .done)
  | .fallback | .standingDown => (p, .refused .mode)
  | .config | .standby =>
    match p.missingItem with
    | some (order, index) => (p, .refused (.notReady order index))
    | none =>
      if p.motion.freshness = .fresh then (p.changeMode .active, .done)
      else (p, .refused (.notReady 10 0))

/-- STAND_DOWN (R173). -/
def standDown (p : Part) : Part × Reply :=
  match p.control.mode with
  | .active =>
    (({ p with control := { p.control with standDownStart := some p.now } }).changeMode .standingDown, .done)
  | .standingDown => (p, .done)
  | .fallback => (p.changeMode .standby, .done)
  | .standby => (p, .done)
  | .config => (p, .refused .mode)

/-! ## Motion and the mode -/

/-- Mode Control is informed that motion has become STALE (R171, R172, R175). -/
def modeOnStale (p : Part) : Part :=
  match p.control.mode with
  | .active =>
    ({ p with control := { p.control with recovery := none } }.flagFallbackEntered).changeMode .fallback
  | .standingDown => p.changeMode .standby
  | .fallback => { p with control := { p.control with recovery := none } }
  | .config | .standby => p

/-- Mode Control is informed that motion has changed from STALE to FRESH (R172). -/
def modeOnFreshAgain (p : Part) : Part :=
  if p.control.mode = .fallback then
    { p with control := { p.control with
        recovery := p.startTimer (p.setting idFallbackRecovery) } }
  else p

/-- Mode Control is handed a valid record's pedal value (R174). -/
def modeOnValidRecord (p : Part) (pedal : Nat) : Part :=
  if p.control.mode = .standingDown ∧ p.setting idAbandonPedal ≤ pedal then
    (p.flagAbandoned).changeMode .active
  else p

/-- RECOVERY_EXPIRY: motion has been fresh for the fallback recovery time (R172). -/
def recoveryExpiry (p : Part) : Part :=
  if p.control.mode = .fallback ∧ timerDue p.control.recovery p.now then
    (p.flagFallbackLeft).changeMode .active
  else p

/-- Whether the actuators allow a stand-down to complete (R175). -/
def standDownActuatorsReady (p : Part) : Bool :=
  (!p.retarderFitted || decide (p.ret.state = .drained) || decide (p.ret.state = .faulted) ||
      !p.retarderPresent || p.retarderReported) &&
    (decide (p.flap.state = .opened) || decide (p.flap.state = .faulted))

/-- Mode Control judges at a pass whether the stand-down is complete (R175). -/
def judgeStandDown (p : Part) : Part :=
  match p.control.mode, p.control.standDownStart with
  | .standingDown, some t =>
    if p.setting idStandDownTime ≤ elapsed p.now t ∧ p.standDownActuatorsReady then p.changeMode .standby
    else p
  | _, _ => p

end Part

/-- RECOVERY_EXPIRY (R172). -/
def execRecoveryExpiry (s : State) : Result := s.onPart (·.recoveryExpiry)

end Sys2Proof.Machine
end

