-- ==== Sys2Proof/Machine/Apportion.lean ====
section
/-! DEFINITION. The Apportioner's pass (chapter 5): the endurance target, the exhaust and retarder decisions, the
sharing of the service total, pressure demands, the descent alarm, the axle mask, and the rotation timer. -/

namespace Sys2Proof.Machine

/-! ## Sharing in rounds (R87, R88) -/

/-- The tier weight (R87). -/
def Tier.weight : Tier → Nat
  | .normal => 1000
  | .warm => 800
  | .hot => 500
  | .fade => 250

/-- An axle's weight from its nominal load and its tier (R87). -/
def axleWeight (load : Nat) (tier : Tier) : Nat := max (load * tier.weight / 1000) 1

/-- The place of an axle of the set in the order of descending weight, the lower index first among equal weights:
how many axles of the set come before it (R88). -/
def weightRank (w : Axles Nat) (set : List Axle) (a : Axle) : Nat :=
  (set.filter fun b => decide (w.get a < w.get b) || (w.get a == w.get b && decide (b < a))).length

/-- The part of a remainder that its weight gives an axle of the set (R88, step 1). -/
def roundBase (w : Axles Nat) (set : List Axle) (remainder : Nat) (a : Axle) : Nat :=
  remainder * w.get a / (set.map w.get).sum

/-- What step 1 of a round leaves over (R88, step 2). -/
def roundLeftover (w : Axles Nat) (set : List Axle) (remainder : Nat) : Nat :=
  remainder - (set.map (roundBase w set remainder)).sum

/-- What a round gives an axle of the set, before capacities (R88, steps 1 and 2). -/
def roundAmount (w : Axles Nat) (set : List Axle) (remainder : Nat) (a : Axle) : Nat :=
  roundBase w set remainder a +
    if weightRank w set a < roundLeftover w set remainder then 1 else 0

/-- An axle's share after step 3 of a round (R88). -/
def raisedShare (w : Axles Nat) (set : List Axle) (remainder : Nat) (shares : Axles Nat) (a : Axle) : Nat :=
  shares.get a + if set.contains a then roundAmount w set remainder a else 0

/-- The outcome of proportional distribution: the shares, what no axle took, and the rounds made. -/
structure Sharing where
  shares : Axles Nat
  remainder : Nat
  rounds : Nat
deriving DecidableEq, Repr

/-- The rounds of proportional distribution (R88): at most `fuel` of them, while something remains and the set is
not empty. An axle of the set whose share exceeds its capacity is capped, pools the excess and leaves the set. -/
def shareRounds (w cap : Axles Nat) : Nat → List Axle → Axles Nat → Nat → Nat → Sharing
  | 0, _, shares, remainder, rounds => ⟨shares, remainder, rounds⟩
  | fuel + 1, set, shares, remainder, rounds =>
    if remainder = 0 ∨ set = [] then ⟨shares, remainder, rounds⟩
    else
      let raised := raisedShare w set remainder shares
      let exceeds := fun a => set.contains a && decide (cap.get a < raised a)
      shareRounds w cap fuel (set.filter fun a => !exceeds a)
        (.ofFn fun a => if exceeds a then cap.get a else raised a)
        ((set.map fun a => if exceeds a then raised a - cap.get a else 0).sum) (rounds + 1)

namespace Part

/-! ## The endurance brakes (R78 to R83) -/

/-- Stage 1: the endurance target (R78). -/
def enduranceTarget (p : Part) : Nat := min p.demand.total p.slip.limit

/-- The exhaust is available at a pass (R79). -/
def exhaustAvailable (p : Part) : Bool :=
  decide (0 < p.cap.items.exhaust) && decide (p.cap.items.exhaust ≤ p.slip.limit)

/-- The flap is commanded closed (R79). -/
def flapCommandedClosed (p : Part) : Bool :=
  decide (p.flap.state = .closing) || decide (p.flap.state = .closed)

/-- Stage 2: the exhaust want (R79). -/
def exhaustDecision (p : Part) : FlapWant :=
  if p.exhaustAvailable &&
      (decide (p.cap.items.exhaust * p.setting idOnRatio / 1000 ≤ p.enduranceTarget) ||
        (p.flapCommandedClosed &&
          decide (p.cap.items.exhaust * p.setting idOffRatio / 1000 ≤ p.enduranceTarget)))
  then .close else .open_

/-- The exhaust counted force (R80). -/
def countedExhaust (p : Part) : Nat :=
  match p.flap.state with
  | .closed => p.cap.items.exhaust
  | .opening | .faulted => if p.flap.switchClosed then p.cap.items.exhaust else 0
  | .opened | .closing => 0

/-- Stage 3: the retarder want (R81). -/
def wantedRetarder (p : Part) : Nat := min (p.enduranceTarget - p.countedExhaust) p.cap.items.retarder

/-- The largest command the capacity and the slip limit allow (R83). -/
def commandBound (p : Part) : Nat := min p.cap.items.retarder (p.slip.limit - p.countedExhaust)

/-- The retarder command (R82, R83). -/
def nextCommand (p : Part) : Nat :=
  let want := p.wantedRetarder
  let previous := p.app.command
  if p.ret.state = .active then
    if p.control.mode = .standingDown then
      if previous ≤ want then previous
      else min (max want (previous - p.setting idRampStep)) p.commandBound
    else if want ≤ previous then want
    else min want (previous + p.setting idRampStep)
  else 0

/-- The retarder counted force (R83). -/
def countedRetarder (p : Part) : Nat := if p.ret.state = .active then p.nextCommand else 0

/-! ## Service total and shares (R84 to R91) -/

/-- Stage 4: the service total (R84). -/
def wantedService (p : Part) : Nat := p.demand.total - p.countedExhaust - p.countedRetarder

/-- The surplus (R84). -/
def surplusForce (p : Part) : Nat := p.countedExhaust + p.countedRetarder - p.demand.total

/-- Stage 5: whether an axle is eligible (R85). -/
def isEligible (p : Part) (a : Axle) : Bool :=
  p.hasAxle a && !p.app.mask.get a && (p.chan.get a).available && decide (0 < p.cap.items.service.get a)

/-- The eligible axles in index order. -/
def eligibleAxles (p : Part) : List Axle := Axle.all.filter p.isEligible

/-- The weight of an axle at a pass, 0 if it is not eligible (R87, R100). -/
def passWeight (p : Part) (a : Axle) : Nat :=
  if p.isEligible a then axleWeight (p.axleDesc a).load (p.thermal.axles.get a).tier else 0

/-- Whether the pass uses trim rotation (R86). -/
def usesTrim (p : Part) : Bool :=
  let total := p.wantedService
  let trim := p.setting idTrimLimit
  decide (0 < total) && decide (0 < trim) && decide (total ≤ trim) && p.isEligible p.app.pointer &&
    decide (total ≤ p.cap.items.service.get p.app.pointer)

/-- The sharing of the service total among the axles (R86, R88). -/
def sharing (p : Part) : Sharing :=
  if p.usesTrim then
    ⟨(Axles.replicate 0).set p.app.pointer p.wantedService, 0, 0⟩
  else
    shareRounds (.ofFn p.passWeight) p.cap.items.service 4 p.eligibleAxles (.replicate 0) p.wantedService 0

/-- The rotation pointer after the sharing (R90). -/
def nextPointer (p : Part) : Axle :=
  if !p.usesTrim && decide (p.setting idTrimLimit < p.wantedService) then
    p.eligibleAxles.headD p.app.pointer
  else p.app.pointer

/-- Stage 6: the pressure demand of a share (R91). -/
def pressureFor (p : Part) (share : Nat) (a : Axle) : Nat :=
  if share = 0 then 0
  else ceilDiv (share * 100000) ((p.axleDesc a).brakeFactor * p.cap.items.fade.get a)

/-! ## The alarm (R96, R97) -/

/-- The raise mark after a pass with a shortfall of the size given (R96). -/
def nextRaiseMark (p : Part) (shortfall : Nat) : Option Time :=
  if shortfall = 0 then none else some (p.app.raiseMark.getD p.now)

/-- The clear mark after a pass with a shortfall of the size given (R96). -/
def nextClearMark (p : Part) (shortfall : Nat) : Option Time :=
  if shortfall = 0 ∧ !p.anyFade then some (p.app.clearMark.getD p.now) else none

/-- Whether the time since a mark has reached a delay; never while the mark is none. -/
def markAged (p : Part) (mark : Option Time) (delay : Nat) : Bool :=
  match mark with
  | some t => decide (delay ≤ elapsed p.now t)
  | none => false

/-- Stage 7: the alarm level after a pass with a shortfall of the size given (R96, R97). -/
def nextAlarm (p : Part) (shortfall : Nat) : Alarm :=
  match p.app.alarm with
  | .clear =>
    if p.markAged (p.nextRaiseMark shortfall) (p.setting idAlarmRaise) || p.anyFade then .raised else .clear
  | .raised =>
    if p.markAged (p.nextClearMark shortfall) (p.setting idAlarmClear) then .clear else .raised

/-! ## The pass (R77) -/

/-- What the pass publishes (R75), with the pass timer as it stands. -/
def passResults (p : Part) : Apportioner :=
  let sh := p.sharing
  { target := p.enduranceTarget
    exhaustWant := p.exhaustDecision
    exhaustCounted := p.countedExhaust
    retarderWant := p.wantedRetarder
    command := p.nextCommand
    retarderCounted := p.countedRetarder
    serviceTotal := p.wantedService
    surplus := p.surplusForce
    shortfall := sh.remainder
    method := if p.usesTrim then .trim else .proportional
    rounds := sh.rounds
    shares := sh.shares
    demands := .ofFn fun a => p.pressureFor (sh.shares.get a) a
    eligible := .ofFn p.isEligible
    weights := .ofFn p.passWeight
    mask := p.app.mask
    pointer := p.nextPointer
    alarm := p.nextAlarm sh.remainder
    raiseMark := p.nextRaiseMark sh.remainder
    clearMark := p.nextClearMark sh.remainder
    passTimer := p.app.passTimer
    rotationTimer := p.app.rotationTimer }

/-- The transition flags of a change of the alarm level (R96, R97). -/
def flagAlarm (p : Part) (old : Alarm) : Part :=
  match old, p.app.alarm with
  | .clear, .raised => p.flagAlarmRaised
  | .raised, .clear => p.flagAlarmCleared
  | .clear, .clear => p
  | .raised, .raised => p

/-- The pass hands on its results (R77). The rule lists the receivers and no order: the model hands on in the order of
the list, with the axles in index order (assumption 13). -/
def handOnPass (p : Part) : Part :=
  let p := p.handOn (.exhaustWant p.app.exhaustWant)
  let p := p.handOn (.retarderWant p.app.retarderWant p.app.command)
  p.axles.foldl (fun p a => p.handOn (.pressureDemand a (p.app.demands.get a))) p

/-- One pass (R77): its results are published and handed on. -/
def runPass (p : Part) : Part :=
  let old := p.app.alarm
  (({ p with app := p.passResults }).flagAlarm old).handOnPass

/-- PASS: at the pass timer's expiry one pass is run, the timer restarted (R76), and completion of a stand-down
judged (R175). -/
def pass (p : Part) : Part :=
  if timerDue p.app.passTimer p.now then (p.runPass.startPassTimer).judgeStandDown else p

/-! ## The rotation timer (R95) -/

/-- Whether the rotation may choose an axle (R95). -/
def rotationFit (p : Part) (a : Axle) : Bool :=
  p.hasAxle a && !p.app.mask.get a && (p.chan.get a).available &&
    (decide ((p.thermal.axles.get a).tier = .normal) || decide ((p.thermal.axles.get a).tier = .warm))

/-- The axles in cyclic order from the one after the pointer to the one before it (R95). -/
def rotationOrder (p : Part) : List Axle :=
  p.axles.filter (fun a => decide (p.app.pointer < a)) ++ p.axles.filter (fun a => decide (a < p.app.pointer))

/-- ROTATION_TIMER_EXPIRY: the pointer moves to the next axle that may be chosen, and the timer is restarted
(R95). -/
def rotationTimerExpiry (p : Part) : Part :=
  if timerDue p.app.rotationTimer p.now then
    let next := (p.rotationOrder.find? p.rotationFit).getD p.app.pointer
    { p with app := { p.app with pointer := next } }.startRotationTimer
  else p

/-! ## The axle mask (R93) -/

/-- The first position of MASK's flags at which a check of R93 fails: a flag that is not 0 or 1 first, then a flag
set at or above the axle count. -/
def maskFault (p : Part) (flags : Axles Nat) : Option Axle :=
  match Axle.all.find? fun a => decide (1 < flags.get a) with
  | some a => some a
  | none => Axle.all.find? fun a => !p.hasAxle a && decide (flags.get a ≠ 0)

/-- MASK (R93). -/
def setMask (p : Part) (flags : Axles Nat) : Part × Reply :=
  if p.store.chassis.isNone then (p, .refused (.notReady 2 0))
  else
    match p.maskFault flags with
    | some a => (p, .refused (.badValue a.val))
    | none =>
      let old := p.app.mask
      let new : Axles Bool := flags.map (· == 1)
      if new = old then (p, .done)
      else
        let p := { p with app := { p.app with mask := new } }.needCapacities
        let p := Axle.all.foldl
          (fun p a => if new.get a && !old.get a then p.withdrawShare a else p) p
        (p, .done)

end Part

/-! ## The commands -/

/-- PASS (R77). -/
def execPass (s : State) : Result := s.onPart (·.pass)

/-- ROTATION_TIMER_EXPIRY (R95). -/
def execRotationTimerExpiry (s : State) : Result := s.onPart (·.rotationTimerExpiry)

end Sys2Proof.Machine
end

