-- ==== Sys2Proof/Config.lean ====
section
/-! DEFINITION. The values the manual leaves open, as opaque constants: nothing in Lean can evaluate them, so a
claim that holds holds whatever they are. -/

namespace Sys2Proof.Config

/-- The ratio Mg/Ng read for a forward gear that the VALID gear table does not hold. The engine data keeps the
gear of the last record while a shorter gear table is loaded, and the manual states no ratio for it
(assumption 5). -/
opaque gearRatioBeyondTable : Nat → Nat × Nat

/-- The route kind that a ROUTE payload's kind byte stands for. R140 names the three kinds and section 11.7
gives them no codes (assumption 6). -/
opaque routeKindOfCode : Byte → Option RouteKind

/-- The bytes in which an answer's data travel. The manual lays out the central formats only (assumption 7). -/
opaque answerDataBytes : Machine.AnswerData → List Byte

end Sys2Proof.Config
end

