-- ==== Sys2Proof/Decode.lean ====
section
/-! DEFINITION. The byte layouts of section 11.7: the two CRCs, the kind codes and payload lengths, the request a
frame of the vehicle link carries, and the frame that carries a request. The rows of spec/opcode_table.json
give no bits, so no table word spells a command. -/

namespace Sys2Proof

/-- The command that an opcode-table word spells: no row of the table gives bits. -/
def decodeTableWord (_nbits _w : Nat) : Option Instr := none

/-! ## Checksums -/

/-- One shift of the CRC-16 register (section 11.7). -/
def crc16Shift (r : BitVec 16) : BitVec 16 :=
  if r.msb then (r <<< 1) ^^^ 0x1021#16 else r <<< 1

/-- One byte taken into the CRC-16 register: XORed into its upper eight bits, then eight shifts. -/
def crc16Byte (r : BitVec 16) (b : Byte) : BitVec 16 :=
  (List.range 8).foldl (fun r _ => crc16Shift r) (r ^^^ (b.setWidth 16 <<< 8))

/-- The CRC-16 of the vehicle link: it starts at 0xFFFF, and no final XOR is applied. -/
def crc16 (bytes : List Byte) : BitVec 16 := bytes.foldl crc16Byte 0xFFFF#16

/-- One shift of the CRC-8 register (section 11.7). -/
def crc8Shift (r : Byte) : Byte := if r.msb then (r <<< 1) ^^^ 0x07#8 else r <<< 1

/-- One byte taken into the CRC-8 register. -/
def crc8Byte (r b : Byte) : Byte := (List.range 8).foldl (fun r _ => crc8Shift r) (r ^^^ b)

/-- The CRC-8 of the actuator link: it starts at 0x00. -/
def crc8 (bytes : List Byte) : Byte := bytes.foldl crc8Byte 0

/-! ## Fields -/

/-- An unsigned field of two bytes, most significant byte first. -/
def word16 (hi lo : Byte) : Nat := hi.toNat * 256 + lo.toNat

/-- A signed field of two bytes, two's complement. -/
def int16 (hi lo : Byte) : Int := (hi ++ lo : BitVec 16).toInt

/-- An unsigned field of four bytes. -/
def word32 (b3 b2 b1 b0 : Byte) : Nat := word16 b3 b2 * 65536 + word16 b1 b0

def byteOf (n : Nat) : Byte := BitVec.ofNat 8 n

def bytesOf16 (n : Nat) : List Byte := [byteOf (n / 256), byteOf n]

def bytesOf32 (n : Nat) : List Byte := bytesOf16 (n / 65536) ++ bytesOf16 n

def bytesOfInt16 (n : Int) : List Byte :=
  [(BitVec.ofInt 16 n).extractLsb' 8 8, (BitVec.ofInt 16 n).extractLsb' 0 8]

/-! ## Kind codes -/

abbrev kindChassis : Byte := 0x01
abbrev kindSettings : Byte := 0x02
abbrev kindTableOpen : Byte := 0x03
abbrev kindTableData : Byte := 0x04
abbrev kindTableClose : Byte := 0x05
abbrev kindTableRead : Byte := 0x06
abbrev kindRoute : Byte := 0x07
abbrev kindMask : Byte := 0x08
abbrev kindSeedTemps : Byte := 0x09
abbrev kindStart : Byte := 0x0A
abbrev kindStandDown : Byte := 0x0B
abbrev kindResetWarm : Byte := 0x0C
abbrev kindMotion : Byte := 0x10
abbrev kindHoldSet : Byte := 0x11
abbrev kindHoldCancel : Byte := 0x12
abbrev kindAssist : Byte := 0x13
abbrev kindAssistCancel : Byte := 0x14
abbrev kindMass : Byte := 0x15
abbrev kindQuery : Byte := 0x20
abbrev kindClearFaults : Byte := 0x21
abbrev kindStatus : Byte := 0x40
abbrev kindAnswer : Byte := 0x41

/-- The request kinds of the kind code table. -/
def requestKinds : List Byte :=
  [kindChassis, kindSettings, kindTableOpen, kindTableData, kindTableClose, kindTableRead, kindRoute,
   kindMask, kindSeedTemps, kindStart, kindStandDown, kindResetWarm, kindMotion, kindHoldSet,
   kindHoldCancel, kindAssist, kindAssistCancel, kindMass, kindQuery, kindClearFaults]

/-- Whether the kind code table allows a payload length for a request kind. -/
def lengthAllowed (kind : Byte) (n : Nat) : Bool :=
  if kind = kindChassis then n == 38 || n == 48 || n == 58
  else if kind = kindSettings then decide (3 ≤ n ∧ n ≤ 36 ∧ n % 3 = 0)
  else if kind = kindTableOpen then n == 2
  else if kind = kindTableData then decide (2 ≤ n ∧ n ≤ 16 ∧ n % 2 = 0)
  else if kind = kindTableClose then n == 0
  else if kind = kindTableRead then n == 3
  else if kind = kindRoute then n == 9
  else if kind = kindMask then n == 4
  else if kind = kindSeedTemps then n == 4 || n == 6 || n == 8
  else if kind = kindStart then n == 0
  else if kind = kindStandDown then n == 0
  else if kind = kindResetWarm then n == 0
  else if kind = kindMotion then n == 16
  else if kind = kindHoldSet then n == 2
  else if kind = kindHoldCancel then n == 0
  else if kind = kindAssist then n == 5
  else if kind = kindAssistCancel then n == 1
  else if kind = kindMass then n == 2
  else if kind = kindQuery then n == 1
  else if kind = kindClearFaults then n == 2
  else false

/-! ## The request a frame carries -/

/-- What the kind and length check of R180, and for QUERY the item code check of R183, make of a frame. -/
inductive FrameVerdict where
  | unknownKind
  | badLength
  /-- a QUERY whose item code lies outside 1 to 8 -/
  | badItem
  | request (i : Instr)
deriving DecidableEq, Repr

/-- The per-axle entries of a CHASSIS payload, ten bytes each. -/
def decodeAxleDescs : List Byte → List AxleDesc
  | f1 :: f0 :: p1 :: p0 :: l1 :: l0 :: h3 :: h2 :: h1 :: h0 :: rest =>
    ⟨word16 f1 f0, word16 p1 p0, word16 l1 l0, word32 h3 h2 h1 h0⟩ :: decodeAxleDescs rest
  | _ => []

/-- A CHASSIS payload: fields 0 to 11 in index order, eighteen bytes, then the per-axle entries
(assumption 8). -/
def decodeChassis : List Byte → Option ChassisRecord
  | n :: d :: rf :: xf :: r1 :: r0 :: ma1 :: ma0 :: na1 :: na0 :: g1 :: g0 :: e1 :: e0 :: o1 :: o0 ::
      k0 :: k1 :: rest =>
    some
      { axleCount := n.toNat, drive := d.toNat, retarderFitted := rf.toNat, exhaustFitted := xf.toNat,
        radius := word16 r1 r0, ma := word16 ma1 ma0, na := word16 na1 na0, grossMass := word16 g1 g0,
        exhaustMin := word16 e1 e0, overRev := word16 o1 o0, k0 := k0.toNat, k1 := k1.toNat,
        axles := decodeAxleDescs rest }
  | _ => none

/-- The id and value pairs of a SETTINGS payload. -/
def decodePairs : List Byte → List (Nat × Nat)
  | i :: v1 :: v0 :: rest => (i.toNat, word16 v1 v0) :: decodePairs rest
  | _ => []

/-- The unsigned 16-bit fields of a TABLE_DATA payload. -/
def decodeWords : List Byte → List Nat
  | v1 :: v0 :: rest => word16 v1 v0 :: decodeWords rest
  | _ => []

/-- The signed temperatures of a SEED_TEMPS payload. -/
def decodeTemps : List Byte → List Int
  | v1 :: v0 :: rest => int16 v1 v0 :: decodeTemps rest
  | _ => []

/-- A MOTION payload (section 11.7). -/
def decodeMotion : List Byte → Option MotionRecord
  | [a1, a0, b1, b0, c1, c0, d1, d0, e1, e0, g, fl, p1, p0, lv, am] =>
    some
      { wheels := ⟨word16 a1 a0, word16 b1 b0, word16 c1 c0, word16 d1 d0⟩, engine := word16 e1 e0,
        gear := g.toNat, clutch := fl.getLsbD 0, pedal := word16 p1 p0, lever := lv.toNat,
        ambient := am.toInt }
  | _ => none

/-- The command of a QUERY by its item code (R183). -/
def queryItem (tag : Byte) (code : Nat) : Option Instr :=
  match code with
  | 1 => some (.queryCapacities tag)
  | 2 => some (.queryAxles tag)
  | 3 => some (.queryFaults tag)
  | 4 => some (.queryEngagements tag)
  | 5 => some (.queryAssist tag)
  | 6 => some (.queryChassis tag)
  | 7 => some (.querySettings tag)
  | 8 => some (.queryRoute tag)
  | _ => none

/-- The request of a payload whose kind and length the kind code table allows. A payload that does not parse
is none; no allowed length leads there. -/
def decodePayload (kind tag : Byte) (payload : List Byte) : Option Instr :=
  if kind = kindChassis then (decodeChassis payload).map (.chassis tag)
  else if kind = kindSettings then some (.settings tag (decodePairs payload))
  else if kind = kindTableOpen then
    match payload with
    | [t, k] => some (.tableOpen tag t.toNat k.toNat)
    | _ => none
  else if kind = kindTableData then some (.tableData tag (decodeWords payload))
  else if kind = kindTableClose then some (.tableClose tag)
  else if kind = kindTableRead then
    match payload with
    | [t, k, n] => some (.tableRead tag t.toNat k.toNat n.toNat)
    | _ => none
  else if kind = kindRoute then
    match payload with
    | [k0, a0, k1, a1, k2, a2, k3, a3, r] =>
      some (.route tag
        ⟨⟨Config.routeKindOfCode k0, a0.toNat⟩, ⟨Config.routeKindOfCode k1, a1.toNat⟩,
         ⟨Config.routeKindOfCode k2, a2.toNat⟩, ⟨Config.routeKindOfCode k3, a3.toNat⟩⟩ r.toNat)
    | _ => none
  else if kind = kindMask then
    match payload with
    | [f0, f1, f2, f3] => some (.mask tag ⟨f0.toNat, f1.toNat, f2.toNat, f3.toNat⟩)
    | _ => none
  else if kind = kindSeedTemps then some (.seedTemps tag (decodeTemps payload))
  else if kind = kindStart then some (.start tag)
  else if kind = kindStandDown then some (.standDown tag)
  else if kind = kindResetWarm then some (.resetWarm tag)
  else if kind = kindMotion then (decodeMotion payload).map .motion
  else if kind = kindHoldSet then
    match payload with
    | [v1, v0] => some (.holdSet tag (word16 v1 v0))
    | _ => none
  else if kind = kindHoldCancel then some (.holdCancel tag)
  else if kind = kindAssist then
    match payload with
    | [q, d1, d0, h1, h0] => some (.assist tag q.toNat (word16 d1 d0) (word16 h1 h0))
    | _ => none
  else if kind = kindAssistCancel then
    match payload with
    | [q] => some (.assistCancel tag q.toNat)
    | _ => none
  else if kind = kindMass then
    match payload with
    | [m1, m0] => some (.mass tag (word16 m1 m0))
    | _ => none
  else if kind = kindQuery then
    match payload with
    | [c] => queryItem tag c.toNat
    | _ => none
  else
    match payload with
    | [s1, s0] => some (.clearFaults tag (s1 ++ s0))
    | _ => none

/-- The kind and length check of R180, and the request of a frame that passes it. -/
def decodeFrame (kind tag : Byte) (payload : List Byte) : FrameVerdict :=
  if !requestKinds.contains kind then .unknownKind
  else if !lengthAllowed kind payload.length then .badLength
  else
    match decodePayload kind tag payload with
    | some i => .request i
    | none => .badItem

/-! ## The frame that carries a request -/

def encodeAxleDesc (d : AxleDesc) : List Byte :=
  bytesOf16 d.brakeFactor ++ bytesOf16 d.pMax ++ bytesOf16 d.load ++ bytesOf32 d.heatCap

def encodeChassis (c : ChassisRecord) : List Byte :=
  [byteOf c.axleCount, byteOf c.drive, byteOf c.retarderFitted, byteOf c.exhaustFitted] ++
    bytesOf16 c.radius ++ bytesOf16 c.ma ++ bytesOf16 c.na ++ bytesOf16 c.grossMass ++
    bytesOf16 c.exhaustMin ++ bytesOf16 c.overRev ++ [byteOf c.k0, byteOf c.k1] ++
    c.axles.flatMap encodeAxleDesc

def encodeMotion (m : MotionRecord) : List Byte :=
  m.wheels.toList.flatMap bytesOf16 ++ bytesOf16 m.engine ++
    [byteOf m.gear, if m.clutch then 1 else 0] ++ bytesOf16 m.pedal ++
    [byteOf m.lever, BitVec.ofInt 8 m.ambient]

/-- The kind, tag and payload of the frame that carries a request; none for a command that is no request, and
for ROUTE, whose kind codes the manual does not give (assumption 6). A MOTION is sent with tag 0. -/
def encodeFrame : Instr → Option (Byte × Byte × List Byte)
  | .chassis tag r => some (kindChassis, tag, encodeChassis r)
  | .settings tag ps => some (kindSettings, tag, ps.flatMap fun p => byteOf p.1 :: bytesOf16 p.2)
  | .tableOpen tag t k => some (kindTableOpen, tag, [byteOf t, byteOf k])
  | .tableData tag fs => some (kindTableData, tag, fs.flatMap bytesOf16)
  | .tableClose tag => some (kindTableClose, tag, [])
  | .tableRead tag t k n => some (kindTableRead, tag, [byteOf t, byteOf k, byteOf n])
  | .mask tag fs => some (kindMask, tag, fs.toList.map byteOf)
  | .seedTemps tag ts => some (kindSeedTemps, tag, ts.flatMap bytesOfInt16)
  | .start tag => some (kindStart, tag, [])
  | .standDown tag => some (kindStandDown, tag, [])
  | .resetWarm tag => some (kindResetWarm, tag, [])
  | .motion r => some (kindMotion, 0, encodeMotion r)
  | .holdSet tag v => some (kindHoldSet, tag, bytesOf16 v)
  | .holdCancel tag => some (kindHoldCancel, tag, [])
  | .assist tag q d h => some (kindAssist, tag, byteOf q :: (bytesOf16 d ++ bytesOf16 h))
  | .assistCancel tag q => some (kindAssistCancel, tag, [byteOf q])
  | .mass tag kg => some (kindMass, tag, bytesOf16 kg)
  | .queryCapacities tag => some (kindQuery, tag, [1])
  | .queryAxles tag => some (kindQuery, tag, [2])
  | .queryFaults tag => some (kindQuery, tag, [3])
  | .queryEngagements tag => some (kindQuery, tag, [4])
  | .queryAssist tag => some (kindQuery, tag, [5])
  | .queryChassis tag => some (kindQuery, tag, [6])
  | .querySettings tag => some (kindQuery, tag, [7])
  | .queryRoute tag => some (kindQuery, tag, [8])
  | .clearFaults tag m => some (kindClearFaults, tag, [m.extractLsb' 8 8, m.extractLsb' 0 8])
  | .route _ _ _ | .coldReset | .speedHoldUpdate | .slipEvaluation | .capacityRecomputation
  | .motionTimerExpiry | .recoveryExpiry | .assistExpiry _ | .holdoffExpiry | .vehicleLinkFrame _
  | .frameAbandoned _ | .statusReport | .pass | .rotationTimerExpiry | .thermalUpdate
  | .retarderWant | .retarderNodeState | .fillTimerExpiry | .drainTimerExpiry | .retarderNodeLost
  | .exhaustWant | .flapSwitchChange _ | .flapTimerExpiry | .pressureDemand _ | .localSample _ _
  | .remoteMeasurement _ | .channelPresenceChange _ | .trackingTimerExpiry _ | .pollTimerExpiry _
  | .commandFrameSent | .actuatorAnswer _ | .answerTimeout | .abandonedWindowEnd
  | .transmitFrameSent => none

/-- The bytes of a vehicle link frame (section 11.7): sync, length, kind, tag, payload, and the CRC-16 over the
length to the last payload byte. -/
def envelope (kind tag : Byte) (payload : List Byte) : List Byte :=
  let body := byteOf payload.length :: kind :: tag :: payload
  let crc := crc16 body
  0xA5 :: body ++ [crc.extractLsb' 8 8, crc.extractLsb' 0 8]

end Sys2Proof
end

