-- ==== Sys2Proof/Machine/Motion.lean ====
section
/-! DEFINITION. Motion Input (chapter 3): a MOTION record's fields limited, speed presence, validity and the
reference speed, motion freshness, the driveline check, and the hand-offs of R46. -/

namespace Sys2Proof.Machine

/-- A MOTION record with its fields limited (R43). `changed` says whether any field was changed. -/
structure LimitedRecord where
  wheels : Axles (Option Nat)
  engine : Nat
  gear : Gear
  clutch : Bool
  pedal : Nat
  lever : Nat
  ambient : Int
  changed : Bool
deriving DecidableEq, Repr

/-- The gear of a gear code, given the gear count, and whether the code was changed (R43). -/
def limitGear (count code : Nat) : Gear × Bool :=
  if code = 0 then (.neutral, false)
  else if code = 15 then (.reverse, false)
  else if code ≤ count then (.forward code, false)
  else (.neutral, true)

/-- A wheel speed limited to 6000; 0xFFFF is absent (R43). -/
def limitSpeed (v : Nat) : Option Nat := if v = 65535 then none else some (min v 6000)

/-- Whether R43 changes a wheel speed. -/
def speedLimited (v : Nat) : Bool := decide (v ≠ 65535) && decide (6000 < v)

/-- Raises a counter by one, stopping at 255 (R43). -/
def countTo255 (n : Nat) : Nat := min (n + 1) 255

/-- The expected engine speed at a reference speed v through a gear ratio (R49). -/
def expectedEngineSpeed (c : ChassisRecord) (v mg ng : Nat) : Nat :=
  v * 60000 * mg * c.ma / (628 * c.radius * ng * c.na)

namespace Part

/-- The gear count as Motion Input reads it: 0 while the gear table is not VALID (R20). -/
def gearCount (p : Part) : Nat := if p.tableValid .gearTable then p.store.gearCount else 0

/-- The record's fields limited (R43). Wheel speeds at or above the axle count are ignored. -/
def limitRecord (p : Part) (r : MotionRecord) : LimitedRecord :=
  let gear := limitGear p.gearCount r.gear
  { wheels := .ofFn fun a => if p.hasAxle a then limitSpeed (r.wheels.get a) else none
    engine := min r.engine 4000
    gear := gear.1
    clutch := r.clutch
    pedal := min r.pedal 1000
    lever := min r.lever 5
    ambient := limitInt (-40) 60 r.ambient
    changed := p.axles.any (fun a => speedLimited (r.wheels.get a)) || decide (4000 < r.engine) ||
      gear.2 || decide (1000 < r.pedal) || decide (5 < r.lever) ||
      decide (r.ambient < -40) || decide (60 < r.ambient) }

/-- The clamped input counter rises by one (R43). -/
def countClamped (p : Part) : Part :=
  { p with motion := { p.motion with clamped := countTo255 p.motion.clamped } }

/-- SPEED_MISSING of one axle is raised or ended (R44). -/
def judgeSpeedMissing (p : Part) (wheels : Axles (Option Nat)) (a : Axle) : Part :=
  let present := p.motion.speedMissing.get a
  let set := fun (p : Part) (v : Bool) =>
    { p with motion := { p.motion with speedMissing := p.motion.speedMissing.set a v } }
  match wheels.get a, present with
  | none, false => (set p true).faultOccurs (.axle a) .speedMissing
  | some _, true => (set p false).faultEnds (.axle a) .speedMissing
  | none, true => p
  | some _, false => p

/-- The present speeds of the non-driven axles. -/
def nonDrivenSpeeds (p : Part) (wheels : Axles (Option Nat)) : List Nat :=
  (p.axles.filter fun a => !p.isDrive a).filterMap wheels.get

/-- The speed of the drive axle, if it is present. -/
def driveSpeed (p : Part) (wheels : Axles (Option Nat)) : Option Nat :=
  (p.axles.filter p.isDrive).findSome? wheels.get

/-- The reference speed of a record, none for an invalid record (R45). -/
def referenceOf (p : Part) (wheels : Axles (Option Nat)) : Option Nat :=
  match (p.nonDrivenSpeeds wheels).max? with
  | some v => some v
  | none => p.driveSpeed wheels

/-! ## Freshness (R47, R48) -/

/-- A valid record makes motion FRESH, restarts the motion timer and ends a present STALE (R47). -/
def refresh (p : Part) : Part :=
  let wasPresent := p.motion.stalePresent
  let p := { p with motion := { p.motion with
    freshness := .fresh
    timer := p.startTimer (p.setting idMotionStale)
    stalePresent := false } }
  if wasPresent then p.faultEnds .motion .staleMotion else p

/-- MOTION_TIMER_EXPIRY: motion becomes STALE (R48). -/
def motionTimerExpiry (p : Part) : Part :=
  if timerDue p.motion.timer p.now then
    let wasPresent := p.motion.stalePresent
    let p := { p with motion := { p.motion with
      freshness := .stale, timer := none, stalePresent := true } }
    let p := if wasPresent then p else p.faultOccurs .motion .staleMotion
    p.modeOnStale
  else p

/-! ## The driveline check (R49 to R53) -/

/-- The ratio Mg/Ng of a forward gear of the gear table (chapter 1). A gear that the table does not hold has no
stated ratio (assumption 5). -/
def gearRatio (p : Part) (g : Nat) : Nat × Nat :=
  if 1 ≤ g ∧ g ≤ p.gearCount then
    let e := (p.table .gearTable).entry (g - 1)
    (e.first, e.second)
  else Config.gearRatioBeyondTable g

/-- Whether a forward gear with the clutch closed is engaged. -/
def coupled (gear : Gear) (clutch : Bool) : Bool :=
  match gear with
  | .forward _ => clutch
  | .neutral | .reverse => false

/-- Motion Input with the engagement of a record judged (R51). -/
def judgeEngagement (m : MotionInput) (gear : Gear) (clutch : Bool) : MotionInput :=
  let changed := match m.previous with
    | some prev => decide (prev ≠ (gear, clutch))
    | none => false
  let m := if changed then { m with driveline := .uncertain, matchCount := 0, mismatchCount := 0 } else m
  let m := if coupled gear clutch then m
    else { m with driveline := .decoupled, matchCount := 0, mismatchCount := 0 }
  { m with previous := some (gear, clutch) }

/-- Motion Input with one comparison made (R52). -/
def countComparison (m : MotionInput) (isMatch : Bool) : MotionInput :=
  if isMatch then
    let n := min (m.matchCount + 1) 3
    { m with mismatchCount := 0, matchCount := n, driveline := if n = 3 then .confirmed else m.driveline }
  else
    let n := min (m.mismatchCount + 1) 3
    { m with matchCount := 0, mismatchCount := n, driveline := if n = 3 then .mismatch else m.driveline }

/-- Motion Input with the comparison of a record made, if R52 calls for one. -/
def compareDriveline (p : Part) (m : MotionInput) (reference : Option Nat) (engine : Nat) (gear : Gear) :
    MotionInput :=
  match p.store.chassis, reference, gear with
  | some c, some v, .forward g =>
    if m.driveline ≠ .decoupled ∧ 300 ≤ v then
      let ratio := p.gearRatio g
      let e := expectedEngineSpeed c v ratio.1 ratio.2
      countComparison m (decide (absDiff engine e * 1000 ≤ p.setting idDrivelineTolerance * e))
    else m
  | _, _, _ => m

/-- The driveline check of a taken record (R51, R52), with the MISMATCH fault and the hand-off of a change of
state (R53). -/
def driveCheck (p : Part) (reference : Option Nat) (engine : Nat) (gear : Gear) (clutch : Bool) : Part :=
  let old := p.motion.driveline
  let m := p.compareDriveline (judgeEngagement p.motion gear clutch) reference engine gear
  let new := m.driveline
  let raise := decide (new = .mismatch) && decide (old ≠ .mismatch) && !m.mismatchPresent
  let end_ := decide (new = .confirmed) && m.mismatchPresent
  let p := { p with motion := { m with mismatchPresent := (m.mismatchPresent || raise) && !end_ } }
  let p := if raise then p.faultOccurs .driveline .mismatch else p
  let p := if end_ then p.faultEnds .driveline .mismatch else p
  if new = old then p else p.needCapacities

/-! ## Taking a record -/

/-- Publishes the engine data of a taken record (R45). -/
def publishEngine (p : Part) (l : LimitedRecord) : Part :=
  { p with motion := { p.motion with engine := ⟨l.engine, l.gear, l.clutch, l.pedal, l.lever⟩ } }

/-- Publishes the road data of a valid record (R45). -/
def publishRoad (p : Part) (l : LimitedRecord) (reference : Nat) : Part :=
  { p with motion := { p.motion with road := some ⟨reference, l.wheels, l.ambient, p.now⟩ } }

/-- What a valid record does beside what every taken record does: road data, freshness, the hand-offs of R46, and
what Mode Control is handed (R45 to R47). -/
def takeValid (p : Part) (l : LimitedRecord) (v : Nat) : Part :=
  let wasStale := decide (p.motion.freshness = .stale)
  let p := (p.publishRoad l v).refresh
  let p := p.handOn (.slipRecord v (p.driveSpeed l.wheels) (!(p.nonDrivenSpeeds l.wheels).isEmpty))
  let p := p.needCapacities
  let p := if wasStale then p.modeOnFreshAgain else p
  p.modeOnValidRecord l.pedal

/-- Motion Input takes a MOTION record (R42 to R53). Without a chassis record it refuses it, and only the clamped
input counter rises. The manual does not say whether the driveline check comes before or after R47 ends STALE, which a
full fault table shows: the model runs the check first, so that MISMATCH is raised or ended before STALE is ended
(R53, assumption 13). -/
def takeMotion (p : Part) (r : MotionRecord) : Part :=
  if p.store.chassis.isNone then p.countClamped
  else
    let l := p.limitRecord r
    let p := if l.changed then p.countClamped else p
    let p := p.axles.foldl (fun p a => p.judgeSpeedMissing l.wheels a) p
    let reference := p.referenceOf l.wheels
    let p := p.publishEngine l
    let p := p.driveCheck reference l.engine l.gear l.clutch
    let p := p.handOn (.demandRecord l.pedal l.lever reference)
    match reference with
    | some v => p.takeValid l v
    | none => p

end Part

/-! ## The commands -/

/-- MOTION (R42). -/
def execMotion (r : MotionRecord) (s : State) : Result := s.onPart (·.takeMotion r)

/-- MOTION_TIMER_EXPIRY (R48). -/
def execMotionTimerExpiry (s : State) : Result := s.onPart (·.motionTimerExpiry)

/-- SPEED_HOLD_UPDATE (R27). -/
def execSpeedHoldUpdate (s : State) : Result := s.onPart (·.speedHoldUpdate)

end Sys2Proof.Machine
end

