-- ==== Sys2Proof/Machine/Capacities.lean ====
section
/-! DEFINITION. The Capacity Unit (chapter 4): the exhaust, retarder and service capacities, the zero reasons, the
fade factors, the advised gear, and the condition OVERTEMP. -/

namespace Sys2Proof.Machine

/-- The points of a curve: the entries of a VALID table's slots. -/
def curvePoints (t : Table) (slots : Nat) : List Entry := (List.range slots).map t.entry

/-- The curve between its first and last point, at a value at or above the first point's (R61, R65): the last
point's value at or beyond it, and otherwise the part that holds the value. -/
def curveWithin (x : Nat) : List Entry → Nat
  | [] => 0
  | [last] => last.second
  | e0 :: e1 :: rest =>
    if x < e1.first then interpolate x e0.first e0.second e1.first e1.second
    else curveWithin x (e1 :: rest)

/-- The exhaust curve at an engine speed (R61): 0 below its first point. -/
def exhaustTorqueAt (pts : List Entry) (n : Nat) : Nat :=
  match pts with
  | [] => 0
  | e0 :: _ => if n < e0.first then 0 else curveWithin n pts

/-- The retarder curve at a speed (R65): a straight line from standstill below its first point. -/
def retarderForceAt (pts : List Entry) (v : Nat) : Nat :=
  match pts with
  | [] => 0
  | e0 :: _ => if v < e0.first then e0.second * v / e0.first else curveWithin v pts

/-- The road force of an exhaust torque through a gear ratio (R62). -/
def exhaustForce (c : ChassisRecord) (torque mg ng : Nat) : Nat :=
  satForce (torque * 100 * mg * c.ma / (ng * c.na * c.radius))

/-- The oil derate of a held oil temperature (R66). -/
def oilDerate (oil : Option Int) (derateStart cutout : Nat) : Nat :=
  match oil with
  | none => 1000
  | some t =>
    if t ≤ derateStart then 1000
    else if (cutout : Int) ≤ t then 0
    else 1000 - (t - derateStart).toNat * 1000 / (cutout - derateStart)

/-- The fade factor of a tier (R69). -/
def Tier.fadeFactor : Tier → Nat
  | .normal => 1000
  | .warm => 1000
  | .hot => 900
  | .fade => 700

namespace Part

/-- The exhaust torque at an engine speed, 0 while the exhaust curve is not VALID (R61). -/
def exhaustTorqueFor (p : Part) (n : Nat) : Nat :=
  if p.tableValid .exhaustCurve then exhaustTorqueAt (curvePoints p.store.exhaustCurve 8) n else 0

/-- The exhaust force of R62 at a torque in a gear. Neutral and reverse have no ratio, and give 0: R63 zeroes the
capacity there before R62 is reached. -/
def exhaustForceIn (p : Part) (torque : Nat) (gear : Gear) : Nat :=
  match p.store.chassis, gear with
  | some c, .forward g =>
    let ratio := p.gearRatio g
    exhaustForce c torque ratio.1 ratio.2
  | _, _ => 0

/-- The condition of R63 that zeroes the exhaust capacity, NONE when none of its six holds. -/
def exhaustBar (p : Part) : ExhaustZero :=
  if !p.exhaustFitted then .unfitted
  else if !p.tableValid .exhaustCurve || !p.tableValid .gearTable then .noTable
  else if p.flapFaultedOpen then .flapFaultedOpen
  else if p.motion.driveline = .decoupled then .notCoupled
  else if p.motion.driveline ≠ .confirmed then .notConfirmed
  else
    match p.store.chassis with
    | some c => if p.motion.engine.speed < c.exhaustMin then .lowEngineSpeed else .nothing
    | none => .unfitted

/-- The exhaust capacity (R62, R63). -/
def exhaustCapacity (p : Part) : Nat :=
  if p.exhaustBar = .nothing then
    p.exhaustForceIn (p.exhaustTorqueFor p.motion.engine.speed) p.motion.engine.gear
  else 0

/-- The exhaust zero reason (R63). -/
def exhaustReason (p : Part) : ExhaustZero :=
  if p.exhaustBar = .nothing ∧ p.exhaustCapacity = 0 then .noTorque else p.exhaustBar

/-- The retarder curve value (R65). -/
def retarderCurveValue (p : Part) : Nat :=
  match p.reference with
  | some v => if p.tableValid .retarderCurve then
      retarderForceAt (curvePoints p.store.retarderCurve 12) v else 0
  | none => 0

/-- The oil derate at the settings as they stand (R66). -/
def derate (p : Part) : Nat :=
  oilDerate p.cap.items.oilTemp (p.setting idDerateStart) (p.setting idCutout)

/-- Whether the oil temperature held is at or above the cutout (R67, R68). -/
def oilAtCutout (p : Part) : Bool :=
  match p.cap.items.oilTemp with
  | some t => decide ((p.setting idCutout : Int) ≤ t)
  | none => false

/-- The condition of R67 that zeroes the retarder capacity, NONE when none of its six holds. -/
def retarderBar (p : Part) : RetarderZero :=
  if !p.retarderFitted then .unfitted
  else if !p.tableValid .retarderCurve then .noTable
  else if !p.retarderPresent then .nodeAbsent
  else if p.retarderReported then .nodeFault
  else if p.oilAtCutout then .oilCutout
  else if p.reference.isNone then .noSpeed
  else .nothing

/-- The retarder capacity (R67). -/
def retarderCapacity (p : Part) : Nat :=
  if p.retarderBar = .nothing then p.retarderCurveValue * p.derate / 1000 else 0

/-- The retarder zero reason (R67). -/
def retarderReason (p : Part) : RetarderZero :=
  if p.retarderBar = .nothing ∧ p.retarderCapacity = 0 then .noForce else p.retarderBar

/-- The fade factor of an axle (R69); 0 for a position without an axle. -/
def fadeFactor (p : Part) (a : Axle) : Nat :=
  if p.hasAxle a then ((p.thermal.axles.get a).tier).fadeFactor else 0

/-- The service capacity of an axle (R70). -/
def serviceCapacity (p : Part) (a : Axle) : Nat :=
  if p.hasAxle a && (p.chan.get a).available then
    (p.axleDesc a).pMax * (p.axleDesc a).brakeFactor * p.fadeFactor a / 100000
  else 0

/-- The sum of the service capacities of the axles not masked (R70). -/
def unmaskedServiceSum (p : Part) : Nat :=
  ((p.axles.filter fun a => !p.app.mask.get a).map p.serviceCapacity).sum

/-- The advised gear (R71, R72). -/
def advisedGear (p : Part) : Nat :=
  match p.store.chassis, p.motion.engine.gear, p.reference with
  | some c, .forward g, some v =>
    if p.exhaustFitted && p.tableValid .exhaustCurve && p.tableValid .gearTable &&
        decide (p.motion.driveline = .confirmed) && !p.flapFaultedOpen && decide (2 ≤ g) then
      let ratio := p.gearRatio (g - 1)
      let e := expectedEngineSpeed c v ratio.1 ratio.2
      if c.overRev < e then 0
      else
        let lower := if e < c.exhaustMin then 0
          else exhaustForce c (p.exhaustTorqueFor e) ratio.1 ratio.2
        if p.exhaustCapacity * 1100 / 1000 < lower then g - 1 else 0
    else 0
  | _, _, _ => 0

/-- The items of R58 as the inputs stand. -/
def capacities (p : Part) : Capacity :=
  { exhaustTorque := p.exhaustTorqueFor p.motion.engine.speed
    exhaust := p.exhaustCapacity
    exhaustZero := p.exhaustReason
    oilTemp := p.cap.items.oilTemp
    curveValue := p.retarderCurveValue
    derate := p.derate
    retarder := p.retarderCapacity
    retarderZero := p.retarderReason
    fade := .ofFn p.fadeFactor
    service := .ofFn p.serviceCapacity
    unmaskedSum := p.unmaskedServiceSum
    advisedGear := p.advisedGear }

/-- OVERTEMP judged at a recomputation (R68). -/
def judgeOvertemp (p : Part) : Part :=
  if p.cap.items.oilTemp.isSome && p.retarderFitted then
    match p.oilAtCutout, p.cap.overtempPresent with
    | true, false => { p with cap := { p.cap with overtempPresent := true } }.faultOccurs .retarder .overtemp
    | false, true => { p with cap := { p.cap with overtempPresent := false } }.faultEnds .retarder .overtemp
    | true, true => p
    | false, false => p
  else p

/-- A recomputation: every item of R58 replaced together (R60), and OVERTEMP judged (R68). -/
def recompute (p : Part) : Part :=
  { p with cap := { p.cap with items := p.capacities } }.judgeOvertemp

/-- CAPACITY_RECOMPUTATION: the Capacity Unit takes the oldest event of R59 handed to it. -/
def capacityRecomputation (p : Part) : Part :=
  match p.waiting .capacity with
  | some _ => (p.taken .capacity).recompute
  | none => p

/-- The Capacity Unit holds the oil temperature of an answer (R64). -/
def holdOil (p : Part) (oil : Option Int) : Part :=
  { p with cap := { p.cap with items := { p.cap.items with oilTemp := oil } } }

end Part

/-- CAPACITY_RECOMPUTATION (R59). -/
def execCapacityRecomputation (s : State) : Result := s.onPart (·.capacityRecomputation)

end Sys2Proof.Machine
end

