-- ==== Sys2Proof/Machine/Clears.lean ====
section
/-! DEFINITION. Clearing faults (R186, R187): the sources of a mask, the waiting set of a held clear, its
application, and the holdoff. -/

namespace Sys2Proof.Machine

/-- Whether a source mask names a source (section 11.7): bits 0 to 3 axle channels, 4 the retarder, 5 the flap,
6 motion, 7 the driveline, 8 to 14 node addresses 1 to 7. -/
def maskNames (mask : BitVec 16) (src : Source) : Bool :=
  match src with
  | .axle a => mask.getLsbD a.val
  | .retarder => mask.getLsbD 4
  | .flap => mask.getLsbD 5
  | .motion => mask.getLsbD 6
  | .driveline => mask.getLsbD 7
  | .node addr => decide (1 ≤ addr) && decide (addr ≤ 7) && mask.getLsbD (7 + addr)

/-- Whether a clear removes an entry (R187): an entry of a named source that is a trip's, or a condition's that is
no longer present. -/
def FaultEntry.clearedBy (e : FaultEntry) (mask : BitVec 16) : Bool :=
  maskNames mask e.source && (e.code.isTrip || !e.present)

namespace Part

/-- The node addresses of the node-backed sources a mask names (R186): the REMOTE axle channels', and the retarder's
while a retarder node is routed. The manual names a set; the order, axles 0 to 3 and then the retarder, is the model's
choice, and the order in which CLEAR_FAULTS posts its POLLs (assumption 13). -/
def backingNodes (p : Part) (mask : BitVec 16) : List Nat :=
  let axles := Axle.all.filterMap fun a =>
    match (p.chan.get a).route with
    | .remote addr => if maskNames mask (.axle a) then some addr else none
    | .unrouted => none
    | .localStage => none
  if maskNames mask .retarder then axles ++ p.retRoute.toList else axles

/-- A clear is handed to the owners of the named sources that can be tripped (R187). -/
def readmitNamed (p : Part) (mask : BitVec 16) : Part :=
  let p := if maskNames mask .retarder then p.readmitRetarder else p
  let p := if maskNames mask .flap then p.readmitFlap else p
  Axle.all.foldl (fun p a => if maskNames mask (.axle a) then p.readmitChannel a else p) p

/-- Applies a clear (R187). -/
def applyClear (p : Part) (mask : BitVec 16) : Part :=
  let kept := p.faults.entries.filter fun e => !e.clearedBy mask
  let removed := decide (kept.length < p.faults.entries.length)
  let p := { p with faults := { p.faults with entries := kept } }
  (if removed then p.flagFaultsChanged else p).readmitNamed mask

/-- Applies the held clear and sends its DONE with the recorded tag (R186). -/
def applyHeld (p : Part) (h : HeldClear) : Part :=
  (({ p with faults := { p.faults with held := none } }).applyClear h.sources).answer
    kindClearFaults h.tag .done

/-- An address leaves the waiting set of a held clear, which is applied once the set is empty (R186). -/
def noLongerWaiting (p : Part) (gone : Nat → Bool) : Part :=
  match p.faults.held with
  | some h =>
    let rest := h.waiting.filter fun a => !gone a
    if rest = [] then p.applyHeld h
    else { p with faults := { p.faults with held := some { h with waiting := rest } } }
  | none => p

/-- Posts a POLL for an address that has neither a DEMAND nor a POLL queued (R186). -/
def pollFor (p : Part) (addr : Nat) : Part := p.post addr .poll

/-- CLEAR_FAULTS (R186). A held clear is answered when it is applied. Its POLLs are posted in the order of `backingNodes`
(assumption 13). -/
def clearFaults (p : Part) (tag : Byte) (mask : BitVec 16) : Part :=
  let reply := fun (p : Part) (r : Reply) => p.answer kindClearFaults tag r
  if p.faults.held.isSome then reply p (.refused .busy)
  else if mask = 0 ∨ mask.getLsbD 15 then reply p (.refused (.badValue 0))
  else
    match p.backingNodes mask with
    | [] => reply (p.applyClear mask) .done
    | addr :: rest =>
      let waiting := addr :: rest
      let p := { p with faults := { p.faults with
        held := some ⟨tag, mask, waiting, ⟨p.now, p.setting idClearHoldoff⟩⟩ } }
      waiting.foldl pollFor p

/-- HOLDOFF_EXPIRY: the held clear is applied with the waiting set as it stands (R186). -/
def holdoffExpiry (p : Part) : Part :=
  match p.faults.held with
  | some h => if h.holdoff.due p.now then p.applyHeld h else p
  | none => p

end Part

/-! ## The commands -/

/-- CLEAR_FAULTS (R186). -/
def execClearFaults (tag : Byte) (sources : BitVec 16) (s : State) : Result :=
  s.onPart (·.clearFaults tag sources)

/-- HOLDOFF_EXPIRY (R186). -/
def execHoldoffExpiry (s : State) : Result := s.onPart (·.holdoffExpiry)

end Sys2Proof.Machine
end

