-- ==== Sys2Proof/Machine/LinkTransactions.lean ====
section
/-! DEFINITION. Transactions of the actuator link (chapter 9): the command frame, answers good and bad, misses and
timeouts, node presence and reported faults, poll timers, and the end of an abandoned window. -/

namespace Sys2Proof.Machine

/-! ## Frames (section 11.7) -/

/-- The first byte of an actuator link frame: the address, and 1 for DEMAND or 2 for POLL. -/
def Request.header (r : Request) : Byte := byteOf (r.addr * 16 + if r.payload.isDemand then 1 else 2)

/-- The bytes a DEMAND carries after the first (section 11.7). -/
def Payload.bytes : Payload → List Byte
  | .axleDemand (.pressure kPa) => bytesOf16 kPa
  | .axleDemand .release => [0xFF, 0xFF]
  | .retarderDemand t => (if t.engage then 1 else 0) :: bytesOf16 t.force
  | .poll => []

/-- The command frame of a request (R160). -/
def Request.frame (r : Request) : List Byte :=
  let body := r.header :: r.payload.bytes
  body ++ [crc8 body]

/-- Whether the part drives the actuator link: the level of ALDE (R160). -/
def LinkPhase.drives : LinkPhase → Bool
  | .inFlight t => t.window.isNone
  | .abandoned w => w.isNone
  | .idle => false

/-- What a good answer carries (R162). -/
inductive NodeAnswer where
  | axleModule (kPa : Nat) (faultCode : Nat)
  | retarderUnit (st : NodeState) (oil : Int) (faultCode : Nat)
deriving DecidableEq, Repr

/-- The node state of a code; a code above 3 is taken as FILLING (R162). -/
def nodeStateOf (code : Nat) : NodeState :=
  match code with
  | 0 => .drained
  | 1 => .filling
  | 2 => .filled
  | 3 => .draining
  | _ => .filling

/-- The payload of an answer by the use of its node; none when it does not have the length the use calls for
(R161). -/
def answerPayload (use : NodeUse) (payload : List Byte) : Option NodeAnswer :=
  match use, payload with
  | .axleModule _, [p1, p0, f] => some (.axleModule (min (word16 p1 p0) 1200) f.toNat)
  | .retarderUnit, [s, t1, t0, f] => some (.retarderUnit (nodeStateOf s.toNat) (int16 t1 t0) f.toNat)
  | .axleModule _, _ => none
  | .retarderUnit, _ => none

/-- A good answer to a request, from a node of a use: its CRC-8 is correct, it echoes the command, and its payload
has the length of the use (R161). -/
def goodAnswer (r : Request) (use : NodeUse) (received : List Byte) : Option NodeAnswer :=
  let body := received.dropLast
  if received.getLast? = some (crc8 body) ∧ body.head? = some r.header then answerPayload use body.tail
  else none

def NodeAnswer.faultCode : NodeAnswer → Nat
  | .axleModule _ f => f
  | .retarderUnit _ _ f => f

namespace Part

/-! ## Node entries -/

/-- Changes the node table's entry of an address. -/
def setNode (p : Part) (addr : Nat) (f : NodeEntry → NodeEntry) : Part :=
  { p with link := { p.link with
      nodes := p.link.nodes.map fun e => if e.addr == addr then f e else e } }

/-- Hands a presence change to the node's owner, and a retarder unit's to the Capacity Unit (R162, R163). Retarder
Control reads a presence of PRESENT itself, and is handed a loss. -/
def handPresence (p : Part) (use : NodeUse) (present : Bool) : Part :=
  match use with
  | .axleModule a => p.handOn (.channelPresence a present)
  | .retarderUnit => (if present then p else p.handOn .retarderNodeLost).needCapacities

/-- Hands a change of the reported fault to the node's owner, and a retarder unit's to the Capacity Unit
(R164). A channel judges its availability at once. -/
def handReported (p : Part) (use : NodeUse) : Part :=
  match use with
  | .axleModule a => p.judgeChannel a
  | .retarderUnit => p.needCapacities

/-- The transaction in flight is complete, and the link idle (R161). -/
def endTransaction (p : Part) : Part := { p with link := { p.link with phase := .idle } }

/-- A completed transaction is reported to the Fault Table (R186), and the idle link chooses again (R159). The manual
does not say whether the choice comes before or after what is posted in the same step, by a channel whose node reports a
fault or by a clear applied then: the model's choice is that a post is placed before a choice is made (assumption 10). -/
def afterTransaction (p : Part) (addr : Nat) : Part :=
  let p := if p.faults.held.any (·.waiting.contains addr) then p.noLongerWaiting (· == addr) else p
  p.chooseNext

/-! ## Good answers (R162, R164) -/

/-- A node's fault code judged (R164). -/
def judgeFaultCode (p : Part) (e : NodeEntry) (code : Nat) : Part :=
  if code = 0 then
    if e.reported then
      ((p.setNode e.addr fun e => { e with reported := false }).faultEnds (.node e.addr) .reported).handReported e.use
    else p
  else
    let p := p.setNode e.addr fun e => { e with reported := true, faultCode := code }
    if e.reported then p else (p.faultOccurs (.node e.addr) .reported).handReported e.use

/-- The answer's payload handed on (R162). The last node state is that of the last answer taken, and the oil
temperature that of the last answer (R64, R118). -/
def handPayload (p : Part) (e : NodeEntry) (ans : NodeAnswer) : Part :=
  match ans, e.use with
  | .axleModule kPa _, .axleModule a => p.handOn (.remoteMeasurement a kPa)
  | .retarderUnit st oil _, .retarderUnit =>
    let p := { p with ret := { p.ret with lastNodeState := some st } }
    ((p.handOn (.retarderNodeState st)).holdOil (some oil)).needCapacities
  | .axleModule _ _, .retarderUnit => p
  | .retarderUnit _ _ _, .axleModule _ => p

/-- A good answer from a node (R162). -/
def takeGoodAnswer (p : Part) (e : NodeEntry) (ans : NodeAnswer) : Part :=
  let p := p.setNode e.addr fun e =>
    { e with misses := 0, poll := ⟨p.now, p.setting idPollInterval⟩, presence := .present,
             lostPresent := false }
  let p := if e.lostPresent then p.faultEnds (.node e.addr) .nodeLost else p
  let p := if e.presence = .present then p else p.handPresence e.use true
  (p.judgeFaultCode e ans.faultCode).handPayload e ans

/-! ## Misses (R163) -/

/-- A missed DEMAND is put back with the time of the miss, unless a newer one is queued (R163). -/
def requeueMissed (p : Part) (r : Request) : Part :=
  if r.payload.isDemand && !p.link.queue.any (·.demandFor r.addr) then
    { p with link := { p.link with queue := p.link.queue ++ [{ r with enqueued := p.now }] } }
  else p

/-- A miss of a node's transaction (R163). -/
def takeMiss (p : Part) (e : NodeEntry) (r : Request) : Part :=
  let n := min (e.misses + 1) 3
  let p := (p.setNode e.addr fun e => { e with misses := n }).requeueMissed r
  if n = 3 ∧ e.presence ≠ .lost then
    let p := p.setNode e.addr fun e => { e with presence := .lost, lostPresent := true }
    let p := if e.lostPresent then p else p.faultOccurs (.node e.addr) .nodeLost
    p.handPresence e.use false
  else p

/-- A transaction completed by a good answer, or by a miss (R161). A transaction whose address was removed changes
no entry, and is handed to no block (R156). -/
def completeTransaction (p : Part) (t : Transaction) (received : Option (List Byte)) : Part :=
  let p := p.endTransaction
  if t.orphan then p.chooseNext
  else
    match p.node t.request.addr with
    | none => p.chooseNext
    | some e =>
      let p := match received.bind (goodAnswer t.request e.use) with
        | some ans => p.takeGoodAnswer e ans
        | none => p.takeMiss e t.request
      p.afterTransaction t.request.addr

/-- ACTUATOR_ANSWER: an answer frame within the window of the transaction in flight (R160, R161). A frame outside it
is discarded. -/
def actuatorAnswer (p : Part) (received : List Byte) : Part :=
  match p.link.phase with
  | .inFlight t =>
    match t.window with
    | some w => if elapsed p.now w.start ≤ w.interval then p.completeTransaction t (some received) else p
    | none => p
  | .idle => p
  | .abandoned _ => p

/-- ANSWER_TIMEOUT: the answer window ends without an answer, a miss (R160, R163). -/
def answerTimeout (p : Part) : Part :=
  match p.link.phase with
  | .inFlight t => if timerDue t.window p.now then p.completeTransaction t none else p
  | .idle => p
  | .abandoned _ => p

/-- COMMAND_FRAME_SENT: ALDE is released, and the answer window of 1 ms opens (R160), also for a transaction that
was abandoned while its frame was being sent (R165). -/
def commandFrameSent (p : Part) : Part :=
  match p.link.phase with
  | .inFlight t =>
    if t.window.isNone then
      { p with link := { p.link with phase := .inFlight { t with window := p.startTimer 1 } } }
    else p
  | .abandoned w =>
    if w.isNone then { p with link := { p.link with phase := .abandoned (p.startTimer 1) } } else p
  | .idle => p

/-- ABANDONED_WINDOW_END: the answer window of an abandoned transaction ends, and the link is idle (R165). -/
def abandonedWindowEnd (p : Part) : Part :=
  match p.link.phase with
  | .abandoned w => if timerDue w p.now then (p.endTransaction).chooseNext else p
  | .inFlight _ => p
  | .idle => p

/-- POLL_TIMER_EXPIRY: queues a POLL for the node unless a request for it is queued, and restarts the timer
(R158). -/
def pollTimerExpiry (p : Part) (addr : Nat) : Part :=
  match p.node addr with
  | some e =>
    if e.poll.due p.now then
      (p.setNode addr fun e => { e with poll := ⟨p.now, p.setting idPollInterval⟩ }).post addr .poll
    else p
  | none => p

/-- The phase of the link once the transaction in flight is abandoned (R165). -/
def abandonedPhase (p : Part) : LinkPhase :=
  match p.link.phase with
  | .idle => .idle
  | .inFlight t => .abandoned t.window
  | .abandoned w => .abandoned w

end Part

/-! ## The commands -/

/-- ACTUATOR_ANSWER (R161). -/
def execActuatorAnswer (received : List Byte) (s : State) : Result := s.onPart (·.actuatorAnswer received)

/-- ANSWER_TIMEOUT (R160). -/
def execAnswerTimeout (s : State) : Result := s.onPart (·.answerTimeout)

/-- COMMAND_FRAME_SENT (R160). -/
def execCommandFrameSent (s : State) : Result := s.onPart (·.commandFrameSent)

/-- ABANDONED_WINDOW_END (R165). -/
def execAbandonedWindowEnd (s : State) : Result := s.onPart (·.abandonedWindowEnd)

/-- POLL_TIMER_EXPIRY (R158). -/
def execPollTimerExpiry (addr : Nat) (s : State) : Result := s.onPart (·.pollTimerExpiry addr)

end Sys2Proof.Machine
end

