-- ==== Sys2Proof/Machine/Thermal.lean ====
section
/-! DEFINITION. The Thermal Model (chapter 6): the start of the estimate, heating and cooling, the tiers, and
seeding. -/

namespace Sys2Proof.Machine

/-- The order of the tiers. -/
def Tier.rank : Tier → Nat
  | .normal => 0
  | .warm => 1
  | .hot => 2
  | .fade => 3

/-- The tier below. -/
def Tier.below : Tier → Tier
  | .normal => .normal
  | .warm => .normal
  | .hot => .warm
  | .fade => .hot

/-- The heating of an axle at a running update, in m°C (R108). -/
def heatingOf (force reference heatCap : Nat) : Nat := ceilDiv (force * reference * 10) heatCap

/-- The cooling coefficient (R109). -/
def coolingCoefficient (c : ChassisRecord) (reference : Nat) : Nat := c.k0 + c.k1 * reference / 100

/-- The cooling of an axle at a running update, in m°C (R109): of its temperature above the ambient. -/
def coolingOf (temp ambient : Int) (k : Nat) : Int :=
  let excess := temp - ambient * 1000
  if excess ≤ 0 then 0 else min (excess * k / 100000) excess

/-- The new temperature of an axle at a running update (R108, R109). -/
def newTemp (temp ambient : Int) (k heating : Nat) : Int :=
  min (temp + heating - coolingOf temp ambient k) 1500000

namespace Part

/-- The threshold of a tier in m°C (R110); NORMAL has none, and every temperature is above it. -/
def tierThreshold (p : Part) (t : Tier) : Int :=
  match t with
  | .normal => -1000000000
  | .warm => (p.setting idWarm : Int) * 1000
  | .hot => (p.setting idHot : Int) * 1000
  | .fade => (p.setting idFade : Int) * 1000

/-- The rising tier of a temperature (R110). -/
def risingTier (p : Part) (temp : Int) : Tier :=
  if p.tierThreshold .fade ≤ temp then .fade
  else if p.tierThreshold .hot ≤ temp then .hot
  else if p.tierThreshold .warm ≤ temp then .warm
  else .normal

/-- One step down, while the temperature is below the tier's threshold less the hysteresis (R111). -/
def dropOnce (p : Part) (temp : Int) (t : Tier) : Tier :=
  if t ≠ .normal ∧ temp < p.tierThreshold t - (p.setting idHysteresis : Int) * 1000 then t.below else t

/-- The tier judged from a temperature with hysteresis (R111). -/
def judgedTier (p : Part) (temp : Int) (t : Tier) : Tier :=
  let r := p.risingTier temp
  if t.rank < r.rank then r else p.dropOnce temp (p.dropOnce temp (p.dropOnce temp t))

/-- The sum of the nominal loads of all axles (R107). -/
def loadSum (p : Part) : Nat := (p.axles.map fun a => (p.axleDesc a).load).sum

/-- The backup estimate of an axle (R107). -/
def backupEstimate (p : Part) (a : Axle) : Nat := p.demand.pedalForce * (p.axleDesc a).load / p.loadSum

/-- The force used of an axle (R106). -/
def forceUsed (p : Part) (a : Axle) : Nat :=
  match (p.chan.get a).state with
  | some .commanded => p.app.shares.get a
  | some .backup | some .faulted | some .unreachable | none => p.backupEstimate a

/-- An axle thermal record heated and cooled (R106 to R109). -/
def heatedAxle (p : Part) (c : ChassisRecord) (r : RoadData) (a : Axle) : AxleThermal :=
  let t := p.thermal.axles.get a
  let force := p.forceUsed a
  { t with
    temp := newTemp t.temp r.ambient (coolingCoefficient c r.reference)
      (heatingOf force r.reference (p.axleDesc a).heatCap)
    forceUsed := force }

/-- The axle's record after step 1 of an update (R104, R105). -/
def updatedAxle (p : Part) (a : Axle) : AxleThermal :=
  match p.store.chassis, p.motion.road with
  | some c, some r =>
    if p.motion.freshness = .fresh ∧ p.hasAxle a then p.heatedAxle c r a else p.thermal.axles.get a
  | _, _ => p.thermal.axles.get a

/-- An axle's record after its tier is judged (R111, R112). -/
def tieredAxle (p : Part) (a : Axle) : AxleThermal :=
  let t := p.updatedAxle a
  if p.hasAxle a then
    let tier := p.judgedTier t.temp t.tier
    { t with tier := tier, changed := t.changed || decide (tier ≠ t.tier) }
  else t

/-- The Capacity Unit and Mode Control are informed of a tier change (R112). -/
def informTierChange (p : Part) : Part := (p.needCapacities).tierChangeAlarm

/-- Whether two sets of axle thermal records differ in a tier. -/
def tiersDiffer (x y : Axles AxleThermal) : Bool :=
  Axle.all.any fun a => decide ((x.get a).tier ≠ (y.get a).tier)

/-- THERMAL_UPDATE: at the thermal timer's expiry the axles are heated and cooled while motion is FRESH, and their
tiers judged (R103 to R112). The timer is restarted from the expiry just taken. -/
def thermalUpdate (p : Part) : Part :=
  match p.thermal.timer with
  | some t =>
    if t.due p.now then
      let fresh := decide (p.motion.freshness = .fresh)
      let new : Axles AxleThermal := .ofFn p.tieredAxle
      let q := { p with thermal :=
        { axles := new
          ambientUsed := if fresh then p.ambient else p.thermal.ambientUsed
          timer := some ⟨t.expiry, 100⟩
          running := fresh } }
      if tiersDiffer p.thermal.axles new then q.informTierChange else q
    else p
  | none => p

/-- The start of the estimate at the acceptance of the chassis record (R102). -/
def startThermal (p : Part) : Part :=
  { p with thermal := { p.thermal with
      axles := .ofFn fun a => if p.hasAxle a then ⟨200000, .normal, false, 0⟩ else .absent
      timer := p.startTimer 100 } }

/-- An axle's record after seeding with a temperature in °C (R114). -/
def seededAxle (p : Part) (temps : List Int) (a : Axle) : AxleThermal :=
  let t := p.thermal.axles.get a
  if p.hasAxle a then
    let temp := limitInt (-40) 1000 (temps.getD a.val 0) * 1000
    { t with temp := temp, tier := p.risingTier temp, changed := true }
  else t

/-- SEED_TEMPS (R114), past the length check of the kind code table. -/
def seedTemps (p : Part) (temps : List Int) : Part × Reply :=
  if temps.length < 2 ∨ 4 < temps.length then (p, .refused .badLength)
  else if p.control.mode ≠ .config ∧ p.control.mode ≠ .standby then (p, .refused .mode)
  else if p.store.chassis.isNone then (p, .refused (.notReady 2 0))
  else if temps.length ≠ p.axleCount then (p, .refused .badLength)
  else
    let new : Axles AxleThermal := .ofFn (p.seededAxle temps)
    let q := { p with thermal := { p.thermal with axles := new } }
    let q := if tiersDiffer p.thermal.axles new then q.informTierChange else q
    (q, .applied (temps.any fun t => decide (t < -40) || decide (1000 < t)))

end Part

/-- THERMAL_UPDATE (R104). -/
def execThermalUpdate (s : State) : Result := s.onPart (·.thermalUpdate)

end Sys2Proof.Machine
end

