-- ==== Sys2Proof/Machine/Reports.lean ====
section
/-! DEFINITION. What the part sends on the vehicle link: the STATUS report and its layout (R181, section 11.7), the
contents of the QUERY answers (R183), the codes of section 11.6, and the bytes of each frame. -/

namespace Sys2Proof.Machine

/-! ## The codes of section 11.6 -/

def Mode.code : Mode → Nat
  | .config => 0
  | .standby => 1
  | .active => 2
  | .fallback => 3
  | .standingDown => 4

def LeadingSource.code : LeadingSource → Nat
  | .nobody => 0
  | .pedal => 1
  | .assist => 2
  | .hold => 3
  | .lever => 4

def RetarderState.code : RetarderState → Nat
  | .drained => 0
  | .filling => 1
  | .active => 2
  | .draining => 3
  | .faulted => 4

def FlapState.code : FlapState → Nat
  | .opened => 0
  | .closing => 1
  | .closed => 2
  | .opening => 3
  | .faulted => 4

def Driveline.code : Driveline → Nat
  | .uncertain => 0
  | .confirmed => 1
  | .mismatch => 2
  | .decoupled => 3

def Alarm.code : Alarm → Nat
  | .clear => 0
  | .raised => 1

/-- The code of a channel state; 0 for a channel that is not routed. -/
def channelStateCode : Option ChannelState → Nat
  | none => 0
  | some .backup => 1
  | some .commanded => 2
  | some .faulted => 3
  | some .unreachable => 4

def Reason.code : Reason → Nat
  | .mode => 1
  | .notReady _ _ => 2
  | .alreadySet => 3
  | .full => 4
  | .notFound => 5
  | .overrun => 6
  | .noTableOpen => 7
  | .badValue _ => 8
  | .busy => 9
  | .unknownKind => 10
  | .badLength => 11

/-- The index byte of a refusal reason: for NOT_READY the order number in the upper four bits and the item's index in
the lower four. -/
def Reason.index : Reason → Nat
  | .notReady order index => order * 16 + index
  | .badValue index => index
  | .mode | .alreadySet | .full | .notFound | .overrun | .noTableOpen | .busy | .unknownKind
  | .badLength => 0

def FaultCode.code : FaultCode → Nat
  | .tracking => 1
  | .fillTimeout => 2
  | .drainTimeout => 3
  | .stuckOpen => 4
  | .stuckClosed => 5
  | .nodeLost => 16
  | .reported => 17
  | .overtemp => 18
  | .staleMotion => 19
  | .speedMissing => 20
  | .mismatch => 21
  | .sensor => 22

def Source.code : Source → Nat
  | .axle a => a.val
  | .retarder => 4
  | .flap => 5
  | .motion => 6
  | .driveline => 7
  | .node addr => 16 + addr

/-! ## The STATUS report (R181) -/

/-- The reported temperature: the held one in whole °C, rounded down (R101). -/
def celsiusOf (temp : Int) : Int := temp / 1000

/-- An axle block of a position that has no axle (R181). -/
def AxleStatus.zero : AxleStatus := ⟨0, 0, 0, 0, .normal, false, none, false⟩

namespace Part

/-- The engagement list without the entries that have aged out (R138). -/
def countedEngagements (p : Part) : List Time := p.prunedEngagements

/-- The fault present count (R181). -/
def faultsPresent (p : Part) : Nat := (p.faults.entries.filter (·.present)).length

def axleStatus (p : Part) (a : Axle) : AxleStatus :=
  if p.hasAxle a then
    let t := p.thermal.axles.get a
    let c := p.chan.get a
    { share := p.app.shares.get a
      demand := p.app.demands.get a
      measured := c.measured.getD 0
      celsius := celsiusOf t.temp
      tier := t.tier
      tierChanged := t.changed
      state := c.state
      masked := p.app.mask.get a }
  else .zero

/-- The contents of a STATUS report, as their owners hold them (R181). -/
def statusContents (p : Part) : StatusReport :=
  { mode := p.control.mode
    flags := p.flags
    lead := p.demand.lead
    total := p.demand.total
    slipLimit := p.slip.limit
    exhaustCapacity := p.cap.items.exhaust
    retarderCapacity := p.cap.items.retarder
    exhaustCounted := p.app.exhaustCounted
    command := p.app.command
    retarder := p.ret.state
    flap := p.flap.state
    engagements := p.countedEngagements.length
    driveline := p.motion.driveline
    advisedGear := p.cap.items.advisedGear
    alarm := p.app.alarm
    shortfall := p.app.shortfall
    surplus := p.app.surplus
    faultsPresent := p.faultsPresent
    clamped := p.motion.clamped
    linkErrors := p.vl.errors
    axles := .ofFn p.axleStatus }

/-- Clears every transition flag and every tier-changed flag (R181). -/
def clearReported (p : Part) : Part :=
  { p with
    flags := .none
    thermal := { p.thermal with axles := p.thermal.axles.map fun t => { t with changed := false } } }

/-- STATUS_REPORT: at the report timer's expiry a report is formed, the flags it carries are cleared, and the timer is
restarted with the report interval as it stands (R181). -/
def statusReport (p : Part) : Part :=
  if p.vl.report.due p.now then
    let p := (p.form (.status p.statusContents)).clearReported
    { p with vl := { p.vl with report := ⟨p.now, p.setting idReportInterval⟩ } }
  else p

end Part

/-- The packed byte of an axle block (section 11.7). -/
def AxleStatus.packed (s : AxleStatus) : Nat :=
  let bit := fun (b : Bool) (k : Nat) => if b then 2 ^ k else 0
  s.tier.rank + bit s.tierChanged 2 + channelStateCode s.state * 8 + bit s.masked 6

def AxleStatus.bytes (s : AxleStatus) : List Byte :=
  bytesOf16 s.share ++ bytesOf16 s.demand ++ bytesOf16 s.measured ++ bytesOfInt16 s.celsius ++
    [byteOf s.packed]

/-- The 66 bytes of a STATUS payload (section 11.7). -/
def StatusReport.bytes (r : StatusReport) : List Byte :=
  byteOf r.mode.code :: bytesOf16 r.flags.word ++ byteOf r.lead.code ::
    ([r.total, r.slipLimit, r.exhaustCapacity, r.retarderCapacity, r.exhaustCounted, r.command].flatMap
      bytesOf16) ++
    [byteOf r.retarder.code, byteOf r.flap.code, byteOf r.engagements, byteOf r.driveline.code,
      byteOf r.advisedGear, byteOf r.alarm.code] ++
    bytesOf16 r.shortfall ++ bytesOf16 r.surplus ++ [byteOf r.faultsPresent, byteOf r.clamped] ++
    bytesOf16 r.linkErrors ++ r.axles.toList.flatMap AxleStatus.bytes

/-! ## Frames on the line -/

/-- The payload of an answer frame (section 11.7): the request's kind, the code, the reason, the index, and the data,
whose layout is open (assumption 7). -/
def Answer.bytes (a : Answer) : List Byte :=
  let data := match a.reply.data with
    | .nothing => []
    | d => Config.answerDataBytes d
  match a.reply.code with
  | .done => a.kind :: 0 :: 0 :: 0 :: data
  | .clamped => a.kind :: 1 :: 0 :: 0 :: data
  | .refused r => a.kind :: 2 :: byteOf r.code :: byteOf r.index :: data

/-- The bytes of a frame on VLTXD. A STATUS frame carries tag 0 (R181). -/
def Frame.bytes : Frame → List Byte
  | .answer a => envelope kindAnswer a.tag a.bytes
  | .status r => envelope kindStatus 0 r.bytes

/-! ## The contents of the QUERY answers -/

namespace Part

/-- QUERY CAPACITIES (R73). -/
def capacityReport (p : Part) : CapacityReport :=
  let c := p.cap.items
  { exhaustTorque := c.exhaustTorque
    exhaust := c.exhaust
    exhaustZero := c.exhaustZero
    oilTemp := c.oilTemp
    curveValue := c.curveValue
    derate := c.derate
    retarder := c.retarder
    retarderZero := c.retarderZero
    axles := p.axles.map fun a => (c.fade.get a, c.service.get a)
    unmaskedSum := c.unmaskedSum
    slipValue := p.slip.value
    slipLimit := p.slip.limit
    advisedGear := c.advisedGear }

/-- The last target sent of a REMOTE channel (R154). -/
def remoteTarget (p : Part) (a : Axle) : Option PressureTarget :=
  match (p.chan.get a).route with
  | .remote _ => (p.chan.get a).lastSent
  | .unrouted => none
  | .localStage => none

/-- An axle's record of the QUERY AXLES answer (R100, R115, R154). -/
def axleReport (p : Part) (a : Axle) : AxleReport :=
  let t := p.thermal.axles.get a
  let c := p.chan.get a
  { share := p.app.shares.get a
    demand := p.app.demands.get a
    eligible := p.app.eligible.get a
    weight := p.app.weights.get a
    masked := p.app.mask.get a
    temp := t.temp
    tier := t.tier
    tierChanged := t.changed
    forceUsed := t.forceUsed
    route := c.route
    state := c.state
    available := c.available
    lastDemand := c.lastDemand
    measured := c.measured
    sensorOut := c.sensorOut
    trackingLeft := timerLeft c.tracking p.now
    lastSent := p.remoteTarget a }

/-- What the QUERY AXLES answer carries beside the axles' records (R100, R115). -/
def passReport (p : Part) : PassReport :=
  { pointer := p.app.pointer
    rotationLeft := timerLeft p.app.rotationTimer p.now
    target := p.app.target
    exhaustWant := p.app.exhaustWant
    retarderWant := p.app.retarderWant
    serviceTotal := p.app.serviceTotal
    method := p.app.method
    rounds := p.app.rounds
    ambientUsed := p.thermal.ambientUsed
    running := p.thermal.running
    thermalLeft := timerLeft p.thermal.timer p.now }

/-- QUERY ENGAGEMENTS (R138). -/
def engagementReport (p : Part) : EngagementReport :=
  { state := p.ret.state
    lastNodeState := p.ret.lastNodeState
    lastSent := p.ret.lastSent
    ages := p.countedEngagements.map (elapsed p.now)
    heldEpisode := p.ret.heldEpisode
    fillLeft := timerLeft p.ret.fillTimer p.now
    drainLeft := timerLeft p.ret.drainTimer p.now
    flapLeft := timerLeft p.flap.timer p.now
    releaseAge := p.ret.releaseMark.map (elapsed p.now)
    flap := p.flap.state
    switchClosed := p.flap.switchClosed
    solenoid := p.flap.solenoid
    sinceOpen := elapsed p.now p.flap.enteredOpen }

/-- QUERY ASSIST (R41). -/
def demandReport (p : Part) : DemandReport :=
  { pedalReading := p.demand.pedalReading
    pedalForce := p.demand.pedalForce
    leverReading := p.demand.leverReading
    leverForce := p.demand.leverForce
    hold := p.demand.hold
    mass := p.demand.mass
    total := p.demand.total
    lead := p.demand.lead
    assists := p.demand.assists.map fun e =>
      ⟨e.requester, e.decel, e.force, e.hold, e.left p.now⟩ }

/-- A node record of the QUERY ROUTE answer (R167). -/
def nodeReport (p : Part) (e : NodeEntry) : NodeReport :=
  { addr := e.addr
    use := e.use
    presence := e.presence
    misses := e.misses
    faultCode := e.faultCode
    reported := e.reported
    pollLeft := e.poll.left p.now
    queued := (p.link.queue.filter (·.addr == e.addr)).map fun r => ⟨elapsed p.now r.enqueued, r.payload⟩ }

/-- QUERY ROUTE (R154, R167). -/
def routeReport (p : Part) : RouteReport :=
  { routes := p.chan.map (·.route)
    retarder := p.retRoute
    nodes := p.link.nodes.map p.nodeReport
    inFlight := match p.link.phase with
      | .inFlight t => some (t.request.addr, t.request.payload.isDemand)
      | .idle => none
      | .abandoned _ => none
    lastServed := p.link.lastServed }

/-! ## The queries (R183): each gives its reply and changes nothing -/

def replyCapacities (p : Part) : Reply := .carrying (.capacities p.capacityReport)

/-- QUERY AXLES carries no axle record while no chassis record is set (R183). -/
def replyAxles (p : Part) : Reply := .carrying (.axles (p.axles.map p.axleReport) p.passReport)

def replyFaults (p : Part) : Reply :=
  .carrying (.faults p.faults.entries p.faults.overflow (p.faults.held.map (·.holdoff.left p.now)))

def replyEngagements (p : Part) : Reply := .carrying (.engagements p.engagementReport)

def replyAssist (p : Part) : Reply := .carrying (.demand p.demandReport)

/-- QUERY CHASSIS is refused while no chassis record is set (R183), naming item 2 of R169. -/
def replyChassis (p : Part) : Reply :=
  match p.store.chassis with
  | some c => .carrying (.chassis c)
  | none => .refused (.notReady 2 0)

def replySettings (p : Part) : Reply := .carrying (.settings p.store.settings)

def replyRoute (p : Part) : Reply := .carrying (.route p.routeReport)

end Part

/-- STATUS_REPORT (R181). -/
def execStatusReport (s : State) : Result := s.onPart (·.statusReport)

end Sys2Proof.Machine
end

