-- ==== Sys2Proof/Machine/Routing.lean ====
section
/-! DEFINITION. ROUTE (R140, R141, R156): its checks, the reset of changed channels, the node table update, and the
change of the retarder route. -/

namespace Sys2Proof.Machine

/-- The route a position of ROUTE asks for; none when its kind and address do not fit (R140). -/
def routeOfField (f : RouteField) : Option Route :=
  match f.kind with
  | some .unrouted => if f.addr = 0 then some .unrouted else none
  | some .localStage => if f.addr = 0 then some .localStage else none
  | some .remote => if 1 ≤ f.addr ∧ f.addr ≤ 7 then some (.remote f.addr) else none
  | none => none

/-- The node address of a route. -/
def Route.addr : Route → Option Nat
  | .unrouted => none
  | .localStage => none
  | .remote a => some a

/-- The addresses named before a position: those of the REMOTE axle positions below it (R140). -/
def namedBefore (routes : Axles Route) (k : Nat) : List Nat :=
  (Axle.all.filter fun a => decide (a.val < k)).filterMap fun a => (routes.get a).addr

/-- The first position that names an address named before it, the retarder address being position 4 (R140). -/
def secondNaming (routes : Axles Route) (retarder : Option Nat) : Option Nat :=
  match Axle.all.find? fun a =>
      match (routes.get a).addr with
      | some x => (namedBefore routes a.val).contains x
      | none => false with
  | some a => some a.val
  | none =>
    match retarder with
    | some x => if (namedBefore routes 4).contains x then some 4 else none
    | none => none

/-- The use of each address of a set of routes, none for an address not routed (R141). -/
def useOf (routes : Axles Route) (retarder : Option Nat) (addr : Nat) : Option NodeUse :=
  match Axle.all.find? fun a => decide ((routes.get a).addr = some addr) with
  | some a => some (.axleModule a)
  | none => if retarder = some addr then some .retarderUnit else none

/-- The node addresses, in address order. -/
def allAddrs : List Nat := [1, 2, 3, 4, 5, 6, 7]

namespace Part

/-- Whether a position of ROUTE passes check 3 of R140. -/
def routeFieldOk (p : Part) (a : Axle) (f : RouteField) : Bool :=
  match routeOfField f with
  | some r => p.hasAxle a || decide (r = Route.unrouted)
  | none => false

/-- The routes of a ROUTE whose positions pass check 3. -/
def routesOf (fields : Axles RouteField) : Axles Route := fields.map fun f => (routeOfField f).getD .unrouted

/-- Checks 3 to 5 of R140: the position of the first that fails. -/
def routeFault (p : Part) (fields : Axles RouteField) (retarder : Nat) : Option Nat :=
  match Axle.all.find? fun a => !p.routeFieldOk a (fields.get a) with
  | some a => some a.val
  | none =>
    if 7 < retarder ∨ (retarder ≠ 0 ∧ !p.retarderFitted) then some 4
    else secondNaming (routesOf fields) (if retarder = 0 then none else some retarder)

/-! ## Applying a ROUTE (R141, R156) -/

/-- A channel whose route changed is reset (R141). Its availability is judged once the node table stands. -/
def resetChannel (p : Part) (a : Axle) (r : Route) : Part :=
  let c := p.chan.get a
  let p := if c.sensorOut then p.faultEnds (.axle a) .sensor else p
  let c : Channel :=
    { route := r
      state := if r = .unrouted then none else some .backup
      lastDemand := 0, measured := none, sensorOut := false, tracking := none, lastSent := none
      available := c.available
      sampling := if r = .localStage then p.startTimer 5 else none
      switched := false }
  (p.setChannel a c).discardLanes fun l => decide (l = .channelLink a)

/-- The axles whose route a ROUTE changes. -/
def changedAxles (p : Part) (routes : Axles Route) : List Axle :=
  Axle.all.filter fun a => decide ((p.chan.get a).route ≠ routes.get a)

/-- A node's entry as it enters the table (R156). -/
def newNode (p : Part) (addr : Nat) (use : NodeUse) : NodeEntry :=
  { addr := addr, use := use, presence := .unknown, misses := 0, reported := false, faultCode := 0,
    poll := ⟨p.now, p.setting idPollInterval⟩, lostPresent := false }

/-- Whether an address keeps its entry: it is in the table, and its use is unchanged (R156). -/
def keepsNode (p : Part) (routes : Axles Route) (retarder : Option Nat) (addr : Nat) : Bool :=
  match p.node addr, useOf routes retarder addr with
  | some e, some u => decide (e.use = u)
  | some _, none => false
  | none, _ => false

/-- An address is removed from the node table (R156): its conditions stop being present, its queued requests and a
transaction in flight to it lose their node. -/
def removeNode (p : Part) (e : NodeEntry) : Part :=
  let p := if e.lostPresent then p.faultEnds (.node e.addr) .nodeLost else p
  let p := if e.reported then p.faultEnds (.node e.addr) .reported else p
  { p with link := { p.link with
      queue := p.link.queue.filter fun r => r.addr != e.addr
      phase := match p.link.phase with
        | .inFlight t => if t.request.addr = e.addr then .inFlight { t with orphan := true } else .inFlight t
        | .idle => .idle
        | .abandoned w => .abandoned w } }

/-- The node table is compared with the routed addresses (R156). -/
def updateNodes (p : Part) (routes : Axles Route) (retarder : Option Nat) : Part :=
  let gone := p.link.nodes.filter fun e => !p.keepsNode routes retarder e.addr
  let nodes := allAddrs.filterMap fun x =>
    (useOf routes retarder x).map fun u =>
      if p.keepsNode routes retarder x then (p.node x).getD (p.newNode x u) else p.newNode x u
  let p := gone.foldl removeNode p
  { p with link := { p.link with nodes := nodes } }

/-- The retarder route changes (R141): Retarder Control acts as on a loss of the node, its last node state becomes
none, and the oil temperature held is discarded (R64, R127). R59 lists no recomputation for the discarded temperature
as such: the model hands one at every change of the retarder route, also where the presence of the retarder node reads
the same before and after (assumption 31). -/
def rerouteRetarder (p : Part) (old : Option Nat) : Part :=
  if p.retRoute = old then p
  else
    let p := p.discardLanes fun l => decide (l = .retarderLink)
    let p := { p with ret := { p.ret with lastNodeState := none } }
    ((p.holdOil none).loseRetarder).needCapacities

/-- A ROUTE that passed its checks is applied (R141, R156). A link that waited for the owner of a lost node, whose taking
of the loss the ROUTE discards, chooses then (R159, assumptions 10 and 15). -/
def applyRoute (p : Part) (routes : Axles Route) (retarder : Option Nat) : Part :=
  let changed := p.changedAxles routes
  let oldRetarder := p.retRoute
  let kept := fun x => p.keepsNode routes retarder x
  let p := changed.foldl (fun p a => p.resetChannel a (routes.get a)) p
  let p := { p with retRoute := retarder }.updateNodes routes retarder
  let p := changed.foldl (fun p a => p.judgeChannel a) p
  let p := changed.foldl postTarget p
  let p := (p.rerouteRetarder oldRetarder).chooseNext
  if p.faults.held.any fun h => h.waiting.any fun x => !kept x then
    p.noLongerWaiting fun x => !kept x
  else p

/-- ROUTE (R140). -/
def routeRequest (p : Part) (fields : Axles RouteField) (retarder : Nat) : Part × Reply :=
  if p.control.mode ≠ .config ∧ p.control.mode ≠ .standby then (p, .refused .mode)
  else if p.store.chassis.isNone then (p, .refused (.notReady 2 0))
  else
    match p.routeFault fields retarder with
    | some k => (p, .refused (.badValue k))
    | none =>
      (p.applyRoute (routesOf fields) (if retarder = 0 then none else some retarder), .done)

end Part

end Sys2Proof.Machine
end

