-- ==== Sys2Proof/Machine/Tables.lean ====
section
/-! DEFINITION. The Table Store's requests (chapter 1): the chassis record, the settings, and the loading,
validation and reading of the five tables. -/

namespace Sys2Proof.Machine

/-! ## The chassis record (R3 to R5) -/

/-- Whether a value lies in a range. -/
def inRange (lo hi v : Nat) : Bool := decide (lo ≤ v) && decide (v ≤ hi)

/-- The field checks of one per-axle entry, with their field indices (R4). -/
def axleChecks (a : Nat) (d : AxleDesc) : List (Nat × Bool) :=
  [(16 + 4 * a, inRange 50 2000 d.brakeFactor), (17 + 4 * a, inRange 200 1000 d.pMax),
   (18 + 4 * a, inRange 1000 13000 d.load), (19 + 4 * a, inRange 5000 200000 d.heatCap)]

/-- The field checks of a chassis record in ascending field index (R4). -/
def chassisChecks (c : ChassisRecord) : List (Nat × Bool) :=
  [(0, inRange 2 4 c.axleCount), (1, decide (c.drive < c.axleCount)), (2, inRange 0 1 c.retarderFitted),
   (3, inRange 0 1 c.exhaustFitted), (4, inRange 400 600 c.radius), (5, inRange 1 4095 c.ma),
   (6, inRange 1 4095 c.na && decide (2 * c.na ≤ c.ma) && decide (c.ma ≤ 8 * c.na)),
   (7, inRange 8000 32000 c.grossMass), (8, inRange 600 2000 c.exhaustMin),
   (9, inRange 1800 3500 c.overRev && decide (c.exhaustMin < c.overRev)),
   (10, inRange 0 200 c.k0), (11, inRange 0 200 c.k1)] ++
    (c.axles.zipIdx.flatMap fun x => axleChecks x.2 x.1)

/-- The index of the first field that fails (R4). -/
def chassisFault (c : ChassisRecord) : Option Nat := ((chassisChecks c).find? fun x => !x.2).map (·.1)

namespace Part

/-- The fade factor of every axle starts at 1000 ‰ (R69). It is published at the acceptance, ahead of the recomputation
that the acceptance causes (assumption 30). -/
def startFade (p : Part) : Part :=
  { p with cap := { p.cap with items := { p.cap.items with
      fade := .ofFn fun a => if p.hasAxle a then 1000 else 0 } } }

/-- The blocks act on the accepted chassis record (R5). -/
def acceptChassis (p : Part) (c : ChassisRecord) : Part :=
  let p := { p with store := { p.store with chassis := some c }, chan := .replicate .created }
  ((((p.startThermal).startFade).setMass c.grossMass).flapAtAcceptance).needCapacities

/-- CHASSIS (R3), past the length check of the kind code table. -/
def chassisRequest (p : Part) (c : ChassisRecord) : Part × Reply :=
  if c.axles.length < 2 ∨ 4 < c.axles.length then (p, .refused .badLength)
  else if p.control.mode ≠ .config then (p, .refused .mode)
  else if p.store.chassis.isSome then (p, .refused .alreadySet)
  else if !inRange 2 4 c.axleCount then (p, .refused (.badValue 0))
  else if c.axles.length ≠ c.axleCount then (p, .refused .badLength)
  else
    match chassisFault c with
    | some k => (p, .refused (.badValue k))
    | none => (p.acceptChassis c, .done)

/-! ## Settings (R8, R9) -/

/-- SETTINGS (R8), past the length check of the kind code table. -/
def settingsRequest (p : Part) (pairs : List (Nat × Nat)) : Part × Reply :=
  if pairs.length < 1 ∨ 12 < pairs.length then (p, .refused .badLength)
  else if p.control.mode ≠ .config ∧ p.control.mode ≠ .standby then (p, .refused .mode)
  else
    match pairs.findIdx? fun x => !inRange 1 39 x.1 with
    | some k => (p, .refused (.badValue k))
    | none =>
      let r := applySettings p.store.settings pairs
      ({ p with store := { p.store with settings := r.1 } }, .applied r.2)

/-! ## Table states -/

/-- Replaces a table. -/
def setTable (p : Part) (id : TableId) (t : Table) : Part :=
  match id with
  | .retarderCurve => { p with store := { p.store with retarderCurve := t } }
  | .exhaustCurve => { p with store := { p.store with exhaustCurve := t } }
  | .pedalMap => { p with store := { p.store with pedalMap := t } }
  | .leverMap => { p with store := { p.store with leverMap := t } }
  | .gearTable => { p with store := { p.store with gearTable := t } }

def setCursor (p : Part) (c : Option Cursor) : Part := { p with store := { p.store with cursor := c } }

def setGearCount (p : Part) (n : Nat) : Part := { p with store := { p.store with gearCount := n } }

/-- A table has entered or left VALID: its consumer acts (R20, R23, R24, R59). -/
def tableServiceChanged (p : Part) (id : TableId) : Part :=
  match id with
  | .pedalMap | .leverMap => p.remapForces
  | .retarderCurve | .exhaustCurve | .gearTable => p.needCapacities

/-- The open table is abandoned as INVALID, and no table is open (R13, R21). -/
def abandonTable (p : Part) : Part :=
  match p.store.cursor with
  | some c => (p.setTable c.table { p.table c.table with state := .invalid }).setCursor none
  | none => p

/-- The named table is opened at an index (R13). -/
def openTable (p : Part) (id : TableId) (start : Nat) : Part :=
  let other := match p.store.cursor with
    | some c => decide (c.table ≠ id)
    | none => false
  let p := if other then p.abandonTable else p
  let wasValid := p.tableValid id
  let slots := (p.table id).slots.take start ++ List.replicate (id.slots - start) none
  let p := (p.setTable id ⟨.loading, slots⟩).setCursor (some ⟨id, start⟩)
  let p := if id = .gearTable then p.setGearCount 0 else p
  if wasValid then p.tableServiceChanged id else p

/-- TABLE_OPEN (R13). -/
def tableOpen (p : Part) (table start : Nat) : Part × Reply :=
  if p.control.mode ≠ .config ∧ p.control.mode ≠ .standby then (p, .refused .mode)
  else
    match tableOfId table with
    | none => (p, .refused (.badValue 0))
    | some id =>
      if start < id.slots then (p.openTable id start, .done) else (p, .refused (.badValue 1))

end Part

/-! ## Writing entries (R14) -/

/-- Whether a table's entries have one field. -/
def TableId.isMap : TableId → Bool
  | .pedalMap | .leverMap => true
  | .retarderCurve | .exhaustCurve | .gearTable => false

/-- The entries that the fields of a TABLE_DATA payload make, two fields each. -/
def pairEntries : List Nat → Option (List Entry)
  | [] => some []
  | x :: y :: rest => (pairEntries rest).map (⟨x, y⟩ :: ·)
  | [_] => none

/-- The one to four whole entries of a TABLE_DATA payload of a table's kind, none when it does not hold them
(R14). -/
def entriesOf (id : TableId) (fields : List Nat) : Option (List Entry) :=
  let l := if id.isMap then some (fields.map fun x => ⟨x, 0⟩) else pairEntries fields
  match l with
  | some es => if 1 ≤ es.length ∧ es.length ≤ 4 then some es else none
  | none => none

/-- Slots with entries written from an index upward. -/
def writeSlots (slots : List (Option Entry)) (k : Nat) (es : List Entry) : List (Option Entry) :=
  slots.take k ++ es.map some ++ slots.drop (k + es.length)

namespace Part

/-- TABLE_DATA (R14), past the length check of the kind code table. -/
def tableData (p : Part) (fields : List Nat) : Part × Reply :=
  if fields.length < 1 ∨ 8 < fields.length then (p, .refused .badLength)
  else
    match p.store.cursor with
    | none => (p, .refused .noTableOpen)
    | some c =>
      match entriesOf c.table fields with
      | none => (p, .refused .badLength)
      | some es =>
        if c.table.slots < c.index + es.length then (p, .refused .overrun)
        else
          let t := p.table c.table
          ((p.setTable c.table { t with slots := writeSlots t.slots c.index es }).setCursor
            (some ⟨c.table, c.index + es.length⟩), .done)

end Part

/-! ## Validation (R16 to R18) -/

/-- Whether a slot is written. -/
def Table.written (t : Table) (k : Nat) : Bool := (t.slots.getD k none).isSome

/-- Whether slot k of a curve passes (R16), given the largest first and second field and whether the first field of
slot 0 must be above 0. -/
def curveSlotOk (t : Table) (maxFirst maxSecond : Nat) (positive : Bool) (k : Nat) : Bool :=
  t.written k && decide ((t.entry k).first ≤ maxFirst) && decide ((t.entry k).second ≤ maxSecond) &&
    (if k = 0 then !positive || decide (0 < (t.entry 0).first)
     else decide ((t.entry (k - 1)).first < (t.entry k).first))

/-- Whether slot k of a map passes (R17). -/
def mapSlotOk (t : Table) (k : Nat) : Bool :=
  t.written k && decide ((t.entry k).first ≤ 20000) &&
    (if k = 0 then (t.entry 0).first == 0 else decide ((t.entry (k - 1)).first ≤ (t.entry k).first))

/-- Whether slot k of the gear table passes (R18). -/
def gearSlotOk (t : Table) (k : Nat) : Bool :=
  let m := (t.entry k).first
  let n := (t.entry k).second
  t.written k && inRange 1 4095 m && inRange 1 4095 n && decide (n ≤ 2 * m) && decide (m ≤ 15 * n) &&
    (k == 0 || decide (m * (t.entry (k - 1)).second < (t.entry (k - 1)).first * n))

/-- The first slot below a bound that does not pass. -/
def firstFailing (bound : Nat) (ok : Nat → Bool) : Option Nat := (List.range bound).find? fun k => !ok k

/-- The first offending index of a table at close with the cursor at an index (R15 to R18). -/
def firstOffending (id : TableId) (t : Table) (cursor : Nat) : Option Nat :=
  match id with
  | .retarderCurve => firstFailing 12 (curveSlotOk t 6000 20000 true)
  | .exhaustCurve => firstFailing 8 (curveSlotOk t 4000 3000 false)
  | .pedalMap => firstFailing 9 (mapSlotOk t)
  | .leverMap => firstFailing 6 (mapSlotOk t)
  | .gearTable => if cursor = 0 then some 0 else firstFailing cursor (gearSlotOk t)

namespace Part

/-- TABLE_CLOSE (R15). -/
def tableClose (p : Part) : Part × Reply :=
  match p.store.cursor with
  | none => (p, .refused .noTableOpen)
  | some c =>
    let t := p.table c.table
    match firstOffending c.table t c.index with
    | some k => ((p.setTable c.table { t with state := .invalid }).setCursor none, .refused (.badValue k))
    | none =>
      let q := (p.setTable c.table { t with state := .valid }).setCursor none
      let q := if c.table = .gearTable then q.setGearCount c.index else q
      (q.tableServiceChanged c.table, .done)

/-! ## Reading (R19) -/

/-- The data of an accepted TABLE_READ (R19). -/
def tableReport (p : Part) (id : TableId) (first count : Nat) : TableReport :=
  { state := (p.table id).state
    cursor := match p.store.cursor with
      | some c => if c.table = id then some c.index else none
      | none => none
    gearCount := if id = .gearTable then some p.store.gearCount else none
    slots := (List.range count).map fun k =>
      ⟨((p.table id).slots.getD (first + k) none).isSome, (p.table id).entry (first + k)⟩ }

/-- TABLE_READ (R19). -/
def tableRead (p : Part) (table first count : Nat) : Part × Reply :=
  match tableOfId table with
  | none => (p, .refused (.badValue 0))
  | some id =>
    if id.slots ≤ first then (p, .refused (.badValue 1))
    else if !inRange 1 8 count || decide (id.slots < first + count) then (p, .refused (.badValue 2))
    else (p, .carrying (.table (p.tableReport id first count)))

end Part

end Sys2Proof.Machine
end

