-- ==== Sys2Proof/Machine/Resets.lean ====
section
/-! DEFINITION. The two resets (R177, R178): what each block does at a warm reset, by its own chapter, and the cold
reset. -/

namespace Sys2Proof.Machine

namespace Part

/-! ## The blocks at a warm reset -/

/-- The Demand Arbiter (R28, R34): speed hold is cancelled, and the assist table emptied without ASSIST_DROPPED. -/
def warmDemand (p : Part) : Part :=
  { p with demand := { p.demand with hold := .off, assists := [] } }

/-- Motion Input (R47, R50): freshness NONE, the timer stopped, the driveline UNCERTAIN with no engagement. -/
def warmMotion (p : Part) : Part :=
  { p with motion := { p.motion with
      freshness := .unseen, timer := none, driveline := .uncertain, matchCount := 0, mismatchCount := 0,
      previous := none } }

/-- The Slip Monitor and the Apportioner (R54, R99). -/
def warmShares (p : Part) : Part :=
  { p with slip := .unlimited, app := stoppedApportioner p.app }

/-- The Thermal Model (R116). -/
def warmThermal (p : Part) : Part :=
  { p with thermal :=
      { axles := p.thermal.axles.map fun t => { t with forceUsed := 0 }
        ambientUsed := p.thermal.ambientUsed
        timer := if p.store.chassis.isSome then p.startTimer 100 else none
        running := false } }

/-- Retarder Control's items (R130), before it posts. -/
def warmRetarder (p : Part) : Part :=
  let used := p.retarderFitted && p.retRoute.isSome
  { p with ret := { p.ret with
      state := if used then .draining else .drained
      releaseMark := none
      fillTimer := none
      drainTimer := if used then p.startTimer (p.setting idDrainTimeout) else none
      handedCommand := 0
      lastNodeState := none } }

end Part

/-- A Channel Unit's items at a warm reset (R153), before it posts. -/
def Channel.warm (c : Channel) : Channel :=
  match c.route with
  | .unrouted => c
  | .localStage =>
    { c with state := some .backup, lastDemand := 0, tracking := none, switched := c.switched || c.driven }
  | .remote _ =>
    { c with state := some .backup, lastDemand := 0, tracking := none, measured := none, lastSent := none }

namespace Part

/-- The Channel Units (R153), before they post. -/
def warmChannels (p : Part) : Part := { p with chan := p.chan.map Channel.warm }

/-- The Actuator Link Controller (R165). -/
def warmLink (p : Part) : Part :=
  { p with link :=
      { nodes := p.link.nodes.map fun e =>
          { e with presence := .unknown, misses := 0, poll := ⟨p.now, p.setting idPollInterval⟩ }
        queue := []
        phase := p.abandonedPhase
        lastServed := none } }

/-- The held clear is discarded unanswered (R186). -/
def warmClear (p : Part) : Part := { p with faults := { p.faults with held := none } }

/-- Mode Control (R177): both start times become none, and the mode is set by readiness. -/
def warmMode (p : Part) : Part :=
  let new : Mode := if p.missingItem.isNone then .standby else .config
  let q := { p with control := ⟨new, none, none⟩ }
  if p.control.mode = new then q else q.flagModeChanged

/-- The warm reset's posts, once the request queue is empty (R130, R153, R165). -/
def warmPosts (p : Part) : Part := Axle.all.foldl postTarget (p.sendRetarder ⟨false, 0⟩)

/-- The warm reset (R177). What waited between the blocks from a pass or from the actuator link goes with the
operation it belongs to (assumption 12). -/
def warmReset (p : Part) : Part :=
  let p := p.abandonTable.warmDemand.warmMotion.warmShares.warmThermal.warmRetarder
  let p := p.flapAtWarmReset.warmChannels.warmLink.warmClear
  let p := p.discardLanes fun l => l.ofPass || l.ofLink
  let p := (p.warmMode.retotal).judgeAlarm
  let p := Axle.all.foldl judgeChannel p
  p.needCapacities.warmPosts

/-- RESET_WARM: the DONE answer is formed, and the warm reset then takes effect (R177). -/
def resetWarm (p : Part) (tag : Byte) : Part := (p.answer kindResetWarm tag .done).warmReset

/-! ## The cold reset (R178) -/

/-- The link's phase on the new time base, which starts at 0: a transaction in flight is abandoned and its answer
window runs on (R166). A command frame still being sent ends with the reset (assumption 4). -/
def coldPhase (p : Part) : LinkPhase :=
  match p.abandonedPhase with
  | .abandoned (some w) => .abandoned (some ⟨0, w.left p.now⟩)
  | .abandoned none => .abandoned (some ⟨0, 1⟩)
  | .idle => .idle
  | .inFlight _ => .idle

/-- COLD_RESET: every block takes its values after a cold reset (R178). The switch pin keeps its level. -/
def coldReset (p : Part) : Part := Part.cold p.fswClosed p.coldPhase

end Part

/-- RESET_WARM (R177). -/
def execResetWarm (tag : Byte) (s : State) : Result := s.onPart (·.resetWarm tag)

/-- COLD_RESET (R178). -/
def execColdReset (s : State) : Result := s.onPart (·.coldReset)

end Sys2Proof.Machine
end

