-- ==== Sys2Proof/Machine/Requests.lean ====
section
/-! DEFINITION. The requests of the vehicle link as they are taken (R180): each is handed to its owning block, whose
reply is formed as an answer that copies the request's tag. -/

namespace Sys2Proof.Machine

namespace Part

def takeChassis (p : Part) (tag : Byte) (r : ChassisRecord) : Part :=
  p.request kindChassis tag (·.chassisRequest r)

def takeSettings (p : Part) (tag : Byte) (ps : List (Nat × Nat)) : Part :=
  p.request kindSettings tag (·.settingsRequest ps)

def takeTableOpen (p : Part) (tag : Byte) (table start : Nat) : Part :=
  p.request kindTableOpen tag (·.tableOpen table start)

def takeTableData (p : Part) (tag : Byte) (fields : List Nat) : Part :=
  p.request kindTableData tag (·.tableData fields)

def takeTableClose (p : Part) (tag : Byte) : Part :=
  p.request kindTableClose tag (·.tableClose)

def takeTableRead (p : Part) (tag : Byte) (table first count : Nat) : Part :=
  p.request kindTableRead tag (·.tableRead table first count)

def takeRoute (p : Part) (tag : Byte) (fields : Axles RouteField) (retarder : Nat) : Part :=
  p.request kindRoute tag (·.routeRequest fields retarder)

def takeMask (p : Part) (tag : Byte) (flags : Axles Nat) : Part :=
  p.request kindMask tag (·.setMask flags)

def takeSeedTemps (p : Part) (tag : Byte) (temps : List Int) : Part :=
  p.request kindSeedTemps tag (·.seedTemps temps)

def takeStart (p : Part) (tag : Byte) : Part :=
  p.request kindStart tag (·.start)

def takeStandDown (p : Part) (tag : Byte) : Part :=
  p.request kindStandDown tag (·.standDown)

def takeHoldSet (p : Part) (tag : Byte) (setpoint : Nat) : Part :=
  p.request kindHoldSet tag (·.holdSet setpoint)

def takeHoldCancel (p : Part) (tag : Byte) : Part :=
  p.request kindHoldCancel tag (·.holdCancel)

def takeAssist (p : Part) (tag : Byte) (requester decel hold : Nat) : Part :=
  p.request kindAssist tag (·.assist requester decel hold)

def takeAssistCancel (p : Part) (tag : Byte) (requester : Nat) : Part :=
  p.request kindAssistCancel tag (·.assistCancel requester)

def takeMass (p : Part) (tag : Byte) (kg : Nat) : Part :=
  p.request kindMass tag (·.mass kg)

def takeQueryCapacities (p : Part) (tag : Byte) : Part := p.answer kindQuery tag p.replyCapacities

def takeQueryAxles (p : Part) (tag : Byte) : Part := p.answer kindQuery tag p.replyAxles

def takeQueryFaults (p : Part) (tag : Byte) : Part := p.answer kindQuery tag p.replyFaults

def takeQueryEngagements (p : Part) (tag : Byte) : Part := p.answer kindQuery tag p.replyEngagements

def takeQueryAssist (p : Part) (tag : Byte) : Part := p.answer kindQuery tag p.replyAssist

def takeQueryChassis (p : Part) (tag : Byte) : Part := p.answer kindQuery tag p.replyChassis

def takeQuerySettings (p : Part) (tag : Byte) : Part := p.answer kindQuery tag p.replySettings

def takeQueryRoute (p : Part) (tag : Byte) : Part := p.answer kindQuery tag p.replyRoute

end Part

/-! ## The commands -/

/-- CHASSIS (R3). -/
def execChassis (tag : Byte) (r : ChassisRecord) (s : State) : Result :=
  s.onPart (·.takeChassis tag r)

/-- SETTINGS (R8). -/
def execSettings (tag : Byte) (ps : List (Nat × Nat)) (s : State) : Result :=
  s.onPart (·.takeSettings tag ps)

/-- TABLE_OPEN (R13). -/
def execTableOpen (tag : Byte) (table start : Nat) (s : State) : Result :=
  s.onPart (·.takeTableOpen tag table start)

/-- TABLE_DATA (R14). -/
def execTableData (tag : Byte) (fields : List Nat) (s : State) : Result :=
  s.onPart (·.takeTableData tag fields)

/-- TABLE_CLOSE (R15). -/
def execTableClose (tag : Byte) (s : State) : Result :=
  s.onPart (·.takeTableClose tag)

/-- TABLE_READ (R19). -/
def execTableRead (tag : Byte) (table first count : Nat) (s : State) : Result :=
  s.onPart (·.takeTableRead tag table first count)

/-- ROUTE (R140). -/
def execRoute (tag : Byte) (fields : Axles RouteField) (retarder : Nat) (s : State) : Result :=
  s.onPart (·.takeRoute tag fields retarder)

/-- MASK (R93). -/
def execMask (tag : Byte) (flags : Axles Nat) (s : State) : Result :=
  s.onPart (·.takeMask tag flags)

/-- SEED_TEMPS (R114). -/
def execSeedTemps (tag : Byte) (temps : List Int) (s : State) : Result :=
  s.onPart (·.takeSeedTemps tag temps)

/-- START (R169). -/
def execStart (tag : Byte) (s : State) : Result :=
  s.onPart (·.takeStart tag)

/-- STAND_DOWN (R173). -/
def execStandDown (tag : Byte) (s : State) : Result :=
  s.onPart (·.takeStandDown tag)

/-- HOLD_SET (R26). -/
def execHoldSet (tag : Byte) (setpoint : Nat) (s : State) : Result :=
  s.onPart (·.takeHoldSet tag setpoint)

/-- HOLD_CANCEL (R28). -/
def execHoldCancel (tag : Byte) (s : State) : Result :=
  s.onPart (·.takeHoldCancel tag)

/-- ASSIST (R30). -/
def execAssist (tag : Byte) (requester decel hold : Nat) (s : State) : Result :=
  s.onPart (·.takeAssist tag requester decel hold)

/-- ASSIST_CANCEL (R33). -/
def execAssistCancel (tag : Byte) (requester : Nat) (s : State) : Result :=
  s.onPart (·.takeAssistCancel tag requester)

/-- MASS (R35). -/
def execMass (tag : Byte) (kg : Nat) (s : State) : Result :=
  s.onPart (·.takeMass tag kg)

/-- QUERY CAPACITIES (R73). -/
def execQueryCapacities (tag : Byte) (s : State) : Result := s.onPart (·.takeQueryCapacities tag)

/-- QUERY AXLES (R100, R115, R154). -/
def execQueryAxles (tag : Byte) (s : State) : Result := s.onPart (·.takeQueryAxles tag)

/-- QUERY FAULTS (R183). -/
def execQueryFaults (tag : Byte) (s : State) : Result := s.onPart (·.takeQueryFaults tag)

/-- QUERY ENGAGEMENTS (R138). -/
def execQueryEngagements (tag : Byte) (s : State) : Result := s.onPart (·.takeQueryEngagements tag)

/-- QUERY ASSIST (R41). -/
def execQueryAssist (tag : Byte) (s : State) : Result := s.onPart (·.takeQueryAssist tag)

/-- QUERY CHASSIS (R183). -/
def execQueryChassis (tag : Byte) (s : State) : Result := s.onPart (·.takeQueryChassis tag)

/-- QUERY SETTINGS (R183). -/
def execQuerySettings (tag : Byte) (s : State) : Result := s.onPart (·.takeQuerySettings tag)

/-- QUERY ROUTE (R154, R167). -/
def execQueryRoute (tag : Byte) (s : State) : Result := s.onPart (·.takeQueryRoute tag)

/-- ASSIST_EXPIRY (R32). -/
def execAssistExpiry (requester : Nat) (s : State) : Result := s.onPart (·.assistExpiry requester)

end Sys2Proof.Machine
end

