-- ==== Sys2Proof/Machine/VehicleLink.lean ====
section
/-! DEFINITION. The Vehicle Link Interface (R179, R180): the receive frame in progress taken byte by byte, the check
of a complete frame, the hand-over of the request it carries, and the transmit side. -/

namespace Sys2Proof.Machine

namespace Part

/-- Hands a request that a frame carried to its owner (R180). No other command comes from a frame. -/
def takeRequest (p : Part) (i : Instr) : Part :=
  match i with
  | .chassis tag r => p.takeChassis tag r
  | .settings tag ps => p.takeSettings tag ps
  | .tableOpen tag table start => p.takeTableOpen tag table start
  | .tableData tag fields => p.takeTableData tag fields
  | .tableClose tag => p.takeTableClose tag
  | .tableRead tag table first count => p.takeTableRead tag table first count
  | .route tag fields retarder => p.takeRoute tag fields retarder
  | .mask tag flags => p.takeMask tag flags
  | .seedTemps tag temps => p.takeSeedTemps tag temps
  | .start tag => p.takeStart tag
  | .standDown tag => p.takeStandDown tag
  | .holdSet tag setpoint => p.takeHoldSet tag setpoint
  | .holdCancel tag => p.takeHoldCancel tag
  | .assist tag requester decel hold => p.takeAssist tag requester decel hold
  | .assistCancel tag requester => p.takeAssistCancel tag requester
  | .mass tag kg => p.takeMass tag kg
  | .queryCapacities tag => p.takeQueryCapacities tag
  | .queryAxles tag => p.takeQueryAxles tag
  | .queryFaults tag => p.takeQueryFaults tag
  | .queryEngagements tag => p.takeQueryEngagements tag
  | .queryAssist tag => p.takeQueryAssist tag
  | .queryChassis tag => p.takeQueryChassis tag
  | .querySettings tag => p.takeQuerySettings tag
  | .queryRoute tag => p.takeQueryRoute tag
  | .resetWarm tag => p.resetWarm tag
  | .motion r => p.takeMotion r
  | .clearFaults tag sources => p.clearFaults tag sources
  | .coldReset | .speedHoldUpdate | .slipEvaluation | .capacityRecomputation | .motionTimerExpiry
  | .recoveryExpiry | .assistExpiry _ | .holdoffExpiry | .vehicleLinkFrame _ | .frameAbandoned _
  | .statusReport | .pass | .rotationTimerExpiry | .thermalUpdate | .retarderWant | .retarderNodeState
  | .fillTimerExpiry | .drainTimerExpiry | .retarderNodeLost | .exhaustWant | .flapSwitchChange _
  | .flapTimerExpiry | .pressureDemand _ | .localSample _ _ | .remoteMeasurement _
  | .channelPresenceChange _ | .trackingTimerExpiry _ | .pollTimerExpiry _ | .commandFrameSent
  | .actuatorAnswer _ | .answerTimeout | .abandonedWindowEnd | .transmitFrameSent => p

/-- A complete frame whose CRC is good (R180): refused by its kind, its length or its item code (R183), or handed to
its owner. -/
def takeFrame (p : Part) (kind tag : Byte) (payload : List Byte) : Part :=
  match decodeFrame kind tag payload with
  | .unknownKind => p.answer kind tag (.refused .unknownKind)
  | .badLength => p.answer kind tag (.refused .badLength)
  | .badItem => p.answer kind tag (.refused (.badValue 0))
  | .request i => p.takeRequest i

/-! ## The receive side (R179) -/

def setReceive (p : Part) (rx : Option (List Byte)) : Part := { p with vl := { p.vl with rx := rx } }

/-- The frame in progress is abandoned: the link error counter rises by one, stopping at 65535. -/
def abandonFrame (p : Part) : Part :=
  { p with vl := { p.vl with rx := none, errors := min (p.vl.errors + 1) 65535 } }

/-- The frame in progress is complete: the length, kind, tag and payload, and the two CRC bytes. -/
def completeFrame (p : Part) (bytes : List Byte) : Part :=
  let body := bytes.take (bytes.length - 2)
  let crc := crc16 body
  if bytes.drop (bytes.length - 2) = [crc.extractLsb' 8 8, crc.extractLsb' 0 8] then
    (p.setReceive none).takeFrame (body.getD 1 0) (body.getD 2 0) (body.drop 3)
  else p.abandonFrame

/-- A byte taken while hunting. -/
def huntByte (p : Part) (b : Byte) : Part := if b = 0xA5 then p.setReceive (some []) else p

/-- A byte taken into the frame in progress, which holds the bytes after its sync. -/
def frameByte (p : Part) (bytes : List Byte) (b : Byte) : Part :=
  let now := bytes ++ [b]
  if bytes = [] ∧ 240 < b.toNat then p.abandonFrame
  else if now.length = (now.headD 0).toNat + 5 then p.completeFrame now
  else p.setReceive (some now)

/-- One byte on VLRXD. A byte that ends a gap of more than 1 ms within a frame is taken as while hunting. -/
def receiveByte (p : Part) (x : LineByte) : Part :=
  match p.vl.rx with
  | none => p.huntByte x.byte
  | some bytes => if x.gap then p.abandonFrame.huntByte x.byte else p.frameByte bytes x.byte

def receiveBytes (p : Part) (received : List LineByte) : Part := received.foldl receiveByte p

/-- VEHICLE_LINK_FRAME: the bytes that complete a frame are taken. -/
def vehicleLinkFrame (p : Part) (received : List LineByte) : Part := p.receiveBytes received

/-- FRAME_ABANDONED: the bytes by which a frame in progress is abandoned are taken. With no byte, it is the gap of
more than 1 ms itself, before the byte that ends it. -/
def frameAbandoned (p : Part) (received : List LineByte) : Part :=
  match received with
  | [] => if p.vl.rx.isSome then p.abandonFrame else p
  | x :: rest => p.receiveBytes (x :: rest)

/-! ## The transmit side (R180) -/

/-- TRANSMIT_FRAME_SENT: the frame being sent has left the line whole, and the next begins. -/
def transmitFrameSent (p : Part) : Part := { p with vl := { p.vl with tx := p.vl.tx.drop 1 } }

end Part

/-! ## The commands -/

/-- VEHICLE_LINK_FRAME (R180). -/
def execVehicleLinkFrame (received : List LineByte) (s : State) : Result :=
  s.onPart (·.vehicleLinkFrame received)

/-- FRAME_ABANDONED (R179). -/
def execFrameAbandoned (received : List LineByte) (s : State) : Result :=
  s.onPart (·.frameAbandoned received)

/-- TRANSMIT_FRAME_SENT (R180). -/
def execTransmitFrameSent (s : State) : Result := s.onPart (·.transmitFrameSent)

end Sys2Proof.Machine
end

