-- ==== Sys2Proof/Machine/Dispatch.lean ====
section
/-! DEFINITION. The meaning of every command: one arm per row of spec/opcode_table.json. -/

namespace Sys2Proof.Machine

def exec (i : Instr) (s : State) : Host.Outcome State Fault Refusal :=
  match i with
  | .chassis tag record => Sys2Proof.Machine.execChassis tag record s
  | .settings tag pairs => Sys2Proof.Machine.execSettings tag pairs s
  | .tableOpen tag table start => Sys2Proof.Machine.execTableOpen tag table start s
  | .tableData tag fields => Sys2Proof.Machine.execTableData tag fields s
  | .tableClose tag => Sys2Proof.Machine.execTableClose tag s
  | .tableRead tag table first count => Sys2Proof.Machine.execTableRead tag table first count s
  | .route tag axles retarder => Sys2Proof.Machine.execRoute tag axles retarder s
  | .mask tag flags => Sys2Proof.Machine.execMask tag flags s
  | .seedTemps tag temps => Sys2Proof.Machine.execSeedTemps tag temps s
  | .start tag => Sys2Proof.Machine.execStart tag s
  | .standDown tag => Sys2Proof.Machine.execStandDown tag s
  | .resetWarm tag => Sys2Proof.Machine.execResetWarm tag s
  | .coldReset => Sys2Proof.Machine.execColdReset s
  | .motion record => Sys2Proof.Machine.execMotion record s
  | .speedHoldUpdate => Sys2Proof.Machine.execSpeedHoldUpdate s
  | .slipEvaluation => Sys2Proof.Machine.execSlipEvaluation s
  | .capacityRecomputation => Sys2Proof.Machine.execCapacityRecomputation s
  | .motionTimerExpiry => Sys2Proof.Machine.execMotionTimerExpiry s
  | .recoveryExpiry => Sys2Proof.Machine.execRecoveryExpiry s
  | .holdSet tag setpoint => Sys2Proof.Machine.execHoldSet tag setpoint s
  | .holdCancel tag => Sys2Proof.Machine.execHoldCancel tag s
  | .assist tag requester decel hold => Sys2Proof.Machine.execAssist tag requester decel hold s
  | .assistCancel tag requester => Sys2Proof.Machine.execAssistCancel tag requester s
  | .assistExpiry requester => Sys2Proof.Machine.execAssistExpiry requester s
  | .mass tag kg => Sys2Proof.Machine.execMass tag kg s
  | .queryCapacities tag => Sys2Proof.Machine.execQueryCapacities tag s
  | .queryAxles tag => Sys2Proof.Machine.execQueryAxles tag s
  | .queryFaults tag => Sys2Proof.Machine.execQueryFaults tag s
  | .queryEngagements tag => Sys2Proof.Machine.execQueryEngagements tag s
  | .queryAssist tag => Sys2Proof.Machine.execQueryAssist tag s
  | .queryChassis tag => Sys2Proof.Machine.execQueryChassis tag s
  | .querySettings tag => Sys2Proof.Machine.execQuerySettings tag s
  | .queryRoute tag => Sys2Proof.Machine.execQueryRoute tag s
  | .clearFaults tag sources => Sys2Proof.Machine.execClearFaults tag sources s
  | .holdoffExpiry => Sys2Proof.Machine.execHoldoffExpiry s
  | .vehicleLinkFrame received => Sys2Proof.Machine.execVehicleLinkFrame received s
  | .frameAbandoned received => Sys2Proof.Machine.execFrameAbandoned received s
  | .statusReport => Sys2Proof.Machine.execStatusReport s
  | .pass => Sys2Proof.Machine.execPass s
  | .rotationTimerExpiry => Sys2Proof.Machine.execRotationTimerExpiry s
  | .thermalUpdate => Sys2Proof.Machine.execThermalUpdate s
  | .retarderWant => Sys2Proof.Machine.execRetarderWant s
  | .retarderNodeState => Sys2Proof.Machine.execRetarderNodeState s
  | .fillTimerExpiry => Sys2Proof.Machine.execFillTimerExpiry s
  | .drainTimerExpiry => Sys2Proof.Machine.execDrainTimerExpiry s
  | .retarderNodeLost => Sys2Proof.Machine.execRetarderNodeLost s
  | .exhaustWant => Sys2Proof.Machine.execExhaustWant s
  | .flapSwitchChange e => Sys2Proof.Machine.execFlapSwitchChange e s
  | .flapTimerExpiry => Sys2Proof.Machine.execFlapTimerExpiry s
  | .pressureDemand axle => Sys2Proof.Machine.execPressureDemand axle s
  | .localSample axle kPa => Sys2Proof.Machine.execLocalSample axle kPa s
  | .remoteMeasurement axle => Sys2Proof.Machine.execRemoteMeasurement axle s
  | .channelPresenceChange axle => Sys2Proof.Machine.execChannelPresenceChange axle s
  | .trackingTimerExpiry axle => Sys2Proof.Machine.execTrackingTimerExpiry axle s
  | .pollTimerExpiry addr => Sys2Proof.Machine.execPollTimerExpiry addr s
  | .commandFrameSent => Sys2Proof.Machine.execCommandFrameSent s
  | .actuatorAnswer received => Sys2Proof.Machine.execActuatorAnswer received s
  | .answerTimeout => Sys2Proof.Machine.execAnswerTimeout s
  | .abandonedWindowEnd => Sys2Proof.Machine.execAbandonedWindowEnd s
  | .transmitFrameSent => Sys2Proof.Machine.execTransmitFrameSent s

end Sys2Proof.Machine
end

