-- ==== Sys2Proof/Machine/Time.lean ====
section
/-! DEFINITION. What happens while no command waits (assumption 1): a block takes what it was handed, a timer that is
due expires, or the time base advances by 1 ms. -/

namespace Sys2Proof.Machine

/-- The command by which a hand-off is taken. -/
def Handoff.command : Handoff → Instr
  | .demandRecord _ _ _ => .speedHoldUpdate
  | .slipRecord _ _ _ => .slipEvaluation
  | .recompute => .capacityRecomputation
  | .retarderWant _ _ => .retarderWant
  | .exhaustWant _ => .exhaustWant
  | .pressureDemand a _ => .pressureDemand a
  | .retarderNodeState _ => .retarderNodeState
  | .retarderNodeLost => .retarderNodeLost
  | .remoteMeasurement a _ => .remoteMeasurement a
  | .channelPresence a _ => .channelPresenceChange a

namespace Part

/-- A command, while the condition of its expiry holds. -/
def whenDue (due : Bool) (c : Instr) : List Instr := if due then [c] else []

/-- The expiries of the link's windows that are due (R160, R165). -/
def dueLink (p : Part) : List Instr :=
  match p.link.phase with
  | .idle => []
  | .inFlight t => whenDue (timerDue t.window p.now) .answerTimeout
  | .abandoned w => whenDue (timerDue w p.now) .abandonedWindowEnd

/-- The timer expiries that are due and the change of FSW that waits, in the order in which they are taken
(assumption 1). -/
def dueExpiries (p : Part) : List Instr :=
  whenDue (timerDue p.motion.timer p.now) .motionTimerExpiry ++
    whenDue (decide (p.control.mode = .fallback) && timerDue p.control.recovery p.now) .recoveryExpiry ++
    (p.demand.assists.filter (·.due p.now)).map (fun e => .assistExpiry e.requester) ++
    whenDue (timerDue p.ret.fillTimer p.now) .fillTimerExpiry ++
    whenDue (timerDue p.ret.drainTimer p.now) .drainTimerExpiry ++
    whenDue p.switchWaits (.flapSwitchChange ⟨p.fswClosed, true⟩) ++
    whenDue (timerDue p.flap.timer p.now) .flapTimerExpiry ++
    Axle.all.flatMap (fun a => whenDue (timerDue (p.chan.get a).tracking p.now) (.trackingTimerExpiry a)) ++
    p.dueLink ++
    (p.link.nodes.filter (·.poll.due p.now)).map (fun e => .pollTimerExpiry e.addr) ++
    whenDue (p.faults.held.any (·.holdoff.due p.now)) .holdoffExpiry ++
    whenDue (timerDue p.thermal.timer p.now) .thermalUpdate ++
    whenDue (timerDue p.app.rotationTimer p.now) .rotationTimerExpiry ++
    whenDue (timerDue p.app.passTimer p.now) .pass ++
    whenDue (p.vl.report.due p.now) .statusReport

/-- The event that comes next of itself: the oldest hand-off, or else the first expiry that is due. -/
def nextEvent (p : Part) : Option Instr :=
  match p.handed with
  | h :: _ => some h.command
  | [] => p.dueExpiries.head?

/-- The time base advances by 1 ms (R2). -/
def tick (p : Part) : Part := { p with now := p.now + 1 }

end Part

end Sys2Proof.Machine
end

