-- ==== Sys2Proof/Machine/Step.lean ====
section
/-! DEFINITION. One step: the command at the front of the queue, or, while none waits, what comes about of itself. -/

namespace Sys2Proof.Machine

/-- Takes the command at the front of the queue. With no command waiting, the oldest hand-off or the first expiry that
is due is taken, and otherwise 1 ms passes (assumption 1). -/
def step (s : State) : Host.Outcome State Fault Refusal :=
  match s.pending with
  | c :: rest => exec c { s with pending := rest }
  | [] =>
    match s.part.nextEvent with
    | some c => exec c s
    | none => .next { s with part := s.part.tick }

/-- The state with the command that a word spells put at the front of the queue. No word spells one, since the rows of
the table give no bits. -/
def State.withFetchWord (s : State) (nbits w : Nat) : State :=
  match decodeTableWord nbits w with
  | some c => { s with pending := c :: s.pending }
  | none => s

end Sys2Proof.Machine
end

