-- ==== Sys2Proof/Safety.lean ====
section
/-! DEFINITION. What holds of the part in every reachable state, in the manual's own terms: the laws that its rules
state of the whole machine. Each is a decidable property of the part, and the claims say that every step keeps it. -/

namespace Sys2Proof.Machine.Safety

/-! ## The apportioned force -/

/-- The shares and the shortfall make up the service total (R89). -/
abbrev SharesBalance (p : Part) : Prop :=
  p.app.shares.toList.sum + p.app.shortfall = p.app.serviceTotal

/-- The pressure that a hand-off demands of an axle, 0 where it demands none of it. -/
def demandedOf (h : Handoff) (a : Axle) : Nat :=
  match h with
  | .pressureDemand b kPa => if b = a then kPa else 0
  | .demandRecord _ _ _ | .slipRecord _ _ _ | .recompute | .retarderWant _ _ | .exhaustWant _
  | .retarderNodeState _ | .retarderNodeLost | .remoteMeasurement _ _ | .channelPresence _ _ => 0

/-- The published service capacities are formed from p_max with the published fade factors (R70), so that no pressure
demand, published, waiting or held by a channel, exceeds the axle's p_max (R91). -/
abbrev PressureWithinPmax (p : Part) : Prop :=
  ∀ a : Axle,
    p.cap.items.service.get a * 100000 ≤
        (p.axleDesc a).pMax * ((p.axleDesc a).brakeFactor * p.cap.items.fade.get a) ∧
      p.app.demands.get a ≤ (p.axleDesc a).pMax ∧ (p.chan.get a).lastDemand ≤ (p.axleDesc a).pMax ∧
      ∀ h ∈ p.handed, demandedOf h a ≤ (p.axleDesc a).pMax

/-! ## The actuators -/

/-- The solenoid is energised in CLOSING and CLOSED alone (R131), and the flap timer runs in travel alone. -/
abbrev FlapDriven (p : Part) : Prop :=
  (p.flap.solenoid = true ↔ p.flap.state = .closing ∨ p.flap.state = .closed) ∧
    (p.flap.timer ≠ none → p.flap.state = .closing ∨ p.flap.state = .opening)

/-- The fill timer runs in FILLING, the drain timer in DRAINING, and the release-delay mark stands in ACTIVE alone
(R119, R123 to R125). -/
abbrev RetarderTimed (p : Part) : Prop :=
  (p.ret.fillTimer ≠ none ↔ p.ret.state = .filling) ∧
    (p.ret.drainTimer ≠ none ↔ p.ret.state = .draining) ∧
    (p.ret.releaseMark ≠ none → p.ret.state = .active)

/-- While passes are stopped the retarder is commanded released, the flap is not commanded closed, and no pass is due (R76,
R129, R137). That nothing a pass handed on waits then is the model's choice: it is discarded when passes stop
(assumption 12). -/
abbrev EnduranceReleased (p : Part) : Prop :=
  p.passesRun = false →
    p.ret.state ≠ .filling ∧ p.ret.state ≠ .active ∧ p.flap.state ≠ .closing ∧ p.flap.state ≠ .closed ∧
      p.app.passTimer = none ∧ ∀ h ∈ p.handed, h.lane.ofPass = false

/-- A channel in any state other than COMMANDED holds a last demand of 0 and no tracking timer (R144); a COMMANDED
one is available, and only while passes run (R91, R142). A channel has a state while it is routed (R139). -/
abbrev ChannelsHeld (p : Part) : Prop :=
  ∀ a : Axle,
    ((p.chan.get a).state ≠ some .commanded → (p.chan.get a).lastDemand = 0 ∧ (p.chan.get a).tracking = none) ∧
      ((p.chan.get a).state = some .commanded → p.passesRun = true ∧ (p.chan.get a).available = true) ∧
      ((p.chan.get a).state = none ↔ (p.chan.get a).route = .unrouted) ∧
      (p.hasAxle a = false → (p.chan.get a).route = .unrouted)

/-! ## Mode Control -/

/-- What runs in which mode: the pass timer (R76), the rotation timer (R94), the start times (R168), speed hold and the
assist table (R28, R34); the motion timer while motion is FRESH (R47, R48), and the thermal timer from the acceptance of the
chassis record (R103). -/
abbrev TimersFollowMode (p : Part) : Prop :=
  (p.app.passTimer ≠ none ↔ p.passesRun = true) ∧
    (p.app.rotationTimer ≠ none ↔ p.control.mode = .active) ∧
    (p.control.standDownStart ≠ none ↔ p.control.mode = .standingDown) ∧
    (p.control.recovery ≠ none → p.control.mode = .fallback) ∧
    (p.demand.hold.on = true → p.control.mode = .active) ∧
    (p.demand.assists ≠ [] → p.control.mode = .active) ∧
    (p.motion.timer ≠ none ↔ p.motion.freshness = .fresh) ∧
    (p.thermal.timer ≠ none ↔ p.store.chassis ≠ none)

/-- While passes are stopped the alarm is RAISED exactly while an axle is in FADE (R176). -/
abbrev AlarmFollowsTiers (p : Part) : Prop :=
  p.passesRun = false → (p.app.alarm = .raised ↔ p.anyFade = true)

/-! ## The tables the part keeps -/

/-- No two assist entries of one requester, and at most four (R29). -/
abbrev AssistsBounded (p : Part) : Prop :=
  p.demand.assists.length ≤ 4 ∧ (p.demand.assists.map (·.requester)).Nodup

/-- At most sixteen fault entries, and no two with the same source and code (R184). -/
abbrev FaultsBounded (p : Part) : Prop :=
  p.faults.entries.length ≤ 16 ∧ (p.faults.entries.map fun e => (e.source, e.code)).Nodup

/-- At most four engagements (R122). -/
abbrev EngagementsBounded (p : Part) : Prop := p.ret.engagements.length ≤ 4

/-- No two queued requests for the same node and kind (R157). -/
abbrev QueueDistinct (p : Part) : Prop :=
  (p.link.queue.map fun r => (r.addr, r.payload.isDemand)).Nodup

/-- A queued request is for an address of the node table (R156, R157). -/
abbrev QueueAddressed (p : Part) : Prop :=
  ∀ r ∈ p.link.queue, ∃ e ∈ p.link.nodes, e.addr = r.addr

/-- The node table holds one entry for each routed address, with its use, in address order (R155). -/
abbrev NodesMatchRoutes (p : Part) : Prop :=
  (p.link.nodes.map fun e => (e.addr, e.use)) =
      allAddrs.filterMap (fun x => (useOf (p.chan.map (·.route)) p.retRoute x).map fun u => (x, u)) ∧
    (p.store.chassis = none → p.retRoute = none ∧ p.link.nodes = [])

/-! ## The coach description -/

/-- Every setting lies in its range as the other settings stand (R7, R9). -/
abbrev SettingsInRange (p : Part) : Prop :=
  p.store.settings.length = 39 ∧
    ∀ r ∈ settingRows, (settingRange p.store.settings r.id).1 ≤ settingOf p.store.settings r.id ∧
      settingOf p.store.settings r.id ≤ (settingRange p.store.settings r.id).2

/-- The accepted chassis record passes every check of R3 and R4. -/
abbrev ChassisChecked (p : Part) : Prop :=
  ∀ c ∈ p.store.chassis.toList, chassisFault c = none ∧ c.axles.length = c.axleCount

/-- The five tables. -/
def allTables : List TableId := [.retarderCurve, .exhaustCurve, .pedalMap, .leverMap, .gearTable]

/-- The open table is the one LOADING table, unwritten from the cursor upward; the gear count is 0 unless the gear
table is VALID (R12). -/
abbrev TablesHeld (p : Part) : Prop :=
  (∀ id ∈ allTables, (p.table id).slots.length = id.slots ∧
      ((p.table id).state = .loading ↔ p.store.cursor.map (·.table) = some id)) ∧
    (∀ c ∈ p.store.cursor.toList, ∀ e ∈ (p.table c.table).slots.drop c.index, e = none) ∧
    (p.store.gearTable.state ≠ .valid → p.store.gearCount = 0) ∧ p.store.gearCount ≤ 12

/-! ## Ranges -/

/-- The counters and forces stay within the ranges that the manual states (R37, R43, R50, R54, R155, R179, R184). -/
abbrev WithinRanges (p : Part) : Prop :=
  p.demand.total ≤ 20000 ∧ p.slip.limit ≤ 20000 ∧ p.slip.counter ≤ 3 ∧ p.slip.value ≤ 1000 ∧
    p.motion.matchCount ≤ 3 ∧ p.motion.mismatchCount ≤ 3 ∧ p.motion.clamped ≤ 255 ∧
    p.faults.overflow ≤ 255 ∧ p.vl.errors ≤ 65535 ∧
    (∀ e ∈ p.link.nodes, e.misses ≤ 3) ∧ (∀ e ∈ p.demand.assists, e.force ≤ 20000) ∧
    (∀ e ∈ p.faults.entries, 1 ≤ e.count ∧ e.count ≤ 255)

/-- The held temperatures and the ambients stay within their ranges (R101). -/
abbrev TemperaturesHeld (p : Part) : Prop :=
  (∀ a : Axle, -40000 ≤ (p.thermal.axles.get a).temp ∧ (p.thermal.axles.get a).temp ≤ 1500000) ∧
    -40 ≤ p.ambient ∧ p.ambient ≤ 60 ∧ -40 ≤ p.thermal.ambientUsed ∧ p.thermal.ambientUsed ≤ 60

/-! ## Words that several statements share -/

/-- A stand-down is complete at a pass: the stand-down time has passed, and the actuators allow it (R175). -/
abbrev StandDownComplete (p : Part) : Prop :=
  p.control.mode = .standingDown ∧
    (p.control.standDownStart.any fun x => decide (p.setting idStandDownTime ≤ (p.now - x).toNat)) = true ∧
    (p.retarderFitted = false ∨ p.ret.state = .drained ∨ p.ret.state = .faulted ∨
      p.retarderPresent = false ∨ p.retarderReported = true) ∧
    (p.flap.state = .opened ∨ p.flap.state = .faulted)

/-- The codes that are trips (R184). -/
def tripCodes : List FaultCode := [.tracking, .fillTimeout, .drainTimeout, .stuckOpen, .stuckClosed]

/-- Whether a source mask names a source, by the bits of section 11.7. -/
def namesSource (mask : BitVec 16) : Source → Bool
  | .axle a => mask.getLsbD a.val
  | .retarder => mask.getLsbD 4
  | .flap => mask.getLsbD 5
  | .motion => mask.getLsbD 6
  | .driveline => mask.getLsbD 7
  | .node addr => decide (1 ≤ addr ∧ addr ≤ 7) && mask.getLsbD (7 + addr)

/-- The fault entries that a clear leaves (R187): it removes the trips and the ended conditions of the sources named. -/
def keptEntries (entries : List FaultEntry) (mask : BitVec 16) : List FaultEntry :=
  entries.filter fun e => !(namesSource mask e.source && (tripCodes.contains e.code || !e.present))

/-- Whether a channel's node is LOST. -/
def nodeLost (p : Part) (c : Channel) : Bool :=
  match c.route with
  | .remote addr => (p.link.nodes.find? fun e => e.addr == addr).any fun e => decide (e.presence = .lost)
  | .unrouted | .localStage => false

/-- What applying a clear makes of the part `q` (R187): the entries it removes, the flag, the DONE answer with its tag, and
the named actuators that are FAULTED re-admitted (R128, R136, R152). What is posted and handed on is not in it. -/
abbrev ClearApplied (q p : Part) (tag : Byte) (mask : BitVec 16) : Prop :=
  (p.now = q.now ∧ p.control = q.control ∧ p.store = q.store ∧ p.demand = q.demand ∧ p.motion = q.motion ∧
    p.slip = q.slip ∧ p.cap = q.cap ∧ p.thermal = q.thermal ∧ p.retRoute = q.retRoute ∧
    p.fswClosed = q.fswClosed ∧ p.link.nodes = q.link.nodes) ∧
  p.faults = { q.faults with entries := keptEntries q.faults.entries mask, held := none } ∧
  p.flags = { q.flags with
    faultsChanged := q.flags.faultsChanged || decide (keptEntries q.faults.entries mask ≠ q.faults.entries) } ∧
  p.vl = (q.answer kindClearFaults tag .done).vl ∧
  (mask.getLsbD 4 = false ∨ q.ret.state ≠ .faulted → p.ret = q.ret) ∧
  (mask.getLsbD 4 = true → q.ret.state = .faulted →
    (q.retarderPresent = false ∨ q.ret.lastNodeState = some .drained → p.ret = { q.ret with
      state := .drained, fillTimer := none, drainTimer := none, releaseMark := none, lastSent := ⟨false, 0⟩ }) ∧
    (q.retarderPresent = true → q.ret.lastNodeState ≠ some .drained → p.ret = { q.ret with
      state := .draining, fillTimer := none, releaseMark := none, lastSent := ⟨false, 0⟩
      drainTimer := some ⟨q.now, q.setting idDrainTimeout⟩ })) ∧
  (mask.getLsbD 5 = false ∨ q.flap.state ≠ .faulted → p.flap = q.flap) ∧
  (mask.getLsbD 5 = true → q.flap.state = .faulted →
    (q.fswClosed = false → p.flap = { q.flap with
      state := .opened, solenoid := false, enteredOpen := q.now, timer := none }) ∧
    (q.fswClosed = true → q.passesRun = true → p.flap = { q.flap with
      state := .closed, solenoid := true, timer := none }) ∧
    (q.fswClosed = true → q.passesRun = false → p.flap = { q.flap with
      state := .opening, solenoid := false, timer := some ⟨q.now, q.setting idFlapTimeout⟩ })) ∧
  ∀ a : Axle,
    let c := q.chan.get a
    let n := p.chan.get a
    (mask.getLsbD a.val = false ∨ c.state ≠ some .faulted → n = c) ∧
      (mask.getLsbD a.val = true → c.state = some .faulted →
        n.route = c.route ∧ n.sensorOut = c.sensorOut ∧ n.sampling = c.sampling ∧ n.switched = c.switched ∧
          (nodeLost q c = true → n.state = some .unreachable ∧ n.lastDemand = 0 ∧ n.tracking = none ∧
            n.measured = none ∧ n.lastSent = some .release ∧ n.available = false) ∧
          (nodeLost q c = false → n.state = some .backup ∧ n.lastDemand = c.lastDemand ∧
            n.tracking = c.tracking ∧ n.measured = c.measured ∧
            n.available = match c.route with
              | .localStage => !c.sensorOut
              | .remote addr => q.nodeAvailable addr
              | .unrouted => false))

end Sys2Proof.Machine.Safety
end

