-- ==== Sys2Proof/WellFormed.lean ====
section
/-! DEFINITION. When a command is one that the vehicle link or the pins can carry: each field fits the bytes it
is carried in (section 11.7), and each list has a length the kind code table allows. Whether the values are
acceptable is for the command's own rule. -/

namespace Sys2Proof

/-- A value that one unsigned byte carries. -/
def fits8 (n : Nat) : Bool := decide (n < 256)

/-- A value that two unsigned bytes carry. -/
def fits16 (n : Nat) : Bool := decide (n < 65536)

/-- A value that four unsigned bytes carry. -/
def fits32 (n : Nat) : Bool := decide (n < 4294967296)

/-- A value that one signed byte carries. -/
def fitsInt8 (n : Int) : Bool := decide (-128 ≤ n ∧ n < 128)

/-- A value that two signed bytes carry. -/
def fitsInt16 (n : Int) : Bool := decide (-32768 ≤ n ∧ n < 32768)

def AxleDesc.wf (d : AxleDesc) : Bool :=
  fits16 d.brakeFactor && fits16 d.pMax && fits16 d.load && fits32 d.heatCap

/-- A chassis record that a payload of 38, 48 or 58 bytes carries. -/
def ChassisRecord.wf (c : ChassisRecord) : Bool :=
  fits8 c.axleCount && fits8 c.drive && fits8 c.retarderFitted && fits8 c.exhaustFitted &&
    fits16 c.radius && fits16 c.ma && fits16 c.na && fits16 c.grossMass && fits16 c.exhaustMin &&
    fits16 c.overRev && fits8 c.k0 && fits8 c.k1 && c.axles.all AxleDesc.wf &&
    decide (2 ≤ c.axles.length ∧ c.axles.length ≤ 4)

def MotionRecord.wf (m : MotionRecord) : Bool :=
  m.wheels.toList.all fits16 && fits16 m.engine && fits8 m.gear && fits16 m.pedal && fits8 m.lever &&
    fitsInt8 m.ambient

/-- Whether a command's operands are ones its row can carry. A command that carries none is well formed. -/
def Instr.wf : Instr → Bool
  | .chassis _ r => r.wf
  | .settings _ ps =>
    decide (1 ≤ ps.length ∧ ps.length ≤ 12) && ps.all fun p => fits8 p.1 && fits16 p.2
  | .tableOpen _ t k => fits8 t && fits8 k
  | .tableData _ fs => decide (1 ≤ fs.length ∧ fs.length ≤ 8) && fs.all fits16
  | .tableRead _ t k n => fits8 t && fits8 k && fits8 n
  | .route _ fs r => fs.toList.all (fun f => fits8 f.addr) && fits8 r
  | .mask _ fs => fs.toList.all fits8
  | .seedTemps _ ts => decide (2 ≤ ts.length ∧ ts.length ≤ 4) && ts.all fitsInt16
  | .motion r => r.wf
  | .holdSet _ v => fits16 v
  | .assist _ q d h => fits8 q && fits16 d && fits16 h
  | .assistCancel _ q => fits8 q
  | .assistExpiry q => decide (q < 16)
  | .mass _ kg => fits16 kg
  | .vehicleLinkFrame bs => decide (0 < bs.length)
  | .pollTimerExpiry a => decide (1 ≤ a ∧ a ≤ 7)
  | .actuatorAnswer bs => decide (0 < bs.length)
  | .tableClose _ | .start _ | .standDown _ | .resetWarm _ | .coldReset
  | .speedHoldUpdate | .slipEvaluation | .capacityRecomputation | .motionTimerExpiry | .recoveryExpiry
  | .holdCancel _ | .queryCapacities _ | .queryAxles _ | .queryFaults _ | .queryEngagements _
  | .queryAssist _ | .queryChassis _ | .querySettings _ | .queryRoute _ | .clearFaults _ _
  | .holdoffExpiry | .frameAbandoned _ | .statusReport | .pass | .rotationTimerExpiry | .thermalUpdate | .retarderWant
  | .retarderNodeState | .fillTimerExpiry | .drainTimerExpiry | .retarderNodeLost | .exhaustWant
  | .flapSwitchChange _ | .flapTimerExpiry | .pressureDemand _ | .localSample _ _
  | .remoteMeasurement _ | .channelPresenceChange _ | .trackingTimerExpiry _ | .commandFrameSent
  | .answerTimeout | .abandonedWindowEnd | .transmitFrameSent => true

end Sys2Proof
end

