-- ==== Sys2Proof/Certificates/Slice0/Obligations.lean ====
section
/-! DEFINITION. The statements for the provers. Each says what a rule of the manual says of the machine; a clause that
rests on a choice of the model's names its log entry. -/

section

open Sys2Proof Sys2Proof.Machine Sys2Proof.Machine.Safety

/-! ## Steps -/

/-- A step with a command waiting is that command's meaning on the state with the rest of the queue. The model's reading:
log entry 26. -/
def Obligations.StepTakesFrontCommand : Prop :=
  ∀ (p : Part) (c : Instr) (rest : List Instr), step ⟨p, c :: rest⟩ = exec c ⟨p, rest⟩

/-- Every command of the part answers a next state, and leaves the queue as it is. The model's choice for an empty queue
(assumption 1): the oldest hand-off is taken, else the first expiry that is
due, else 1 ms passes. And its choice for an event that is not there (assumption 2): the expiry of a timer that is not
running or not due, and the taking of a hand-off where none waits, change nothing. -/
def Obligations.EventsOccurWhenDue : Prop :=
  (∀ (c : Instr) (s : State), ∃ p, exec c s = .next { s with part := p }) ∧
  (∀ (p : Part) (h : Handoff) (l : List Handoff), p.handed = h :: l →
      step ⟨p, []⟩ = exec h.command ⟨p, []⟩) ∧
  (∀ (p : Part) (c : Instr) (l : List Instr), p.handed = [] → p.dueExpiries = c :: l →
      step ⟨p, []⟩ = exec c ⟨p, []⟩) ∧
  (∀ p : Part, p.handed = [] → p.dueExpiries = [] →
      step ⟨p, []⟩ = .next ⟨{ p with now := p.now + 1 }, []⟩) ∧
  (∀ (s : State) (a : Axle),
    (timerDue s.part.motion.timer s.part.now = false → exec .motionTimerExpiry s = .next s) ∧
    (timerDue s.part.control.recovery s.part.now = false → exec .recoveryExpiry s = .next s) ∧
    (timerDue s.part.ret.fillTimer s.part.now = false → exec .fillTimerExpiry s = .next s) ∧
    (timerDue s.part.ret.drainTimer s.part.now = false → exec .drainTimerExpiry s = .next s) ∧
    (timerDue s.part.flap.timer s.part.now = false → exec .flapTimerExpiry s = .next s) ∧
    (timerDue (s.part.chan.get a).tracking s.part.now = false → exec (.trackingTimerExpiry a) s = .next s) ∧
    (timerDue s.part.thermal.timer s.part.now = false → exec .thermalUpdate s = .next s) ∧
    (timerDue s.part.app.passTimer s.part.now = false → exec .pass s = .next s) ∧
    (timerDue s.part.app.rotationTimer s.part.now = false → exec .rotationTimerExpiry s = .next s) ∧
    (s.part.vl.report.due s.part.now = false → exec .statusReport s = .next s) ∧
    (s.part.waiting .demandRecord = none → exec .speedHoldUpdate s = .next s) ∧
    (s.part.waiting .slipRecord = none → exec .slipEvaluation s = .next s) ∧
    (s.part.waiting .capacity = none → exec .capacityRecomputation s = .next s) ∧
    (s.part.waiting .retarderWant = none → exec .retarderWant s = .next s) ∧
    (s.part.waiting .exhaustWant = none → exec .exhaustWant s = .next s) ∧
    (s.part.waiting (.pressure a) = none → exec (.pressureDemand a) s = .next s) ∧
    (s.part.waiting .retarderLink = none →
      exec .retarderNodeState s = .next s ∧ exec .retarderNodeLost s = .next s) ∧
    (s.part.waiting (.channelLink a) = none →
      exec (.remoteMeasurement a) s = .next s ∧ exec (.channelPresenceChange a) s = .next s))

/-! ## Frames of the vehicle link -/

/-- Decoding the frame that carries a well-formed request gives the request back, with every field (section 11.7). ROUTE
is not among them: the manual gives no code for its kinds. The model's reading: log entry 8. -/
def Obligations.RequestFramesRoundTrip : Prop :=
  ∀ (i : Instr) (kind tag : Byte) (payload : List Byte), i.wf = true →
    encodeFrame i = some (kind, tag, payload) → decodeFrame kind tag payload = .request i

/-- The bytes of the frame that carries a well-formed request, received while hunting, have the effect of the request
(R179, R180). The model's reading: log entries 8 and 21. -/
def Obligations.FrameDoesWhatItsRequestDoes : Prop :=
  ∀ (s : State) (i : Instr) (kind tag : Byte) (payload : List Byte), i.wf = true →
    encodeFrame i = some (kind, tag, payload) → s.part.vl.rx = none →
    ∃ p, exec (.vehicleLinkFrame ((envelope kind tag payload).map (LineByte.mk false))) s = .next { s with part := p } ∧
      exec i s = .next { s with part := p }

/-- What the receive side does with a frame that carries no acceptable request: an abandoned frame counts one link error
and is not answered (R179), and a complete frame is refused by its kind, its length or its item code (R180, R183). The
model's reading: log entry 23. -/
def Obligations.FaultyFramesAreCountedOrRefused : Prop :=
  ∀ (s : State) (kind tag : Byte) (payload : List Byte) (b c1 c0 : Byte) (g : Bool),
    let dropped : Option (List Byte) → State := fun rx =>
      { s with part := { s.part with vl := { s.part.vl with
          rx := rx, errors := min (s.part.vl.errors + 1) 65535 } } }
    let whole := (envelope kind tag payload).map (LineByte.mk false)
    (s.part.vl.rx ≠ none → exec (.frameAbandoned []) s = .next (dropped none)) ∧
    (s.part.vl.rx ≠ none →
      exec (.frameAbandoned [⟨true, b⟩]) s = .next (dropped (if b = 0xA5 then some [] else none))) ∧
    (s.part.vl.rx = none → 240 < b.toNat →
      exec (.frameAbandoned [⟨g, 0xA5⟩, ⟨false, b⟩]) s = .next (dropped none)) ∧
    (s.part.vl.rx = none → payload.length ≤ 240 →
      c1 ++ c0 ≠ crc16 (byteOf payload.length :: kind :: tag :: payload) →
      exec (.frameAbandoned
        ((0xA5 :: byteOf payload.length :: kind :: tag :: payload ++ [c1, c0]).map (LineByte.mk false))) s =
        .next (dropped none)) ∧
    (s.part.vl.rx = none → payload.length ≤ 240 → kind ∉ requestKinds →
      exec (.vehicleLinkFrame whole) s =
        .next { s with part := s.part.answer kind tag (.refused .unknownKind) }) ∧
    (s.part.vl.rx = none → payload.length ≤ 240 → kind ∈ requestKinds →
      lengthAllowed kind payload.length = false →
      exec (.vehicleLinkFrame whole) s =
        .next { s with part := s.part.answer kind tag (.refused .badLength) }) ∧
    (s.part.vl.rx = none → kind = kindQuery → payload = [b] → (b.toNat < 1 ∨ 8 < b.toNat) →
      exec (.vehicleLinkFrame whole) s =
        .next { s with part := s.part.answer kind tag (.refused (.badValue 0)) })

/-! ## The coach description -/

/-- CHASSIS: the checks of R3 and R4 in their order, the lowest faulty field first, and what the acceptance of R5 does to
every block. The model's reading: log entries 3, 21 and 30. -/
def Obligations.ChassisAcceptedOrRefused : Prop :=
  ∀ (s : State) (tag : Byte) (c : ChassisRecord) (k : Nat),
    let refusal : Reason → Host.Outcome State Fault Refusal := fun r =>
      .next { s with part := s.part.answer kindChassis tag (.refused r) }
    ((c.axles.length < 2 ∨ 4 < c.axles.length) → exec (.chassis tag c) s = refusal .badLength) ∧
    (2 ≤ c.axles.length → c.axles.length ≤ 4 →
      (s.part.control.mode ≠ .config → exec (.chassis tag c) s = refusal .mode) ∧
      (s.part.control.mode = .config → s.part.store.chassis ≠ none →
        exec (.chassis tag c) s = refusal .alreadySet) ∧
      (s.part.control.mode = .config → s.part.store.chassis = none →
        ((c.axleCount < 2 ∨ 4 < c.axleCount) → exec (.chassis tag c) s = refusal (.badValue 0)) ∧
        (2 ≤ c.axleCount → c.axleCount ≤ 4 → c.axles.length ≠ c.axleCount →
          exec (.chassis tag c) s = refusal .badLength) ∧
        (c.axles.length = c.axleCount → (k, false) ∈ chassisChecks c →
          (∀ x ∈ chassisChecks c, x.1 < k → x.2 = true) →
          exec (.chassis tag c) s = refusal (.badValue k)) ∧
        (c.axles.length = c.axleCount → (∀ x ∈ chassisChecks c, x.2 = true) →
          ∃ p, exec (.chassis tag c) s = .next { s with part := p } ∧
            p = { s.part with
              store := { s.part.store with chassis := some c }
              demand := p.demand
              cap := { s.part.cap with items := { s.part.cap.items with fade := p.cap.items.fade } }
              thermal := p.thermal
              flap := p.flap
              chan := .replicate .created
              vl := (s.part.answer kindChassis tag .done).vl
              handed := p.handed } ∧
            p.demand = { s.part.demand with
              mass := c.grossMass
              assists := s.part.demand.assists.map fun e =>
                { e with force := min ((c.grossMass * e.decel + 9999) / 10000) 20000 }
              total := p.totalDemand
              lead := p.leadingSource } ∧
            (∀ a : Axle, a.val < c.axleCount → p.thermal.axles.get a = ⟨200000, .normal, false, 0⟩ ∧
              p.cap.items.fade.get a = 1000) ∧
            p.thermal.timer = some ⟨s.part.now, 100⟩ ∧
            p.thermal.ambientUsed = s.part.thermal.ambientUsed ∧
            p.thermal.running = s.part.thermal.running ∧
            p.flap.state =
              (if c.exhaustFitted = 1 ∧ s.part.fswClosed = true then .opening else .opened) ∧
            p.flap.timer =
              (if c.exhaustFitted = 1 ∧ s.part.fswClosed = true
                then some ⟨s.part.now, s.part.setting idFlapTimeout⟩ else none) ∧
            (c.exhaustFitted = 1 → s.part.fswClosed = false → p.flap.enteredOpen = s.part.now) ∧
            Handoff.recompute ∈ p.handed)))

/-- SETTINGS: the refusals of R8, each leaving every setting unchanged, and an accepted request applied pair by pair, the
answer CLAMPED exactly when some pair was clamped as the settings stood at it (R9). One pair of a SETTINGS request
(R9): the value is limited to the range as it stands, the settings whose range depends on it are moved to their bound
and no others change, and the pair counts as clamped exactly when the value was changed or another setting moved. The
model's reading: log entry 21. -/
def Obligations.SettingsAppliedInOrder : Prop :=
  (∀ (s : State) (tag : Byte) (ps l r : List (Nat × Nat)) (x : Nat × Nat),
    let refusal : Reason → Host.Outcome State Fault Refusal := fun r =>
      .next { s with part := s.part.answer kindSettings tag (.refused r) }
    ((ps.length < 1 ∨ 12 < ps.length) → exec (.settings tag ps) s = refusal .badLength) ∧
    (1 ≤ ps.length → ps.length ≤ 12 →
      (s.part.control.mode ≠ .config → s.part.control.mode ≠ .standby →
        exec (.settings tag ps) s = refusal .mode) ∧
      (s.part.control.mode = .config ∨ s.part.control.mode = .standby →
        (ps = l ++ x :: r → (x.1 < 1 ∨ 39 < x.1) →
          (∀ y ∈ l, 1 ≤ y.1 ∧ y.1 ≤ 39) → exec (.settings tag ps) s = refusal (.badValue l.length)) ∧
        ((∀ y ∈ ps, 1 ≤ y.1 ∧ y.1 ≤ 39) →
          ∃ p, exec (.settings tag ps) s = .next { s with part := p } ∧
            p = { s.part with
              store := { s.part.store with settings := p.store.settings }
              vl := p.vl } ∧
            p.store.settings =
              ps.foldl (fun v y => (applySetting v y.1 y.2).1) s.part.store.settings ∧
            (let before := fun k : Nat =>
              (ps.take k).foldl (fun v y => (applySetting v y.1 y.2).1) s.part.store.settings
             let clamped := ∃ k < ps.length,
               (applySetting (before k) (ps.getD k (0, 0)).1 (ps.getD k (0, 0)).2).2 = true
             p.vl = (s.part.answer kindSettings tag (if clamped then ⟨.clamped, .nothing⟩ else .done)).vl))))) ∧
  (∀ (values : List Nat) (id v : Nat), values.length = 39 → 1 ≤ id → id ≤ 39 →
    let r := applySetting values id v
    let st := min (max v (settingRange values id).1) (settingRange values id).2
    settingOf r.1 id = st ∧
      (∀ j < 40, 1 ≤ j → j ≠ id → settingOf r.1 j =
        if id = 7 ∧ j = 8 then min (settingOf values 8) (st - 100)
        else if id = 17 ∧ j = 18 then max (settingOf values 18) (st + 10)
        else if id = 28 ∧ j = 29 then max (settingOf values 29) (st + 20)
        else if id = 28 ∧ j = 30 then
          if settingOf values 29 < st + 20 then max (settingOf values 30) (st + 40) else settingOf values 30
        else if id = 29 ∧ j = 30 then max (settingOf values 30) (st + 20)
        else settingOf values j) ∧
      (r.2 = true ↔ st ≠ v ∨ ∃ j < 40, 1 ≤ j ∧ j ≠ id ∧ settingOf r.1 j ≠ settingOf values j))

/-- TABLE_OPEN (R13): the checks in their order; the named table becomes LOADING with its slots below the start index
kept, another open table becomes INVALID with its slots kept, and a consumer whose table leaves VALID acts (R20).
TABLE_DATA (R14): the checks in their order, and the entries written from the cursor upward. The model's reading: log
entry 21. -/
def Obligations.TableLoadWritesAtCursor : Prop :=
  (∀ (s : State) (tag : Byte) (n k : Nat),
    let refusal : Reason → Host.Outcome State Fault Refusal := fun r =>
      .next { s with part := s.part.answer kindTableOpen tag (.refused r) }
    (s.part.control.mode ≠ .config → s.part.control.mode ≠ .standby →
      exec (.tableOpen tag n k) s = refusal .mode) ∧
    (s.part.control.mode = .config ∨ s.part.control.mode = .standby →
      ((n < 1 ∨ 5 < n) → exec (.tableOpen tag n k) s = refusal (.badValue 0)) ∧
      (∀ id, tableOfId n = some id →
        (id.slots ≤ k → exec (.tableOpen tag n k) s = refusal (.badValue 1)) ∧
        (k < id.slots →
          ∃ p, exec (.tableOpen tag n k) s = .next { s with part := p } ∧
            p = { s.part with
              store := p.store
              demand := p.demand
              vl := (s.part.answer kindTableOpen tag .done).vl
              handed := p.handed } ∧
            p.table id = ⟨.loading, (s.part.table id).slots.take k ++ List.replicate (id.slots - k) none⟩ ∧
            p.store.cursor = some ⟨id, k⟩ ∧
            (∀ other, other ≠ id → p.table other =
              if s.part.store.cursor.map (·.table) = some other
              then { s.part.table other with state := .invalid } else s.part.table other) ∧
            p.store.gearCount = (if id = .gearTable then 0 else s.part.store.gearCount) ∧
            p.store.chassis = s.part.store.chassis ∧ p.store.settings = s.part.store.settings ∧
            ((s.part.table id).state = .valid → id = .pedalMap → p.demand.pedalForce = 0) ∧
            ((s.part.table id).state = .valid → id = .leverMap → p.demand.leverForce = 0) ∧
            ((s.part.table id).state = .valid → id.isMap = true → p.demand = { s.part.demand with
              pedalForce := p.pedalForceOf s.part.demand.pedalReading
              leverForce := p.leverForceOf s.part.demand.leverReading
              total := p.totalDemand
              lead := p.leadingSource }) ∧
            ((s.part.table id).state ≠ .valid ∨ id.isMap = false → p.demand = s.part.demand) ∧
            p.handed = s.part.handed ++
              (if (s.part.table id).state = .valid ∧ id.isMap = false then [.recompute] else []))))) ∧
  (∀ (s : State) (tag : Byte) (fields : List Nat) (es : List Entry),
    let refusal : Reason → Host.Outcome State Fault Refusal := fun r =>
      .next { s with part := s.part.answer kindTableData tag (.refused r) }
    ((fields.length < 1 ∨ 8 < fields.length) → exec (.tableData tag fields) s = refusal .badLength) ∧
    (1 ≤ fields.length → fields.length ≤ 8 →
      (s.part.store.cursor = none → exec (.tableData tag fields) s = refusal .noTableOpen) ∧
      (∀ c, s.part.store.cursor = some c →
        let id := c.table
        let k := c.index
        ((id.isMap = true ∧ 4 < fields.length ∨ id.isMap = false ∧ fields.length % 2 = 1) →
          exec (.tableData tag fields) s = refusal .badLength) ∧
        ((id.isMap = true ∧ fields = es.map (·.first) ∧ (∀ e ∈ es, e.second = 0) ∨
            id.isMap = false ∧ fields = es.flatMap fun e => [e.first, e.second]) →
          es.length ≤ 4 →
          (id.slots < k + es.length → exec (.tableData tag fields) s = refusal .overrun) ∧
          (k + es.length ≤ id.slots →
            ∃ p, exec (.tableData tag fields) s = .next { s with part := p } ∧
              p = { s.part with
                store := p.store, vl := (s.part.answer kindTableData tag .done).vl } ∧
              p.table id = { s.part.table id with
                slots := (s.part.table id).slots.take k ++ es.map some ++
                  (s.part.table id).slots.drop (k + es.length) } ∧
              p.store.cursor = some ⟨id, k + es.length⟩ ∧
              (∀ other, other ≠ id → p.table other = s.part.table other) ∧
              p.store.chassis = s.part.store.chassis ∧
              p.store.settings = s.part.store.settings ∧
              p.store.gearCount = s.part.store.gearCount)))))

/-- TABLE_CLOSE (R15): refused with no table open; the open table becomes VALID or INVALID and no table is open; the gear
count is the cursor when the gear table passes (R18). The first offending index of a closing table is the lowest slot
at which the conditions of its kind fail (R16, R17, R18). -/
def Obligations.TableCloseValidates : Prop :=
  (∀ (s : State) (tag : Byte),
    (s.part.store.cursor = none →
      exec (.tableClose tag) s = .next { s with part := s.part.answer kindTableClose tag (.refused .noTableOpen) }) ∧
    (∀ c, s.part.store.cursor = some c →
      let id := c.table
      let k := c.index
      ∃ p, exec (.tableClose tag) s = .next { s with part := p } ∧
        p = { s.part with
          store := p.store, demand := p.demand, vl := p.vl, handed := p.handed } ∧
        p.store.cursor = none ∧ p.store.chassis = s.part.store.chassis ∧
        p.store.settings = s.part.store.settings ∧
        (∀ other, other ≠ id → p.table other = s.part.table other) ∧
        (∀ j, firstOffending id (s.part.table id) k = some j →
          p.table id = { s.part.table id with state := .invalid } ∧
          p.store.gearCount = s.part.store.gearCount ∧ p.demand = s.part.demand ∧
          p.handed = s.part.handed ∧
          p.vl = (s.part.answer kindTableClose tag (.refused (.badValue j))).vl) ∧
        (firstOffending id (s.part.table id) k = none →
          p.table id = { s.part.table id with state := .valid } ∧
          p.store.gearCount = (if id = .gearTable then k else s.part.store.gearCount) ∧
          p.vl = (s.part.answer kindTableClose tag .done).vl ∧
          (id.isMap = false → p.demand = s.part.demand ∧ p.handed = s.part.handed ++ [.recompute]) ∧
          (id.isMap = true → p.handed = s.part.handed ∧
            p.demand = { s.part.demand with
              pedalForce := p.pedalForceOf s.part.demand.pedalReading
              leverForce := p.leverForceOf s.part.demand.leverReading
              total := p.totalDemand
              lead := p.leadingSource })))) ∧
  (∀ (t : Table) (cursor : Nat),
    let written := fun k : Nat => (t.slots[k]?.join).isSome = true
    let x := fun k => (t.entry k).first
    let y := fun k => (t.entry k).second
    let curveOk := fun (maxX maxY k : Nat) => written k ∧ x k ≤ maxX ∧ y k ≤ maxY ∧ (1 ≤ k → x (k - 1) < x k)
    let mapOk := fun k => written k ∧ x k ≤ 20000 ∧ (k = 0 → x 0 = 0) ∧ (1 ≤ k → x (k - 1) ≤ x k)
    let gearOk := fun k => written k ∧ 1 ≤ x k ∧ x k ≤ 4095 ∧ 1 ≤ y k ∧ y k ≤ 4095 ∧ y k ≤ 2 * x k ∧
      x k ≤ 15 * y k ∧ (1 ≤ k → x k * y (k - 1) < x (k - 1) * y k)
    let lowest := fun (bound : Nat) (ok : Nat → Prop) (r : Option Nat) =>
      (r = none ↔ ∀ k < bound, ok k) ∧ ∀ k < bound, (r = some k ↔ ¬ ok k ∧ ∀ j < k, ok j)
    lowest 12 (fun k => curveOk 6000 20000 k ∧ (k = 0 → 0 < x 0)) (firstOffending .retarderCurve t cursor) ∧
      lowest 8 (curveOk 4000 3000) (firstOffending .exhaustCurve t cursor) ∧
      lowest 9 mapOk (firstOffending .pedalMap t cursor) ∧
      lowest 6 mapOk (firstOffending .leverMap t cursor) ∧
      (cursor = 0 → firstOffending .gearTable t cursor = some 0) ∧
      (1 ≤ cursor → lowest cursor gearOk (firstOffending .gearTable t cursor)))

/-! ## The demand -/

/-- The total demand is the largest of the source forces, capped at 20000 daN, and the leading source is the first source
that gives the largest force; in STANDING_DOWN the pedal force alone counts (R37 to R39). SPEED_HOLD_UPDATE: the
Demand Arbiter takes the oldest record handed to it (R22 to R24, R27, R40). The readings are replaced, the forces are
read from the maps, and speed hold moves at a valid record while it is ON. The model's reading: log entry 9. -/
def Obligations.DemandFollowsTheRecordAndForces : Prop :=
  (∀ p : Part,
    let d := p.demand
    let forces := d.pedalForce :: d.hold.force :: d.leverForce :: d.assists.map (·.force)
    p.totalDemand ≤ 20000 ∧
    (p.control.mode = .standingDown → p.totalDemand = min d.pedalForce 20000 ∧
      p.leadingSource = if d.pedalForce = 0 then .nobody else .pedal) ∧
    (p.control.mode ≠ .standingDown →
      (∀ f ∈ forces, min f 20000 ≤ p.totalDemand) ∧ (∃ f ∈ forces, p.totalDemand = min f 20000) ∧
      (p.leadingSource = .nobody ↔ ∀ f ∈ forces, f = 0) ∧
      (p.leadingSource = .pedal ↔ 0 < d.pedalForce ∧ ∀ f ∈ forces, f ≤ d.pedalForce) ∧
      (p.leadingSource = .assist ↔
        ∃ e ∈ d.assists, d.pedalForce < e.force ∧ ∀ f ∈ forces, f ≤ e.force) ∧
      (p.leadingSource = .hold ↔ d.pedalForce < d.hold.force ∧ (∀ e ∈ d.assists, e.force < d.hold.force) ∧
        d.leverForce ≤ d.hold.force) ∧
      (p.leadingSource = .lever ↔ d.pedalForce < d.leverForce ∧ (∀ e ∈ d.assists, e.force < d.leverForce) ∧
        d.hold.force < d.leverForce))) ∧
  (∀ (s : State) (l r : List Handoff) (pedal lever : Nat) (ref : Option Nat),
    s.part.handed = l ++ .demandRecord pedal lever ref :: r → (∀ h ∈ l, h.lane ≠ .demandRecord) →
    let hold := s.part.demand.hold
    let top : Int := s.part.setting idHoldMax
    let f := fun k => ((s.part.table .pedalMap).entry k).first
    ∃ p, exec .speedHoldUpdate s = .next { s with part := p } ∧
      p = { s.part with demand := p.demand, handed := l ++ r } ∧
      p.demand = { s.part.demand with
        pedalReading := pedal
        leverReading := lever
        pedalForce := p.demand.pedalForce
        leverForce := p.demand.leverForce
        hold := p.demand.hold
        total := p.totalDemand
        lead := p.leadingSource } ∧
      ((s.part.table .pedalMap).state ≠ .valid → p.demand.pedalForce = 0) ∧
      ((s.part.table .pedalMap).state = .valid → pedal = 1000 → p.demand.pedalForce = f 8) ∧
      ((s.part.table .pedalMap).state = .valid → pedal < 1000 → p.demand.pedalForce =
        f (pedal / 125) + pedal % 125 * (f (pedal / 125 + 1) - f (pedal / 125)) / 125) ∧
      p.demand.leverForce = (if (s.part.table .leverMap).state = .valid
        then ((s.part.table .leverMap).entry lever).first else 0) ∧
      (hold.on = false ∨ ref = none → p.demand.hold = hold) ∧
      (hold.on = true → ∀ v, ref = some v →
        let error : Int := (v : Int) - hold.setpoint
        p.demand.hold.on = true ∧ p.demand.hold.setpoint = hold.setpoint ∧
          (p.demand.hold.accumulator : Int) =
            min top (max 0 (hold.accumulator + ((s.part.setting idHoldKi : Int) * error).tdiv 10)) ∧
          (p.demand.hold.force : Int) =
            min top (max 0 ((s.part.setting idHoldKp : Int) * error + p.demand.hold.accumulator))))

/-- HOLD_SET and HOLD_CANCEL (R26, R28): refused outside ACTIVE, the setpoint limited to 800 to 3000 cm/s, the accumulator and
the hold force kept while speed hold is ON, and all three values 0 when it is cancelled. -/
def Obligations.SpeedHoldSetAndCancelled : Prop :=
  ∀ (s : State) (tag : Byte) (v : Nat),
    (s.part.control.mode ≠ .active →
      exec (.holdSet tag v) s = .next { s with part := s.part.answer kindHoldSet tag (.refused .mode) }) ∧
    (s.part.control.mode = .active →
      ∃ p, exec (.holdSet tag v) s = .next { s with part := p } ∧
        p = { s.part with
          demand := { s.part.demand with hold := p.demand.hold, total := p.totalDemand, lead := p.leadingSource }
          vl := p.vl } ∧
        p.vl = (s.part.answer kindHoldSet tag
          (if 800 ≤ v ∧ v ≤ 3000 then .done else .applied true)).vl ∧
        p.demand.hold.on = true ∧
        p.demand.hold.setpoint = (if v < 800 then 800 else if 3000 < v then 3000 else v) ∧
        (s.part.demand.hold.on = true → p.demand.hold.accumulator = s.part.demand.hold.accumulator ∧
          p.demand.hold.force = s.part.demand.hold.force) ∧
        (s.part.demand.hold.on = false → p.demand.hold.accumulator = 0 ∧ p.demand.hold.force = 0)) ∧
    (∃ p, exec (.holdCancel tag) s = .next { s with part := p } ∧
      p = { s.part with
        demand := { s.part.demand with
          hold := ⟨false, 0, 0, 0⟩, total := p.totalDemand, lead := p.leadingSource }
        vl := (s.part.answer kindHoldCancel tag .done).vl })

/-- ASSIST (R30, R31): the checks in their order; a requester's entry is renewed in its place, and another requester's is
added at the end, while fewer than four are held. ASSIST_CANCEL and ASSIST_EXPIRY (R32, R33): the requester's entry
leaves the table, the others keep their order, and the total demand is recomputed. An expiry that the entry has not
reached changes nothing. -/
def Obligations.AssistEntriesComeAndGo : Prop :=
  (∀ (s : State) (tag : Byte) (q d h : Nat) (l₁ l₂ : List AssistEntry) (x : AssistEntry),
    let l := s.part.demand.assists
    let d' := min d 8000
    let h' := if h < 50 then 50 else if 5000 < h then 5000 else h
    let e : AssistEntry :=
      ⟨q, d', min ((s.part.demand.mass * d' + 9999) / 10000) 20000, h', s.part.now + BitVec.ofNat 32 h'⟩
    let refusal : Reason → Prop := fun r =>
      exec (.assist tag q d h) s = .next { s with part := s.part.answer kindAssist tag (.refused r) }
    let accepted : List AssistEntry → Prop := fun l' =>
      ∃ p, exec (.assist tag q d h) s = .next { s with part := p } ∧
        p = { s.part with
          demand := { s.part.demand with assists := l', total := p.totalDemand, lead := p.leadingSource }
          vl := (s.part.answer kindAssist tag (if d' = d ∧ h' = h then .done else .applied true)).vl }
    (s.part.control.mode ≠ .active → refusal .mode) ∧
    (s.part.control.mode = .active → 15 < q → refusal (.badValue 0)) ∧
    (s.part.control.mode = .active → q ≤ 15 →
      (l = l₁ ++ x :: l₂ → x.requester = q → (∀ y ∈ l₁ ++ l₂, y.requester ≠ q) →
        accepted (l₁ ++ e :: l₂)) ∧
      ((∀ y ∈ l, y.requester ≠ q) → l.length < 4 → accepted (l ++ [e])) ∧
      ((∀ y ∈ l, y.requester ≠ q) → 4 ≤ l.length → refusal .full))) ∧
  (∀ (s : State) (tag : Byte) (q : Nat) (l₁ l₂ : List AssistEntry) (x : AssistEntry),
    (15 < q → exec (.assistCancel tag q) s =
      .next { s with part := s.part.answer kindAssistCancel tag (.refused (.badValue 0)) }) ∧
    (q ≤ 15 → (∀ y ∈ s.part.demand.assists, y.requester ≠ q) → exec (.assistCancel tag q) s =
      .next { s with part := s.part.answer kindAssistCancel tag (.refused .notFound) }) ∧
    (q ≤ 15 → s.part.demand.assists = l₁ ++ x :: l₂ → x.requester = q →
      (∀ y ∈ l₁ ++ l₂, y.requester ≠ q) →
      (∃ p, exec (.assistCancel tag q) s = .next { s with part := p } ∧
        p = { s.part with
          demand := { s.part.demand with
            assists := l₁ ++ l₂, total := p.totalDemand, lead := p.leadingSource }
          vl := (s.part.answer kindAssistCancel tag .done).vl }) ∧
      (x.hold ≤ (s.part.now - (x.expiry - BitVec.ofNat 32 x.hold)).toNat →
        ∃ p, exec (.assistExpiry q) s = .next { s with part := p } ∧
          p = { s.part with
            demand := { s.part.demand with
              assists := l₁ ++ l₂, total := p.totalDemand, lead := p.leadingSource } }) ∧
      ((s.part.now - (x.expiry - BitVec.ofNat 32 x.hold)).toNat < x.hold →
        exec (.assistExpiry q) s = .next s)))

/-- MASS (R35): refused without a chassis record; the mass is limited to 5000 kg to the gross mass, and every assist force is
recomputed from it with the rest of each entry kept (R36). -/
def Obligations.MassRecomputesAssists : Prop :=
  ∀ (s : State) (tag : Byte) (kg : Nat),
    (s.part.store.chassis = none → exec (.mass tag kg) s =
      .next { s with part := s.part.answer kindMass tag (.refused (.notReady 2 0)) }) ∧
    (∀ c, s.part.store.chassis = some c → 5000 ≤ c.grossMass →
      let m := if kg < 5000 then 5000 else if c.grossMass < kg then c.grossMass else kg
      ∃ p, exec (.mass tag kg) s = .next { s with part := p } ∧
        p = { s.part with
          demand := { s.part.demand with
            mass := m
            assists := s.part.demand.assists.map fun e =>
              { e with force := min ((m * e.decel + 9999) / 10000) 20000 }
            total := p.totalDemand
            lead := p.leadingSource }
          vl := (s.part.answer kindMass tag
            (if 5000 ≤ kg ∧ kg ≤ c.grossMass then .done else .applied true)).vl })

/-! ## Motion -/

/-- A MOTION record without a chassis record is refused, and only the clamped input counter rises (R42, R43). A record
taken has its fields limited and published as engine data, and the counter rises once for a record with a changed
field (R43). The condition faults that a taken record raises and ends (R44, R47, R53): SPEED_MISSING of each axle by
its speed field, MISMATCH by the driveline state, and STALE at a valid record, reported in that order. The model's
reading: log entries 13 and 28. -/
def Obligations.MotionRecordIsLimited : Prop :=
  (∀ (s : State) (r : MotionRecord),
    let counted := min (s.part.motion.clamped + 1) 255
    (s.part.store.chassis = none → exec (.motion r) s =
      .next { s with part := { s.part with motion := { s.part.motion with clamped := counted } } }) ∧
    (∀ c, s.part.store.chassis = some c →
      let count := if (s.part.table .gearTable).state = .valid then s.part.store.gearCount else 0
      let badGear := r.gear ≠ 0 ∧ r.gear ≠ 15 ∧ count < r.gear
      let speedOver := ∃ a : Axle, a.val < c.axleCount ∧ r.wheels.get a ≠ 65535 ∧ 6000 < r.wheels.get a
      ∃ p, exec (.motion r) s = .next { s with part := p } ∧
        p = { s.part with
          motion := p.motion, control := p.control, demand := p.demand, app := p.app
          faults := p.faults, flags := p.flags, handed := p.handed } ∧
        p.motion.engine.speed = min r.engine 4000 ∧
        p.motion.engine.gear = (if r.gear = 0 ∨ badGear then .neutral
          else if r.gear = 15 then .reverse else .forward r.gear) ∧
        p.motion.engine.clutch = r.clutch ∧ p.motion.engine.pedal = min r.pedal 1000 ∧
        p.motion.engine.lever = min r.lever 5 ∧
        ((speedOver ∨ badGear ∨ 4000 < r.engine ∨ 1000 < r.pedal ∨ 5 < r.lever ∨ r.ambient < -40 ∨
          60 < r.ambient) → p.motion.clamped = counted) ∧
        (¬ (speedOver ∨ badGear ∨ 4000 < r.engine ∨ 1000 < r.pedal ∨ 5 < r.lever ∨ r.ambient < -40 ∨
          60 < r.ambient) → p.motion.clamped = s.part.motion.clamped))) ∧
  (∀ (s : State) (r : MotionRecord) (c : ChassisRecord), s.part.store.chassis = some c →
    let m := s.part.motion
    let absent := fun a : Axle => decide (r.wheels.get a = 65535)
    let below := Axle.all.filter fun a => decide (a.val < c.axleCount)
    let valid := below.any fun a => !absent a
    ∃ p, exec (.motion r) s = .next { s with part := p } ∧
      (∀ a : Axle, p.motion.speedMissing.get a =
        if a.val < c.axleCount then absent a else m.speedMissing.get a) ∧
      p.motion.mismatchPresent = (if p.motion.driveline = .confirmed then false
        else m.mismatchPresent || (decide (p.motion.driveline = .mismatch) && decide (m.driveline ≠ .mismatch))) ∧
      p.motion.stalePresent = (m.stalePresent && !valid) ∧
      (let speeds := below.filterMap fun a =>
          if m.speedMissing.get a = absent a then none
          else some (Source.axle a, FaultCode.speedMissing, absent a)
       let line := if p.motion.mismatchPresent = m.mismatchPresent then []
          else [(Source.driveline, FaultCode.mismatch, p.motion.mismatchPresent)]
       let stale := if m.stalePresent && valid then [(Source.motion, FaultCode.staleMotion, false)] else []
       p.faults = (speeds ++ line ++ stale).foldl (fun (t : FaultTable) e =>
          if e.2.2 then (t.occurred s.part.now e.1 e.2.1).1 else (t.ended e.1 e.2.1).1) s.part.faults))

/-- A taken record is valid when some axle's speed is present: the reference speed is the largest non-driven speed, or
else the drive axle's (R45). A valid record publishes the road data and makes motion FRESH with the motion timer
restarted (R47); an invalid one leaves both, and what is handed on follows R46 and R53. What a MOTION record does
beyond Motion Input (R172, R174): a valid record that ends STALE starts the recovery in FALLBACK, one whose pedal
value reaches the abandon pedal turns STANDING_DOWN into ACTIVE, and no other record touches Mode Control. The model's
reading: log entries 9 and 13. -/
def Obligations.MotionRecordIsHandedOn : Prop :=
  (∀ (s : State) (r : MotionRecord) (c : ChassisRecord), s.part.store.chassis = some c →
    let wheels : Axles (Option Nat) := .ofFn fun a =>
      if a.val < c.axleCount ∧ r.wheels.get a ≠ 65535 then some (min (r.wheels.get a) 6000) else none
    let drive := Axle.all.findSome? fun a => if a.val = c.drive then wheels.get a else none
    let nonDriven := Axle.all.filterMap fun a => if a.val = c.drive then none else wheels.get a
    let reference := if nonDriven = [] then drive else some (nonDriven.foldl max 0)
    let demandOf := fun v : Option Nat => Handoff.demandRecord (min r.pedal 1000) (min r.lever 5) v
    ∃ p, exec (.motion r) s = .next { s with part := p } ∧
      let changed := if p.motion.driveline = s.part.motion.driveline then [] else [Handoff.recompute]
      (reference = none →
        p.motion.road = s.part.motion.road ∧ p.motion.freshness = s.part.motion.freshness ∧
          p.motion.timer = s.part.motion.timer ∧ p.motion.stalePresent = s.part.motion.stalePresent ∧
          p.control = s.part.control ∧ p.demand = s.part.demand ∧ p.app = s.part.app ∧
          p.handed = s.part.handed ++ changed ++ [demandOf none]) ∧
      (∀ v, reference = some v →
        p.motion.road = some ⟨v, wheels, min (max r.ambient (-40)) 60, s.part.now⟩ ∧
          p.motion.freshness = .fresh ∧
          p.motion.timer = some ⟨s.part.now, s.part.setting idMotionStale⟩ ∧
          p.motion.stalePresent = false ∧
          p.handed = s.part.handed ++ changed ++
            [demandOf (some v), .slipRecord v drive (!nonDriven.isEmpty), .recompute] ++
            (if p.control.mode = s.part.control.mode then [] else [.recompute]))) ∧
  (∀ (s : State) (r : MotionRecord) (c : ChassisRecord), s.part.store.chassis = some c →
    let valid := ∃ a : Axle, a.val < c.axleCount ∧ r.wheels.get a ≠ 65535
    let abandons := valid ∧ s.part.control.mode = .standingDown ∧
      s.part.setting idAbandonPedal ≤ min r.pedal 1000
    let recovers := valid ∧ s.part.control.mode = .fallback ∧ s.part.motion.freshness = .stale
    ∃ p, exec (.motion r) s = .next { s with part := p } ∧
      (abandons → p.control = { s.part.control with mode := .active, standDownStart := none } ∧
        p.flags.standDownAbandoned = true ∧ p.flags.modeChanged = true ∧
        p.app = { s.part.app with
          rotationTimer := some ⟨s.part.now, s.part.setting idRotationInterval * 1000⟩ } ∧
        p.demand = { s.part.demand with total := p.totalDemand, lead := p.leadingSource }) ∧
      (recovers → p.control = { s.part.control with
        recovery := some ⟨s.part.now, s.part.setting idFallbackRecovery⟩ }) ∧
      (¬ abandons → ¬ recovers → p.control = s.part.control) ∧
      (¬ abandons → p.app = s.part.app ∧ p.demand = s.part.demand ∧
        p.flags = { s.part.flags with faultsChanged := p.flags.faultsChanged }))

/-- The driveline check of a taken record (R49, R51, R52): a change of engagement restarts it, no engagement is DECOUPLED, and
three matches or three mismatches in a row decide. -/
def Obligations.DrivelineFollowsTheRecords : Prop :=
  ∀ (s : State) (r : MotionRecord) (c : ChassisRecord), s.part.store.chassis = some c →
    let m := s.part.motion
    ∃ p, exec (.motion r) s = .next { s with part := p } ∧
      let n := p.motion
      let gear := n.engine.gear
      let changed := m.previous.isSome = true ∧ m.previous ≠ some (gear, r.clutch)
      let coupled := r.clutch = true ∧ gear ≠ .neutral ∧ gear ≠ .reverse
      let state := if changed then Driveline.uncertain else m.driveline
      let matches_ := if changed then 0 else m.matchCount
      let mismatches := if changed then 0 else m.mismatchCount
      let valid := ∃ a : Axle, a.val < c.axleCount ∧ r.wheels.get a ≠ 65535
      let v := n.road.elim 0 (·.reference)
      let entry := (s.part.table .gearTable).entry (r.gear - 1)
      let expected := v * 60000 * entry.first * c.ma / (628 * c.radius * entry.second * c.na)
      let isMismatch := s.part.setting idDrivelineTolerance * expected <
        ((n.engine.speed : Int) - expected).natAbs * 1000
      n.previous = some (gear, r.clutch) ∧
        (¬ coupled → n.driveline = .decoupled ∧ n.matchCount = 0 ∧ n.mismatchCount = 0) ∧
        (coupled → (¬ valid ∨ state = .decoupled ∨ v < 300) →
          n.driveline = state ∧ n.matchCount = matches_ ∧ n.mismatchCount = mismatches) ∧
        (coupled → valid → state ≠ .decoupled → 300 ≤ v → ¬ isMismatch →
          n.mismatchCount = 0 ∧ n.matchCount = min (matches_ + 1) 3 ∧
            n.driveline = if 3 ≤ matches_ + 1 then .confirmed else state) ∧
        (coupled → valid → state ≠ .decoupled → 300 ≤ v → isMismatch →
          n.matchCount = 0 ∧ n.mismatchCount = min (mismatches + 1) 3 ∧
            n.driveline = if 3 ≤ mismatches + 1 then .mismatch else state)

/-- The motion timer's expiry (R48, R171, R175): motion becomes STALE with the condition fault raised, ACTIVE becomes
FALLBACK with speed hold cancelled, the assist table emptied and the total demand recomputed (R28, R34), STANDING_DOWN
becomes STANDBY, and FALLBACK forgets its recovery start time. -/
def Obligations.StaleMotionLeavesActive : Prop :=
  ∀ (s : State) (t : Timer), s.part.motion.timer = some t → t.interval ≤ (s.part.now - t.start).toNat →
    ∃ p, exec .motionTimerExpiry s = .next { s with part := p } ∧
      p.motion = { s.part.motion with freshness := .stale, timer := none, stalePresent := true } ∧
      p.faults = (if s.part.motion.stalePresent then s.part.faults
        else (s.part.faults.occurred s.part.now .motion .staleMotion).1) ∧
      p.now = s.part.now ∧ p.store = s.part.store ∧ p.slip = s.part.slip ∧ p.cap = s.part.cap ∧
      p.thermal = s.part.thermal ∧ p.retRoute = s.part.retRoute ∧ p.vl = s.part.vl ∧
      p.fswClosed = s.part.fswClosed ∧
      (s.part.control.mode = .active → p.control = ⟨.fallback, s.part.control.standDownStart, none⟩ ∧
        p.flags.fallbackEntered = true ∧ p.flags.modeChanged = true ∧
        p.flags.assistDropped = (s.part.flags.assistDropped || !s.part.demand.assists.isEmpty) ∧
        p.demand = { s.part.demand with
          hold := ⟨false, 0, 0, 0⟩, assists := []
          total := min (max s.part.demand.pedalForce s.part.demand.leverForce) 20000
          lead := if s.part.demand.pedalForce = 0 ∧ s.part.demand.leverForce = 0 then .nobody
            else if s.part.demand.leverForce ≤ s.part.demand.pedalForce then .pedal else .lever }) ∧
      (s.part.control.mode = .standingDown → p.control = ⟨.standby, none, s.part.control.recovery⟩ ∧
        p.flags.fallbackEntered = s.part.flags.fallbackEntered ∧ p.flags.modeChanged = true ∧
        p.demand = { s.part.demand with total := p.totalDemand, lead := p.leadingSource }) ∧
      (s.part.control.mode = .fallback → p.control = { s.part.control with recovery := none }) ∧
      (s.part.control.mode = .config ∨ s.part.control.mode = .standby → p.control = s.part.control) ∧
      (s.part.control.mode ≠ .active → s.part.control.mode ≠ .standingDown →
        p = { s.part with
          motion := p.motion, faults := p.faults, control := p.control
          flags := { s.part.flags with faultsChanged := p.flags.faultsChanged } })

/-! ## The slip limit -/

/-- SLIP_EVALUATION: the Slip Monitor takes the oldest record handed to it (R55 to R57). A record that is not evaluated
changes nothing; one over the threshold counts, and cuts at the first while unlimited and at every third; another
raises a cut limit by the step, and ends it once the capacities are reached. The model's reading: log entry 9. -/
def Obligations.SlipLimitCutsAndRecovers : Prop :=
  ∀ (s : State) (l r : List Handoff) (reference : Nat) (drive : Option Nat) (nonDriven : Bool),
    s.part.handed = l ++ .slipRecord reference drive nonDriven :: r → (∀ h ∈ l, h.lane ≠ .slipRecord) →
    let m := s.part.slip
    let evaluated := (s.part.control.mode = .active ∨ s.part.control.mode = .standingDown) ∧
      300 ≤ reference ∧ drive.isSome = true ∧ nonDriven = true
    let value := (((reference : Int) - drive.getD 0) * 1000 / reference).toNat
    let cut := min (min ((s.part.app.exhaustCounted + s.part.app.retarderCounted) *
      s.part.setting idSlipCut / 1000) 20000) m.limit
    let raised := m.limit + s.part.setting idSlipStep
    let result : SlipMonitor → Flags → Host.Outcome State Fault Refusal := fun n f =>
      .next { s with part := { s.part with slip := n, flags := f, handed := l ++ r } }
    (¬ evaluated → exec .slipEvaluation s = result m s.part.flags) ∧
    (evaluated → s.part.setting idSlipThreshold < value →
      (m.limit = 20000 → exec .slipEvaluation s = result ⟨value, cut, 0⟩
        (if cut < 20000 then { s.part.flags with limitSet := true } else s.part.flags)) ∧
      (m.limit ≠ 20000 → 2 ≤ m.counter → exec .slipEvaluation s = result ⟨value, cut, 0⟩ s.part.flags) ∧
      (m.limit ≠ 20000 → m.counter < 2 →
        exec .slipEvaluation s = result ⟨value, m.limit, m.counter + 1⟩ s.part.flags)) ∧
    (evaluated → value ≤ s.part.setting idSlipThreshold →
      (20000 ≤ m.limit → exec .slipEvaluation s = result ⟨value, m.limit, 0⟩ s.part.flags) ∧
      (m.limit < 20000 → (s.part.cap.items.exhaust + s.part.cap.items.retarder ≤ raised ∨ 20000 ≤ raised) →
        exec .slipEvaluation s = result ⟨value, 20000, 0⟩ { s.part.flags with limitCleared := true }) ∧
      (m.limit < 20000 → raised < s.part.cap.items.exhaust + s.part.cap.items.retarder → raised < 20000 →
        exec .slipEvaluation s = result ⟨value, raised, 0⟩ s.part.flags))

/-! ## The capacities -/

/-- CAPACITY_RECOMPUTATION: the Capacity Unit takes the oldest event handed to it, and touches its own items, OVERTEMP and
nothing else (R59, R60). The fade factors follow the tiers (R69), the service capacities the available channels and
the mask (R70), and OVERTEMP the oil temperature held (R68). The advised gear (R71, R72): the gear below, when the
exhaust would give more than a tenth above its present capacity there without the engine passing its over-rev limit,
and 0 otherwise. The model's reading: log entries 9 and 28. -/
def Obligations.CapacitiesOfTheAxles : Prop :=
  (∀ (s : State) (l r : List Handoff),
    s.part.handed = l ++ .recompute :: r → (∀ h ∈ l, h.lane ≠ .capacity) →
    let fadeOf : Tier → Nat := fun t =>
      match t with
      | .normal | .warm => 1000
      | .hot => 900
      | .fade => 700
    let fitted := s.part.store.chassis.map (·.retarderFitted) = some 1
    ∃ p, exec .capacityRecomputation s = .next { s with part := p } ∧
      p = { s.part with cap := p.cap, faults := p.faults, flags := p.flags, handed := l ++ r } ∧
      p.flags = { s.part.flags with faultsChanged := p.flags.faultsChanged } ∧
      p.cap.items.oilTemp = s.part.cap.items.oilTemp ∧
      (∀ a : Axle, a.val < s.part.axleCount →
        p.cap.items.fade.get a = fadeOf (s.part.thermal.axles.get a).tier ∧
          p.cap.items.service.get a = if (s.part.chan.get a).available
            then (s.part.axleDesc a).pMax * (s.part.axleDesc a).brakeFactor *
              fadeOf (s.part.thermal.axles.get a).tier / 100000
            else 0) ∧
      p.cap.items.unmaskedSum = (Axle.all.map fun a =>
        if a.val < s.part.axleCount ∧ s.part.app.mask.get a = false
        then p.cap.items.service.get a else 0).sum ∧
      ((s.part.cap.items.oilTemp = none ∨ ¬ fitted) →
        p.cap.overtempPresent = s.part.cap.overtempPresent ∧ p.faults = s.part.faults) ∧
      (fitted → ∀ oil, s.part.cap.items.oilTemp = some oil →
        let hot := decide ((s.part.setting idCutout : Int) ≤ oil)
        p.cap.overtempPresent = hot ∧
          p.faults = (if hot = s.part.cap.overtempPresent then s.part.faults
            else if hot then (s.part.faults.occurred s.part.now .retarder .overtemp).1
            else (s.part.faults.ended .retarder .overtemp).1))) ∧
  (∀ (s : State) (l r : List Handoff),
    s.part.handed = l ++ .recompute :: r → (∀ h ∈ l, h.lane ≠ .capacity) →
    let q := s.part
    let judged := q.store.chassis.map (·.exhaustFitted) = some 1 ∧
      (q.table .exhaustCurve).state = .valid ∧ (q.table .gearTable).state = .valid ∧
      q.motion.driveline = .confirmed ∧ ¬ (q.flap.state = .faulted ∧ q.flap.switchClosed = false)
    ∃ p, exec .capacityRecomputation s = .next { s with part := p } ∧
      ((¬ judged ∨ q.motion.road = none ∨ q.motion.engine.gear = .neutral ∨
          q.motion.engine.gear = .reverse ∨ q.motion.engine.gear = .forward 1) →
        p.cap.items.advisedGear = 0) ∧
      (judged → ∀ c, q.store.chassis = some c → ∀ d, q.motion.road = some d →
        ∀ g, q.motion.engine.gear = .forward g → 2 ≤ g → g - 1 ≤ q.store.gearCount →
          let m := ((q.table .gearTable).entry (g - 2)).first
          let n := ((q.table .gearTable).entry (g - 2)).second
          let e := d.reference * 60000 * m * c.ma / (628 * c.radius * n * c.na)
          let lower := if e < c.exhaustMin then 0
            else min (q.exhaustTorqueFor e * 100 * m * c.ma / (n * c.na * c.radius)) 20000
          p.cap.items.advisedGear =
            if e ≤ c.overRev ∧ p.cap.items.exhaust * 1100 / 1000 < lower then g - 1 else 0))

/-- The two curves as they are evaluated at a recomputation (R61, R65): 0 or a line from standstill below the first point,
the last point's value at and beyond it, and a straight line between two points, rounded toward the earlier one. The
model's reading: log entry 9. -/
def Obligations.CurvesAreInterpolated : Prop :=
  ∀ (s : State) (l r : List Handoff),
    s.part.handed = l ++ .recompute :: r → (∀ h ∈ l, h.lane ≠ .capacity) →
    let between := fun (e : Nat → Entry) (k x y : Nat) => (e k).first ≤ x → x < (e (k + 1)).first →
      (y : Int) = (e k).second + (((x : Int) - (e k).first) * (((e (k + 1)).second : Int) - (e k).second)).tdiv
        ((e (k + 1)).first - (e k).first)
    let xe := (s.part.table .exhaustCurve).entry
    let re := (s.part.table .retarderCurve).entry
    let n := s.part.motion.engine.speed
    ∃ p, exec .capacityRecomputation s = .next { s with part := p } ∧
      ((s.part.table .exhaustCurve).state ≠ .valid → p.cap.items.exhaustTorque = 0) ∧
      ((s.part.table .exhaustCurve).state = .valid → (∀ k < 7, (xe k).first < (xe (k + 1)).first) →
        (n < (xe 0).first → p.cap.items.exhaustTorque = 0) ∧
        ((xe 7).first ≤ n → p.cap.items.exhaustTorque = (xe 7).second) ∧
        ∀ k < 7, between xe k n p.cap.items.exhaustTorque) ∧
      ((s.part.table .retarderCurve).state ≠ .valid ∨ s.part.motion.road = none →
        p.cap.items.curveValue = 0) ∧
      ((s.part.table .retarderCurve).state = .valid → ∀ d, s.part.motion.road = some d →
        (∀ k < 11, (re k).first < (re (k + 1)).first) →
        (d.reference < (re 0).first →
          p.cap.items.curveValue = (re 0).second * d.reference / (re 0).first) ∧
        ((re 11).first ≤ d.reference → p.cap.items.curveValue = (re 11).second) ∧
        ∀ k < 11, between re k d.reference p.cap.items.curveValue)

/-- The exhaust capacity and its zero reason (R62, R63): the first condition that holds gives the reason, and with none
the torque is taken through the gear, capped at 20000 daN. The model's reading: log entries 5 and 9. -/
def Obligations.ExhaustCapacityAndReason : Prop :=
  ∀ (s : State) (l r : List Handoff),
    s.part.handed = l ++ .recompute :: r → (∀ h ∈ l, h.lane ≠ .capacity) →
    let q := s.part
    let bar : ExhaustZero :=
      if q.store.chassis.map (·.exhaustFitted) ≠ some 1 then .unfitted
      else if (q.table .exhaustCurve).state ≠ .valid ∨ (q.table .gearTable).state ≠ .valid then .noTable
      else if q.flap.state = .faulted ∧ q.flap.switchClosed = false then .flapFaultedOpen
      else if q.motion.driveline = .decoupled then .notCoupled
      else if q.motion.driveline = .uncertain ∨ q.motion.driveline = .mismatch then .notConfirmed
      else if q.motion.engine.speed < q.store.chassis.elim 0 (·.exhaustMin) then .lowEngineSpeed
      else .nothing
    ∃ p, exec .capacityRecomputation s = .next { s with part := p } ∧
      (bar ≠ .nothing → p.cap.items.exhaust = 0 ∧ p.cap.items.exhaustZero = bar) ∧
      (bar = .nothing →
        p.cap.items.exhaustZero = (if p.cap.items.exhaust = 0 then .noTorque else .nothing) ∧
        ∀ c, q.store.chassis = some c → ∀ g, q.motion.engine.gear = .forward g →
          1 ≤ g → g ≤ q.store.gearCount →
          p.cap.items.exhaust = min (p.cap.items.exhaustTorque * 100 *
            ((q.table .gearTable).entry (g - 1)).first * c.ma /
            (((q.table .gearTable).entry (g - 1)).second * c.na * c.radius)) 20000)

/-- The oil derate, the retarder capacity and its zero reason (R66, R67). -/
def Obligations.RetarderCapacityAndReason : Prop :=
  ∀ (s : State) (l r : List Handoff),
    s.part.handed = l ++ .recompute :: r → (∀ h ∈ l, h.lane ≠ .capacity) →
    let q := s.part
    let oil := q.cap.items.oilTemp
    let start : Int := q.setting idDerateStart
    let cutout : Int := q.setting idCutout
    let node := q.retRoute.bind fun a => q.link.nodes.find? fun e => e.addr == a
    let bar : RetarderZero :=
      if q.store.chassis.map (·.retarderFitted) ≠ some 1 then .unfitted
      else if (q.table .retarderCurve).state ≠ .valid then .noTable
      else if node.map (·.presence) ≠ some .present then .nodeAbsent
      else if node.map (·.reported) = some true then .nodeFault
      else if oil.any fun t => decide (cutout ≤ t) then .oilCutout
      else if q.motion.road = none then .noSpeed
      else .nothing
    ∃ p, exec .capacityRecomputation s = .next { s with part := p } ∧
      (oil = none → p.cap.items.derate = 1000) ∧
      (∀ t, oil = some t → (t ≤ start → p.cap.items.derate = 1000) ∧
        (start < t → cutout ≤ t → p.cap.items.derate = 0) ∧
        (start < t → t < cutout →
          (p.cap.items.derate : Int) = 1000 - (t - start) * 1000 / (cutout - start))) ∧
      (bar ≠ .nothing → p.cap.items.retarder = 0 ∧ p.cap.items.retarderZero = bar) ∧
      (bar = .nothing →
        p.cap.items.retarder = p.cap.items.curveValue * p.cap.items.derate / 1000 ∧
        p.cap.items.retarderZero = if p.cap.items.retarder = 0 then .noForce else .nothing)

/-! ## The apportioning pass -/

/-- PASS, stages 1 to 4, outside the completion of a stand-down (R76 to R84): the endurance target, the exhaust want and
its counted force, the retarder want and command, the service total and the surplus, and what the pass hands on. The
command never exceeds the retarder capacity, nor the slip limit less the exhaust counted force. The model's reading:
log entries 9 and 13. -/
def Obligations.PassDecidesTheEnduranceBrakes : Prop :=
  ∀ (s : State) (t : Timer), s.part.app.passTimer = some t → t.interval ≤ (s.part.now - t.start).toNat →
    ¬ StandDownComplete s.part →
    let q := s.part
    let e := q.cap.items.exhaust
    let target := min q.demand.total q.slip.limit
    let held := q.flap.state = .closing ∨ q.flap.state = .closed
    let previous := q.app.command
    let step := q.setting idRampStep
    ∃ p, exec .pass s = .next { s with part := p } ∧
      p = { q with app := p.app, flags := p.flags, handed := p.handed } ∧
      p.handed = q.handed ++ .exhaustWant p.app.exhaustWant ::
        .retarderWant p.app.retarderWant p.app.command ::
        ((Axle.all.filter fun a => decide (a.val < q.axleCount)).map fun a =>
          .pressureDemand a (p.app.demands.get a)) ∧
      p.app.passTimer = some ⟨q.now, q.setting idPassPeriod⟩ ∧
      p.app.rotationTimer = q.app.rotationTimer ∧ p.app.mask = q.app.mask ∧
      p.app.target = target ∧
      (p.app.exhaustWant = .close ↔ 0 < e ∧ e ≤ q.slip.limit ∧
        (e * q.setting idOnRatio / 1000 ≤ target ∨ held ∧ e * q.setting idOffRatio / 1000 ≤ target)) ∧
      p.app.exhaustCounted = (if q.flap.state = .closed ∨
        (q.flap.state = .opening ∨ q.flap.state = .faulted) ∧ q.flap.switchClosed = true then e else 0) ∧
      p.app.retarderWant = min (target - p.app.exhaustCounted) q.cap.items.retarder ∧
      (q.ret.state ≠ .active → p.app.command = 0) ∧
      (q.ret.state = .active → q.control.mode ≠ .standingDown →
        p.app.command = min p.app.retarderWant (previous + step)) ∧
      (q.ret.state = .active → q.control.mode = .standingDown →
        (previous ≤ p.app.retarderWant → p.app.command = previous) ∧
        (p.app.retarderWant < previous → p.app.command =
          min (max p.app.retarderWant (previous - step))
            (min q.cap.items.retarder (q.slip.limit - p.app.exhaustCounted)))) ∧
      p.app.retarderCounted = (if q.ret.state = .active then p.app.command else 0) ∧
      p.app.command ≤ q.cap.items.retarder ∧ p.app.command ≤ q.slip.limit - p.app.exhaustCounted ∧
      p.app.serviceTotal = q.demand.total - p.app.exhaustCounted - p.app.retarderCounted ∧
      p.app.surplus = p.app.exhaustCounted + p.app.retarderCounted - q.demand.total

/-- PASS, stages 5 and 6, outside the completion of a stand-down (R85 to R91): which axles are eligible, trim rotation and
its conditions, no share above its axle's capacity, a shortfall only when every eligible axle gives all it can, every
round of proportional distribution from the set, the shares and the remainder of the round before, and the pressure
demand of each share. -/
def Obligations.PassSharesTheServiceTotal : Prop :=
  ∀ (s : State) (t : Timer), s.part.app.passTimer = some t → t.interval ≤ (s.part.now - t.start).toNat →
    ¬ StandDownComplete s.part →
    let q := s.part
    let tierWeight : Tier → Nat := fun tier =>
      match tier with
      | .normal => 1000
      | .warm => 800
      | .hot => 500
      | .fade => 250
    ∃ p, exec .pass s = .next { s with part := p } ∧
      let x := p.app
      let capacity := q.cap.items.service
      let eligible := fun a : Axle =>
        a.val < q.axleCount ∧ q.app.mask.get a = false ∧ (q.chan.get a).available = true ∧ 0 < capacity.get a
      let trim := 0 < x.serviceTotal ∧ 0 < q.setting idTrimLimit ∧ x.serviceTotal ≤ q.setting idTrimLimit ∧
        eligible q.app.pointer ∧ x.serviceTotal ≤ capacity.get q.app.pointer
      (∀ a : Axle, (x.eligible.get a = true ↔ eligible a) ∧
        (¬ eligible a → x.shares.get a = 0 ∧ x.weights.get a = 0) ∧
        (eligible a → x.shares.get a ≤ capacity.get a ∧ x.weights.get a =
          max ((q.axleDesc a).load * tierWeight (q.thermal.axles.get a).tier / 1000) 1) ∧
        (0 < x.shortfall → eligible a → x.shares.get a = capacity.get a) ∧
        x.demands.get a = if x.shares.get a = 0 then 0
          else (x.shares.get a * 100000 + (q.axleDesc a).brakeFactor * q.cap.items.fade.get a - 1) /
            ((q.axleDesc a).brakeFactor * q.cap.items.fade.get a)) ∧
      x.shares.a0 + x.shares.a1 + x.shares.a2 + x.shares.a3 + x.shortfall = x.serviceTotal ∧
      (trim → x.method = .trim ∧ x.rounds = 0 ∧ x.shares.get q.app.pointer = x.serviceTotal ∧
        (∀ a : Axle, a ≠ q.app.pointer → x.shares.get a = 0) ∧ x.shortfall = 0 ∧ x.pointer = q.app.pointer) ∧
      (¬ trim →
        let round := fun st : Axles Bool × Axles Nat × Nat =>
          let w := fun a : Axle => if st.1.get a then x.weights.get a else 0
          let base := fun a : Axle => st.2.2 * w a / (w 0 + w 1 + w 2 + w 3)
          let leftover := st.2.2 - (base 0 + base 1 + base 2 + base 3)
          let before := fun a : Axle => (Axle.all.filter fun b =>
            decide (st.1.get b = true ∧ (w a < w b ∨ w a = w b ∧ b < a))).length
          let raised := fun a : Axle => st.2.1.get a +
            if st.1.get a then base a + (if before a < leftover then 1 else 0) else 0
          let full := fun a : Axle => st.1.get a && decide (capacity.get a < raised a)
          (Axles.ofFn fun a => st.1.get a && !full a,
            Axles.ofFn fun a => if full a then capacity.get a else raised a,
            (Axle.all.map fun a => if full a then raised a - capacity.get a else 0).sum)
        let after := fun k : Nat =>
          (List.range k).foldl (fun st _ => round st) (x.eligible, Axles.replicate 0, x.serviceTotal)
        (after x.rounds).2 = (x.shares, x.shortfall) ∧
        (∀ k < x.rounds, 0 < (after k).2.2 ∧ ∃ a : Axle, (after k).1.get a = true) ∧
        (x.shortfall = 0 ∨ ∀ a : Axle, (after x.rounds).1.get a = false) ∧
        x.method = .proportional ∧ x.rounds ≤ 4 ∧
        (x.serviceTotal ≤ q.setting idTrimLimit → x.pointer = q.app.pointer) ∧
        (q.setting idTrimLimit < x.serviceTotal →
          ((∀ a : Axle, ¬ eligible a) → x.pointer = q.app.pointer) ∧
          ∀ a : Axle, eligible a → (∀ b : Axle, b < a → ¬ eligible b) → x.pointer = a))

/-- The first round of proportional distribution, outside the completion of a stand-down (R87, R88): each eligible axle's
part by its weight, floored, and one more for the heaviest weights, the lower index first, until the leftover is
handed out. When no part exceeds its capacity, one round is made and the parts are the shares; in every case an axle
whose part exceeds its capacity is given exactly its capacity, and another at least its part. -/
def Obligations.FirstRoundSharesByWeight : Prop :=
  ∀ (s : State) (t : Timer), s.part.app.passTimer = some t → t.interval ≤ (s.part.now - t.start).toNat →
    ¬ StandDownComplete s.part →
    ∃ p, exec .pass s = .next { s with part := p } ∧
      let w := p.app.weights
      let eligible := fun a : Axle => p.app.eligible.get a = true
      let sumW := w.a0 + w.a1 + w.a2 + w.a3
      let total := p.app.serviceTotal
      let floors := fun a : Axle => total * w.get a / sumW
      let leftover := total - (floors 0 + floors 1 + floors 2 + floors 3)
      let before := fun a : Axle => (Axle.all.filter fun b => decide (p.app.eligible.get b = true ∧
        (w.get a < w.get b ∨ w.get a = w.get b ∧ b < a))).length
      let part := fun a : Axle => floors a + if before a < leftover then 1 else 0
      p.app.method = .proportional → 0 < total → (∃ a : Axle, eligible a) →
        ((∀ a : Axle, eligible a → part a ≤ s.part.cap.items.service.get a) →
          p.app.rounds = 1 ∧ ∀ a : Axle, eligible a → p.app.shares.get a = part a) ∧
        ∀ a : Axle, eligible a →
          min (part a) (s.part.cap.items.service.get a) ≤ p.app.shares.get a ∧
            (s.part.cap.items.service.get a < part a → p.app.shares.get a = s.part.cap.items.service.get a)

/-- PASS, stage 7, outside the completion of a stand-down (R96, R97): the marks, and the descent alarm raised by a lasting
shortfall or by FADE and cleared after a quiet time. -/
def Obligations.AlarmFollowsShortfallAndFade : Prop :=
  ∀ (s : State) (t : Timer), s.part.app.passTimer = some t → t.interval ≤ (s.part.now - t.start).toNat →
    ¬ StandDownComplete s.part →
    let q := s.part
    let fade := ∃ a : Axle, a.val < q.axleCount ∧ (q.thermal.axles.get a).tier = .fade
    let aged := fun (mark : Option Time) (delay : Nat) =>
      mark.any fun x => decide (delay ≤ (q.now - x).toNat)
    ∃ p, exec .pass s = .next { s with part := p } ∧
      let n := p.app
      n.raiseMark = (if n.shortfall = 0 then none
        else if q.app.raiseMark = none then some q.now else q.app.raiseMark) ∧
      (0 < n.shortfall ∨ fade → n.clearMark = none) ∧
      (n.shortfall = 0 → ¬ fade →
        n.clearMark = if q.app.clearMark = none then some q.now else q.app.clearMark) ∧
      (q.app.alarm = .clear →
        (n.alarm = .raised ↔ aged n.raiseMark (q.setting idAlarmRaise) = true ∨ fade) ∧
        p.flags = { q.flags with alarmRaised := q.flags.alarmRaised || decide (n.alarm = .raised) }) ∧
      (q.app.alarm = .raised →
        (n.alarm = .clear ↔ aged n.clearMark (q.setting idAlarmClear) = true) ∧
        p.flags = { q.flags with alarmCleared := q.flags.alarmCleared || decide (n.alarm = .clear) })

/-- ROTATION_TIMER_EXPIRY (R95): the pointer moves to the next axle in cyclic order that is not masked, available and NORMAL or
WARM, stays where there is none, and the timer is restarted. -/
def Obligations.RotationPassesOverHotAxles : Prop :=
  ∀ (s : State) (t : Timer), s.part.app.rotationTimer = some t → t.interval ≤ (s.part.now - t.start).toNat →
    let q := s.part
    let fit := fun a : Axle => a.val < q.axleCount ∧ q.app.mask.get a = false ∧
      (q.chan.get a).available = true ∧
      ((q.thermal.axles.get a).tier = .normal ∨ (q.thermal.axles.get a).tier = .warm)
    let distance := fun a : Axle => (a.val + 4 - q.app.pointer.val) % 4
    ∃ p, exec .rotationTimerExpiry s = .next { s with part := p } ∧
      p = { q with app := { q.app with
        pointer := p.app.pointer
        rotationTimer := some ⟨q.now, q.setting idRotationInterval * 1000⟩ } } ∧
      ((∀ a : Axle, a ≠ q.app.pointer → ¬ fit a) → p.app.pointer = q.app.pointer) ∧
      ∀ a : Axle, a ≠ q.app.pointer → fit a →
        (∀ b : Axle, b ≠ q.app.pointer → fit b → distance a ≤ distance b) → p.app.pointer = a

/-- MASK (R93): the checks in their order; the accepted flags become the mask, and a changed mask is handed to the
Capacity Unit and withdraws the share of each newly masked axle while passes run (R92). The model's reading: log entry
13. -/
def Obligations.MaskWithdrawsShares : Prop :=
  ∀ (s : State) (tag : Byte) (flags : Axles Nat) (a : Axle),
    let q := s.part
    let refusal : Reason → Host.Outcome State Fault Refusal := fun r =>
      .next { s with part := q.answer kindMask tag (.refused r) }
    let newly := fun b : Axle => decide (flags.get b = 1 ∧ q.app.mask.get b = false)
    let withdrawn := fun b : Axle => newly b && (q.control.mode == .active || q.control.mode == .standingDown)
    (q.store.chassis = none → exec (.mask tag flags) s = refusal (.notReady 2 0)) ∧
    (q.store.chassis ≠ none → 1 < flags.get a → (∀ b : Axle, b < a → flags.get b ≤ 1) →
      exec (.mask tag flags) s = refusal (.badValue a.val)) ∧
    (q.store.chassis ≠ none → (∀ b : Axle, flags.get b ≤ 1) → q.axleCount ≤ a.val → flags.get a = 1 →
      (∀ b : Axle, b < a → q.axleCount ≤ b.val → flags.get b = 0) →
      exec (.mask tag flags) s = refusal (.badValue a.val)) ∧
    (q.store.chassis ≠ none → (∀ b : Axle, flags.get b ≤ 1) →
      (∀ b : Axle, q.axleCount ≤ b.val → flags.get b = 0) →
      ∃ p, exec (.mask tag flags) s = .next { s with part := p } ∧
        p = { q with app := p.app, vl := (q.answer kindMask tag .done).vl, handed := p.handed } ∧
        p.app = { q.app with
          mask := p.app.mask, shares := p.app.shares, demands := p.app.demands
          shortfall := p.app.shortfall } ∧
        (∀ b : Axle, (p.app.mask.get b = true ↔ flags.get b = 1) ∧
          p.app.shares.get b = (if withdrawn b then 0 else q.app.shares.get b) ∧
          p.app.demands.get b = (if withdrawn b then 0 else q.app.demands.get b)) ∧
        p.app.shortfall = q.app.shortfall +
          (Axle.all.map fun b => if withdrawn b then q.app.shares.get b else 0).sum ∧
        p.handed = q.handed ++ (if p.app.mask = q.app.mask then [] else [.recompute]) ++
          (Axle.all.filter withdrawn).map fun b => .pressureDemand b 0)

/-! ## The brake temperatures -/

/-- THERMAL_UPDATE, step 1 (R103 to R109): while motion is FRESH every axle is heated by the force used of its channel
state and cooled toward the ambient, never below it by cooling and never above 1500 °C; otherwise every temperature is
held. The timer is restarted from the expiry just taken. THERMAL_UPDATE, steps 2 and 3 (R110 to R112): the tier rises
at once to the highest threshold reached, and falls while the temperature lies below its threshold less the
hysteresis; a changed tier sets its flag, and is handed on once. -/
def Obligations.ThermalUpdateHeatsAndCools : Prop :=
  (∀ (s : State) (t : Timer), s.part.thermal.timer = some t → t.interval ≤ (s.part.now - t.start).toNat →
    let q := s.part
    let fresh := q.motion.freshness = .fresh
    let loads := (Axle.all.map fun b => if b.val < q.axleCount then (q.axleDesc b).load else 0).sum
    ∃ p, exec .thermalUpdate s = .next { s with part := p } ∧
      p = { q with thermal := p.thermal, app := p.app, flags := p.flags, handed := p.handed } ∧
      p.thermal.timer = some ⟨t.start + BitVec.ofNat 32 t.interval, 100⟩ ∧
      p.thermal.running = decide fresh ∧
      p.thermal.ambientUsed =
        (if fresh then q.motion.road.elim 20 (·.ambient) else q.thermal.ambientUsed) ∧
      (¬ fresh → ∀ a : Axle, (p.thermal.axles.get a).temp = (q.thermal.axles.get a).temp ∧
        (p.thermal.axles.get a).forceUsed = (q.thermal.axles.get a).forceUsed) ∧
      (fresh → ∀ c, q.store.chassis = some c → ∀ d, q.motion.road = some d →
        ∀ a : Axle, a.val < c.axleCount →
          let old := (q.thermal.axles.get a).temp
          let new := (p.thermal.axles.get a).temp
          let force := if (q.chan.get a).state = some .commanded then q.app.shares.get a
            else q.demand.pedalForce * (q.axleDesc a).load / loads
          let heating : Int :=
            (force * d.reference * 10 + (q.axleDesc a).heatCap - 1) / (q.axleDesc a).heatCap
          let above := old - d.ambient * 1000
          let k : Int := c.k0 + c.k1 * d.reference / 100
          (p.thermal.axles.get a).forceUsed = force ∧
            (above ≤ 0 → new = min (old + heating) 1500000) ∧
            (0 < above → new = min (old + heating - min (above * k / 100000) above) 1500000) ∧
            (old ≤ 1500000 → d.ambient * 1000 ≤ 1500000 → min old (d.ambient * 1000) ≤ new))) ∧
  (∀ (s : State) (t : Timer), s.part.thermal.timer = some t → t.interval ≤ (s.part.now - t.start).toNat →
    let q := s.part
    let threshold := fun x : Tier =>
      match x with
      | .normal => (-40000000 : Int)
      | .warm => q.setting idWarm * 1000
      | .hot => q.setting idHot * 1000
      | .fade => q.setting idFade * 1000
    let order := [Tier.normal, .warm, .hot, .fade]
    q.setting idWarm < q.setting idHot → q.setting idHot < q.setting idFade →
    (∀ a : Axle, -40000 ≤ (q.thermal.axles.get a).temp ∧ -40 ≤ q.ambient) →
    ∃ p, exec .thermalUpdate s = .next { s with part := p } ∧
      let changed := Axle.all.any fun a =>
        decide ((p.thermal.axles.get a).tier ≠ (q.thermal.axles.get a).tier)
      (∀ a : Axle, a.val < q.axleCount →
        let old := (q.thermal.axles.get a).tier
        let n := p.thermal.axles.get a
        (∀ x ∈ order, threshold x ≤ n.temp → order.idxOf x ≤ order.idxOf n.tier) ∧
          (order.idxOf old < order.idxOf n.tier → threshold n.tier ≤ n.temp) ∧
          (order.idxOf n.tier ≤ order.idxOf old →
            threshold n.tier - q.setting idHysteresis * 1000 ≤ n.temp ∧
            ∀ x ∈ order, order.idxOf n.tier < order.idxOf x → order.idxOf x ≤ order.idxOf old →
              n.temp < threshold x - q.setting idHysteresis * 1000) ∧
          n.changed = ((q.thermal.axles.get a).changed || decide (n.tier ≠ old))) ∧
      (∀ a : Axle, q.axleCount ≤ a.val → p.thermal.axles.get a = q.thermal.axles.get a) ∧
      p.handed = q.handed ++ (if changed then [.recompute] else []) ∧
      p.app = { q.app with alarm := p.app.alarm } ∧
      ((changed = false ∨ q.control.mode = .active ∨ q.control.mode = .standingDown) →
        p.app = q.app ∧ p.flags = q.flags) ∧
      (changed = true → q.control.mode ≠ .active → q.control.mode ≠ .standingDown →
        (p.app.alarm = .raised ↔
          ∃ a : Axle, a.val < q.axleCount ∧ (p.thermal.axles.get a).tier = .fade) ∧
        p.flags = { q.flags with
          alarmRaised := q.flags.alarmRaised || decide (q.app.alarm = .clear ∧ p.app.alarm = .raised)
          alarmCleared := q.flags.alarmCleared || decide (q.app.alarm = .raised ∧ p.app.alarm = .clear) }))

/-- SEED_TEMPS (R114): the checks in their order; each axle's temperature is the limited one, its tier the rising tier without
hysteresis, and its flag is set; a changed tier is handed on. -/
def Obligations.SeedTempsSetsEveryAxle : Prop :=
  ∀ (s : State) (tag : Byte) (temps : List Int),
    let q := s.part
    let refusal : Reason → Host.Outcome State Fault Refusal := fun r =>
      .next { s with part := q.answer kindSeedTemps tag (.refused r) }
    ((temps.length < 2 ∨ 4 < temps.length) → exec (.seedTemps tag temps) s = refusal .badLength) ∧
    (2 ≤ temps.length → temps.length ≤ 4 →
      (q.control.mode ≠ .config → q.control.mode ≠ .standby →
        exec (.seedTemps tag temps) s = refusal .mode) ∧
      (q.control.mode = .config ∨ q.control.mode = .standby →
        (q.store.chassis = none → exec (.seedTemps tag temps) s = refusal (.notReady 2 0)) ∧
        (q.store.chassis ≠ none → temps.length ≠ q.axleCount →
          exec (.seedTemps tag temps) s = refusal .badLength) ∧
        (q.store.chassis ≠ none → temps.length = q.axleCount →
          let limited := fun a : Axle => max (-40) (min 1000 (temps.getD a.val 0))
          ∃ p, exec (.seedTemps tag temps) s = .next { s with part := p } ∧
            p = { q with
              thermal := { q.thermal with axles := p.thermal.axles }
              app := { q.app with alarm := p.app.alarm }
              flags := p.flags
              handed := p.handed
              vl := (q.answer kindSeedTemps tag
                (if temps.all fun x => decide (-40 ≤ x ∧ x ≤ 1000) then .done else .applied true)).vl } ∧
            (∀ a : Axle, q.axleCount ≤ a.val → p.thermal.axles.get a = q.thermal.axles.get a) ∧
            (∀ a : Axle, a.val < q.axleCount →
              p.thermal.axles.get a =
                { temp := limited a * 1000
                  tier :=
                    if (q.setting idFade : Int) ≤ limited a then .fade
                    else if (q.setting idHot : Int) ≤ limited a then .hot
                    else if (q.setting idWarm : Int) ≤ limited a then .warm
                    else .normal
                  changed := true
                  forceUsed := (q.thermal.axles.get a).forceUsed }) ∧
            (let changed := ∃ a : Axle, (p.thermal.axles.get a).tier ≠ (q.thermal.axles.get a).tier
             p.handed = q.handed ++ (if changed then [.recompute] else []) ∧
              (¬ changed → p.app = q.app ∧ p.flags = q.flags) ∧
              (changed → (p.app.alarm = .raised ↔
                ∃ a : Axle, a.val < q.axleCount ∧ (p.thermal.axles.get a).tier = .fade))))))

/-! ## The retarder -/

/-- RETARDER_WANT: Retarder Control takes the oldest want handed to it (R119 to R124). The command is recorded and
followed in ACTIVE; an engage wish in DRAINED is admitted while fewer than four engagements lie in the window; FILLING
is released by a smaller want; and ACTIVE by a run of release passes that lasts the release delay. The model's
reading: log entry 9. -/
def Obligations.RetarderFollowsTheWant : Prop :=
  ∀ (s : State) (l r : List Handoff) (want command : Nat),
    s.part.handed = l ++ .retarderWant want command :: r → (∀ h ∈ l, h.lane ≠ .retarderWant) →
    let q : Part := { s.part with handed := l ++ r }
    let old := s.part.ret
    let ret := { old with handedCommand := command }
    let told := if old.lastSent = ⟨true, command⟩ then q else q.postRetarder ⟨true, command⟩
    let ends : Part → RetarderControl → Prop := fun p x =>
      exec .retarderWant s = .next { s with part := { p with ret := x } }
    let released : Part → Prop := fun p => ends (p.postRetarder ⟨false, 0⟩)
      { ret with
        state := .draining, fillTimer := none, releaseMark := none, lastSent := ⟨false, 0⟩
        drainTimer := some ⟨q.now, q.setting idDrainTimeout⟩ }
    let wish := q.setting idEngageThreshold ≤ want
    let able := q.control.mode = .active ∧ q.retarderFitted = true ∧ q.retarderPresent = true ∧
      q.retarderReported = false
    let kept := old.engagements.filter fun t =>
      decide ((q.now - t).toNat < q.setting idEngagementWindow * 1000)
    let releasePass := q.control.mode = .active ∧ want = 0 ∨ q.control.mode = .standingDown ∧ command = 0
    (old.state = .drained →
      (¬ (wish ∧ able) → ends q ret) ∧
      (wish → able → kept.length < 4 →
        ends (if old.lastSent = ⟨true, 0⟩ then q else q.postRetarder ⟨true, 0⟩)
          { ret with
            state := .filling, engagements := kept ++ [q.now], heldEpisode := false, drainTimer := none
            releaseMark := none, lastSent := ⟨true, 0⟩
            fillTimer := some ⟨q.now, q.setting idFillTimeout⟩ }) ∧
      (wish → able → 4 ≤ kept.length →
        ends { q with flags := { q.flags with windowHeld := q.flags.windowHeld || !old.heldEpisode } }
          { ret with engagements := kept, heldEpisode := true })) ∧
    (old.state = .filling →
      (q.control.mode = .active → ¬ wish → released q) ∧
      (q.control.mode = .standingDown → released q) ∧
      (q.control.mode = .active → wish → ends q ret) ∧
      (q.control.mode ≠ .active → q.control.mode ≠ .standingDown → ends q ret)) ∧
    (old.state = .active →
      (¬ releasePass → ends told { ret with releaseMark := none, lastSent := ⟨true, command⟩ }) ∧
      (releasePass → old.releaseMark = none →
        ends told { ret with releaseMark := some q.now, lastSent := ⟨true, command⟩ }) ∧
      (releasePass → ∀ m, old.releaseMark = some m →
        ((q.now - m).toNat < q.setting idReleaseDelay →
          ends told { ret with lastSent := ⟨true, command⟩ }) ∧
        (q.setting idReleaseDelay ≤ (q.now - m).toNat → released told))) ∧
    (old.state = .draining ∨ old.state = .faulted → ends q ret)

/-- RETARDER_NODE_STATE and RETARDER_NODE_LOST: Retarder Control takes what its node handed it (R123 to R127). FILLED
completes a fill, DRAINED a drain; a unit that empties in ACTIVE, or holds oil in DRAINED, is drained; and a lost unit
is counted as empty. FILL_TIMER_EXPIRY and DRAIN_TIMER_EXPIRY (R123, R125): the trip fault is raised, both timers
stop, the retarder is FAULTED, and its RELEASE target is posted when the last target sent was another. The model's
reading: log entries 9 and 10. -/
def Obligations.RetarderFollowsItsNode : Prop :=
  (∀ (s : State) (l r : List Handoff) (st : NodeState), (∀ h ∈ l, h.lane ≠ .retarderLink) →
    let q : Part := { s.part with handed := l ++ r }
    let ret := q.ret
    let enters : RetarderState → RetarderTarget → Part := fun x t =>
      { (if ret.lastSent = t then q else q.postRetarder t) with ret := { ret with
        state := x, fillTimer := none, drainTimer := none, releaseMark := none, lastSent := t } }
    let drains : Part := { q.postRetarder ⟨false, 0⟩ with ret := { ret with
      state := .draining, fillTimer := none, releaseMark := none, lastSent := ⟨false, 0⟩
      drainTimer := some ⟨q.now, q.setting idDrainTimeout⟩ } }
    (s.part.handed = l ++ .retarderNodeState st :: r →
      exec .retarderNodeState s = .next { s with part :=
        if ret.state = .filling ∧ st = .filled then enters .active ⟨true, ret.handedCommand⟩
        else if ret.state = .draining ∧ st = .drained then enters .drained ⟨false, 0⟩
        else if ret.state = .active ∧ (st = .drained ∨ st = .draining) then drains
        else if ret.state = .drained ∧ st ≠ .drained then drains
        else q }) ∧
    (s.part.handed = l ++ .retarderNodeLost :: r →
      exec .retarderNodeLost s = .next { s with part :=
        (if ret.state = .drained ∨ ret.state = .faulted then q
          else enters .drained ⟨false, 0⟩).chooseNext })) ∧
  (∀ (s : State) (t : Timer), t.interval ≤ (s.part.now - t.start).toNat →
    let q := s.part
    let tripped : FaultCode → Part := fun code =>
      let f := q.faults.occurred q.now .retarder code
      let p : Part := { q with
        faults := f.1, flags := { q.flags with faultsChanged := q.flags.faultsChanged || f.2 } }
      { (if q.ret.lastSent = ⟨false, 0⟩ then p else p.postRetarder ⟨false, 0⟩) with ret := { q.ret with
        state := .faulted, fillTimer := none, drainTimer := none, releaseMark := none
        lastSent := ⟨false, 0⟩ } }
    (q.ret.fillTimer = some t → exec .fillTimerExpiry s = .next { s with part := tripped .fillTimeout }) ∧
    (q.ret.drainTimer = some t → exec .drainTimerExpiry s = .next { s with part := tripped .drainTimeout }))

/-! ## The flap -/

/-- EXHAUST_WANT: Flap Control takes the oldest want handed to it (R132, R133). A CLOSE want closes an OPEN flap past its
dwell; an OPEN want opens a CLOSING or CLOSED flap at once, straight to OPEN when the switch then shows open, whether
or not its change has been taken (R135); every other state is left. The model's reading: log entries 9 and 29. -/
def Obligations.FlapFollowsTheWant : Prop :=
  ∀ (s : State) (l r : List Handoff) (want : FlapWant),
    s.part.handed = l ++ .exhaustWant want :: r → (∀ h ∈ l, h.lane ≠ .exhaustWant) →
    let f := s.part.flap
    let now := s.part.now
    let timer := some ⟨now, s.part.setting idFlapTimeout⟩
    let left : Host.Outcome State Fault Refusal := .next { s with part := { s.part with handed := l ++ r } }
    let moves : FlapControl → Host.Outcome State Fault Refusal := fun x =>
      .next { s with part := { s.part with flap := x, handed := l ++ r ++ [.recompute] } }
    (want = .close → f.state = .opened → s.part.setting idFlapDwell ≤ (now - f.enteredOpen).toNat →
      exec .exhaustWant s = moves { f with state := .closing, solenoid := true, timer := timer }) ∧
    (want = .close → f.state = .opened → (now - f.enteredOpen).toNat < s.part.setting idFlapDwell →
      exec .exhaustWant s = left) ∧
    (want = .close → f.state ≠ .opened → exec .exhaustWant s = left) ∧
    (want = .open_ → f.state = .closing ∨ f.state = .closed →
      exec .exhaustWant s = if s.part.fswClosed
        then moves { f with state := .opening, solenoid := false, timer := timer }
        else moves { f with state := .opened, solenoid := false, enteredOpen := now, timer := none }) ∧
    (want = .open_ → f.state ≠ .closing → f.state ≠ .closed → exec .exhaustWant s = left)

/-- FLAP_SWITCH_CHANGE and FLAP_TIMER_EXPIRY (R131, R134, R135), each by the flap state, while the exhaust is fitted; a
switch that is not watched only changes its pin. Each change of FSW is acted on: with the event that brings it, or,
when that event leaves it to wait, with the next event, before a new level. The model's reading: log entry 29. -/
def Obligations.FlapFollowsItsSwitch : Prop :=
  ∀ (s : State) (closed taken : Bool) (t : Timer),
    let q := s.part
    let fitted := q.store.chassis.map (·.exhaustFitted) = some 1
    let moves : Part → FlapControl → Part := fun p x =>
      { p with flap := x, handed := p.handed ++ [.recompute] }
    let trips : Part → FaultCode → Part := fun p code =>
      let x := p.faults.occurred q.now .flap code
      moves { p with
          faults := x.1, flags := { p.flags with faultsChanged := p.flags.faultsChanged || x.2 } }
        { p.flap with state := .faulted, solenoid := false, timer := none }
    let acts : Part → Part := fun p =>
      let seen : Part := { p with flap := { p.flap with switchClosed := p.fswClosed } }
      if ¬ fitted ∨ p.flap.switchClosed = p.fswClosed then p
      else match p.flap.state, p.fswClosed with
        | .opened, true => trips seen .stuckClosed
        | .opened, false => seen
        | .closing, true => moves seen { seen.flap with state := .closed, timer := none }
        | .closing, false => seen
        | .closed, true => seen
        | .closed, false => trips seen .stuckOpen
        | .opening, true => seen
        | .opening, false => moves seen { seen.flap with
            state := .opened, solenoid := false, enteredOpen := q.now, timer := none }
        | .faulted, true => { seen with handed := seen.handed ++ [.recompute] }
        | .faulted, false => { seen with handed := seen.handed ++ [.recompute] }
    let arrives : Part := if closed = q.fswClosed then q else { acts q with fswClosed := closed }
    exec (.flapSwitchChange ⟨closed, taken⟩) s =
        .next { s with part := if taken then acts arrives else arrives } ∧
    (q.flap.timer = some t → t.interval ≤ (q.now - t.start).toNat → fitted →
      (q.flap.state = .closing → exec .flapTimerExpiry s = .next { s with part := trips q .stuckOpen }) ∧
      (q.flap.state = .opening → exec .flapTimerExpiry s = .next { s with part := trips q .stuckClosed }))

/-! ## The channels -/

/-- PRESSURE_DEMAND: a channel takes the oldest demand handed to it (R143, R148). While passes run a COMMANDED channel
follows it, and an available BACKUP channel enters COMMANDED with it, even at 0; a REMOTE one posts a target that it
has not sent. The model's reading: log entries 9 and 32. -/
def Obligations.ChannelTakesTheDemand : Prop :=
  ∀ (s : State) (a : Axle) (l r : List Handoff) (kPa : Nat),
    s.part.handed = l ++ .pressureDemand a kPa :: r → (∀ h ∈ l, h.lane ≠ .pressure a) →
    let q : Part := { s.part with handed := l ++ r }
    let c := s.part.chan.get a
    let passes := s.part.control.mode = .active ∨ s.part.control.mode = .standingDown
    let put : Channel → Part := fun x => { q with chan := s.part.chan.set a x }
    let commands : Channel → Prop := fun x =>
      (∀ addr, c.route ≠ .remote addr) →
        exec (.pressureDemand a) s = .next { s with part := put x }
    let sent := some (PressureTarget.pressure kPa)
    let told : Channel → Nat → Part := fun x addr => if x.lastSent = sent then put x
      else (put { x with lastSent := sent }).post addr (.axleDemand (.pressure kPa))
    let posts : Channel → Prop := fun x => ∀ addr, c.route = .remote addr →
      exec (.pressureDemand a) s = .next { s with part := told x addr }
    let entered := { c with
      state := some .commanded, lastDemand := kPa, switched := c.switched || decide (c.route = .localStage) }
    (passes → c.state = some .commanded →
      commands { c with lastDemand := kPa } ∧ posts { c with lastDemand := kPa }) ∧
    (passes → c.state = some .backup → c.available = true → commands entered ∧ posts entered) ∧
    ((¬ passes ∨ c.state ≠ some .commanded ∧ (c.state ≠ some .backup ∨ c.available = false)) →
      exec (.pressureDemand a) s = .next { s with part := q })

/-- LOCAL_SAMPLE, at the end of its 5 ms (R146, R147, R150): a sample in whose time the output was switched is discarded;
one outside 0 to 1200 kPa raises SENSOR and takes the channel out of COMMANDED; one within ends SENSOR, is the
measured pressure, and is judged against the last demand. A channel that is no longer available loses its share (R92,
R142, R144). TRACKING_TIMER_EXPIRY (R151): the trip TRACKING is raised, the channel is FAULTED with no demand, it is
not available, and its share is withdrawn while passes run; a remote channel posts the release target. The model's
reading: log entries 9, 13 and 18. -/
def Obligations.LocalSamplesAndTrackingAreJudged : Prop :=
  (∀ (s : State) (a : Axle) (kPa : Int) (t : Timer),
    let q := s.part
    let c := q.chan.get a
    c.route = .localStage → c.sampling = some t → t.interval ≤ (q.now - t.start).toNat →
    let next := some (⟨q.now, 5⟩ : Timer)
    let passes := q.control.mode = .active ∨ q.control.mode = .standingDown
    (c.switched = true → exec (.localSample a kPa) s = .next { s with part := { q with
      chan := q.chan.set a { c with sampling := next, switched := false } } }) ∧
    (c.switched = false →
      ∃ p, exec (.localSample a kPa) s = .next { s with part := p } ∧
        let n := p.chan.get a
        p = { q with
          chan := q.chan.set a n, app := p.app, faults := p.faults, flags := p.flags, handed := p.handed } ∧
        n.route = c.route ∧ n.sampling = next ∧ n.lastSent = c.lastSent ∧
        (kPa < 0 ∨ 1200 < kPa →
          n.sensorOut = true ∧ n.measured = c.measured ∧ n.available = false ∧
          p.faults = (if c.sensorOut then q.faults else (q.faults.occurred q.now (.axle a) .sensor).1) ∧
          (c.state = some .commanded → n.state = some .backup ∧ n.lastDemand = 0 ∧ n.tracking = none ∧
            n.switched = true) ∧
          (c.state ≠ some .commanded → n.state = c.state ∧ n.lastDemand = c.lastDemand ∧
            n.tracking = c.tracking ∧ n.switched = false)) ∧
        (0 ≤ kPa → kPa ≤ 1200 →
          n.sensorOut = false ∧ n.measured = some kPa.toNat ∧ n.available = decide (c.state ≠ some .faulted) ∧
          p.faults = (if c.sensorOut then (q.faults.ended (.axle a) .sensor).1 else q.faults) ∧
          n.state = c.state ∧ n.lastDemand = c.lastDemand ∧ n.switched = false ∧
          n.tracking = (if c.state ≠ some .commanded then c.tracking
            else if (kPa - c.lastDemand).natAbs ≤ q.setting idPressureTolerance then none
            else if c.tracking = none then some ⟨q.now, q.setting idTrackingTimeout⟩ else c.tracking)) ∧
        (let lost := c.available = true ∧ n.available = false ∧ passes
         p.handed = q.handed ++ (if n.available = c.available then [] else [.recompute]) ++
            (if lost then [.pressureDemand a 0] else []) ∧
          p.app = if lost
            then { q.app with
              shortfall := q.app.shortfall + q.app.shares.get a
              shares := q.app.shares.set a 0
              demands := q.app.demands.set a 0 }
            else q.app))) ∧
  (∀ (s : State) (a : Axle) (t : Timer),
    let q := s.part
    let c := q.chan.get a
    c.tracking = some t → t.interval ≤ (q.now - t.start).toNat → c.state = some .commanded →
    let passes := q.control.mode = .active ∨ q.control.mode = .standingDown
    ∃ p, exec (.trackingTimerExpiry a) s = .next { s with part := p } ∧
      p = { q with
        chan := p.chan, link := p.link, app := p.app, handed := p.handed
        faults := (q.faults.occurred q.now (.axle a) .tracking).1
        flags := { q.flags with faultsChanged :=
          q.flags.faultsChanged || (q.faults.occurred q.now (.axle a) .tracking).2 } } ∧
      p.chan = q.chan.set a { c with
        state := some .faulted, lastDemand := 0, tracking := none, available := false
        switched := c.switched || decide (c.route = .localStage)
        lastSent := (p.chan.get a).lastSent } ∧
      (∀ addr, c.route = .remote addr → (p.chan.get a).lastSent = some .release ∧
        p.link = if c.lastSent = some .release then q.link
          else (q.post addr (.axleDemand .release)).link) ∧
      ((∀ addr, c.route ≠ .remote addr) → (p.chan.get a).lastSent = c.lastSent ∧ p.link = q.link) ∧
      p.handed = q.handed ++ (if c.available then [.recompute] else []) ++
        (if c.available = true ∧ passes then [.pressureDemand a 0] else []) ∧
      p.app = (if c.available = true ∧ passes
        then { q.app with
          shortfall := q.app.shortfall + q.app.shares.get a
          shares := q.app.shares.set a 0
          demands := q.app.demands.set a 0 }
        else q.app))

/-- REMOTE_MEASUREMENT and CHANNEL_PRESENCE_CHANGE: a channel takes what its node handed it (R149, R150). The measured
pressure is replaced, and judged in COMMANDED; a lost node makes BACKUP and COMMANDED UNREACHABLE with the release
target posted; a node found makes UNREACHABLE BACKUP; FAULTED stays at either; a channel no longer available loses its
share while passes run. The model's reading: log entries 9, 10, 11 and 13. -/
def Obligations.RemoteChannelFollowsItsNode : Prop :=
  ∀ (s : State) (a : Axle) (l r : List Handoff) (kPa addr : Nat), (∀ h ∈ l, h.lane ≠ .channelLink a) →
    let q : Part := { s.part with handed := l ++ r }
    let c := s.part.chan.get a
    let far := s.part.setting idPressureTolerance < ((kPa : Int) - c.lastDemand).natAbs
    let ready := c.state ≠ some .faulted ∧ s.part.nodeAvailable addr = true
    (s.part.handed = l ++ .remoteMeasurement a kPa :: r →
      exec (.remoteMeasurement a) s = .next { s with part := { q with chan := s.part.chan.set a { c with
        measured := some kPa
        tracking :=
          if c.state ≠ some .commanded then c.tracking
          else if ¬ far then none
          else if c.tracking = none then some ⟨s.part.now, s.part.setting idTrackingTimeout⟩
          else c.tracking } } }) ∧
    (c.route = .remote addr → s.part.handed = l ++ .channelPresence a false :: r →
      ∃ p, exec (.channelPresenceChange a) s = .next { s with part := p } ∧
        let n := p.chan.get a
        p = { q with chan := s.part.chan.set a n, link := p.link, app := p.app, handed := p.handed } ∧
        n.route = c.route ∧ n.sensorOut = c.sensorOut ∧ n.sampling = c.sampling ∧
        (c.state = some .backup ∨ c.state = some .commanded →
          n.state = some .unreachable ∧ n.lastDemand = 0 ∧ n.tracking = none ∧ n.measured = none ∧
            n.lastSent = some .release ∧ n.available = false ∧
            (c.lastSent ≠ some .release → p.link =
              ({ q with handed := p.handed }.post addr (.axleDemand .release)).chooseNext.link)) ∧
        (c.state = some .faulted → n.state = some .faulted ∧ n.available = false ∧
          n.measured = c.measured ∧ n.lastSent = c.lastSent) ∧
        (let lost := c.available = true ∧ n.available = false ∧
            (s.part.control.mode = .active ∨ s.part.control.mode = .standingDown)
         p.handed = l ++ r ++ (if n.available = c.available then [] else [.recompute]) ++
            (if lost then [.pressureDemand a 0] else []) ∧
          p.app = if lost
            then { s.part.app with
              shortfall := s.part.app.shortfall + s.part.app.shares.get a
              shares := s.part.app.shares.set a 0
              demands := s.part.app.demands.set a 0 }
            else s.part.app)) ∧
    (c.route = .remote addr → s.part.handed = l ++ .channelPresence a true :: r →
      c.state = some .unreachable ∨ c.state = some .backup ∨ c.state = some .faulted → c.available = false →
      ∃ p, exec (.channelPresenceChange a) s = .next { s with part := p } ∧
        p = { q with
          chan := s.part.chan.set a { c with
            state := if c.state = some .faulted then some .faulted else some .backup
            available := decide ready }
          link := p.link
          handed := p.handed } ∧
        p.handed = l ++ r ++ if ready then [.recompute] else [])

/-- ROUTE (R140, R141, R156): the checks in their order; the accepted routes are held; a changed channel is reset and an
unchanged one kept; the node table holds the routed addresses in order, an address of unchanged use with its entry
kept and another UNKNOWN; SENSOR of a changed channel, and NODE_LOST and REPORTED of a removed address, stop being
present; a removed address loses its queued requests, and a transaction in flight to it its node; the idle link has
chosen (R159); and a changed retarder route acts as a loss of the node. A held clear that waits for removed addresses
alone is applied (R186), and another waits on for the kept ones. The model's reading: log entries 10, 13, 15, 16, 17,
19, 20 and 31. -/
def Obligations.RouteResetsWhatChanged : Prop :=
  ∀ (s : State) (tag : Byte) (fields : Axles RouteField) (retarder : Nat),
    let q := s.part
    let quiet : State := { s with part := { q with faults := { q.faults with held := none } } }
    let refusal : Reason → Host.Outcome State Fault Refusal := fun r =>
      .next { s with part := q.answer kindRoute tag (.refused r) }
    let kindOk := fun f : RouteField =>
      (f.kind = some .unrouted ∨ f.kind = some .localStage) ∧ f.addr = 0 ∨
        f.kind = some .remote ∧ 1 ≤ f.addr ∧ f.addr ≤ 7
    let ok := fun a : Axle =>
      kindOk (fields.get a) ∧ (a.val < q.axleCount ∨ (fields.get a).kind = some .unrouted)
    let again := fun a : Axle => (fields.get a).kind = some .remote ∧
      ∃ b : Axle, b < a ∧ (fields.get b).kind = some .remote ∧ (fields.get b).addr = (fields.get a).addr
    let retarderOk := retarder = 0 ∨
      retarder ≤ 7 ∧ q.store.chassis.map (·.retarderFitted) = some 1
    let retarderAgain := retarder ≠ 0 ∧ ∃ b : Axle, (fields.get b).kind = some .remote ∧ (fields.get b).addr = retarder
    let allowed := (q.control.mode = .config ∨ q.control.mode = .standby) ∧ q.store.chassis ≠ none
    let ends := fun r : Reason => exec (.route tag fields retarder) s = refusal r
    (q.control.mode ≠ .config → q.control.mode ≠ .standby → ends .mode) ∧
    (q.control.mode = .config ∨ q.control.mode = .standby → q.store.chassis = none →
      ends (.notReady 2 0)) ∧
    (allowed →
      (∀ a : Axle, ¬ ok a → (∀ b : Axle, b < a → ok b) → ends (.badValue a.val)) ∧
      ((∀ a : Axle, ok a) →
        (¬ retarderOk → ends (.badValue 4)) ∧
        (retarderOk → ∀ a : Axle, again a → (∀ b : Axle, b < a → ¬ again b) → ends (.badValue a.val)) ∧
        (retarderOk → (∀ a : Axle, ¬ again a) → retarderAgain → ends (.badValue 4)) ∧
        (retarderOk → (∀ a : Axle, ¬ again a) → ¬ retarderAgain →
          let routeOf : Axle → Route := fun a =>
            match (fields.get a).kind with
            | some .remote => Route.remote (fields.get a).addr
            | some .localStage => .localStage
            | some .unrouted | none => .unrouted
          let newRet := if retarder = 0 then none else some retarder
          let use := fun x : Nat =>
            if newRet = some x then some NodeUse.retarderUnit
            else (Axle.all.find? fun a => decide (routeOf a = .remote x)).map NodeUse.axleModule
          let kept := fun x : Nat =>
            (q.link.nodes.find? fun e => e.addr == x).any fun e => decide (use x = some e.use)
          let changed := fun a : Axle => decide ((q.chan.get a).route ≠ routeOf a)
          let moved := decide (q.retRoute ≠ newRet)
          let ended : List (Source × FaultCode) :=
            (Axle.all.filter fun a => changed a && (q.chan.get a).sensorOut).map (fun a => (.axle a, .sensor)) ++
            q.link.nodes.flatMap fun e => if kept e.addr then [] else
              (if e.lostPresent then [(.node e.addr, .nodeLost)] else []) ++
                (if e.reported then [(.node e.addr, .reported)] else [])
          let opened : Request → LinkPhase := fun r => .inFlight ⟨r, q.now, none, false⟩
          ∃ p, exec (.route tag fields retarder) quiet = .next { s with part := p } ∧
            (p.control = q.control ∧ p.store = q.store ∧ p.demand = q.demand ∧ p.motion = q.motion ∧
              p.slip = q.slip ∧ p.thermal = q.thermal ∧ p.now = q.now ∧ p.fswClosed = q.fswClosed ∧
              p.app = q.app ∧ p.flap = q.flap ∧ p.vl = (q.answer kindRoute tag .done).vl ∧
              p.retRoute = newRet) ∧
            (∀ a : Axle, (p.chan.get a).route = routeOf a ∧
              (changed a = false → p.chan.get a = q.chan.get a) ∧
              (changed a = true →
                (p.chan.get a).lastDemand = 0 ∧ (p.chan.get a).measured = none ∧
                (p.chan.get a).sensorOut = false ∧ (p.chan.get a).tracking = none ∧
                (p.chan.get a).switched = false ∧
                (p.chan.get a).state = (if routeOf a = .unrouted then none else some .backup) ∧
                (p.chan.get a).available = decide (routeOf a = .localStage ∨
                  ∃ x ∈ allAddrs, routeOf a = .remote x ∧ p.nodeAvailable x = true) ∧
                (p.chan.get a).sampling = (if routeOf a = .localStage then some ⟨q.now, 5⟩ else none) ∧
                (p.chan.get a).lastSent = if routeOf a = .unrouted ∨ routeOf a = .localStage then none
                  else some .release)) ∧
            p.faults = ended.foldl (fun f x => (f.ended x.1 x.2).1) quiet.part.faults ∧
            p.flags = { q.flags with faultsChanged := q.flags.faultsChanged ||
              (q.faults.entries.any fun e => e.present && ended.contains (e.source, e.code)) } ∧
            p.link.nodes.map (fun e => (e.addr, e.use)) =
              allAddrs.filterMap (fun x => (use x).map fun u => (x, u)) ∧
            (∀ e ∈ p.link.nodes, e ∈ q.link.nodes ∨
              e = ⟨e.addr, e.use, .unknown, 0, false, 0, ⟨q.now, q.setting idPollInterval⟩, false⟩) ∧
            (∀ e ∈ q.link.nodes, (q.link.nodes.find? fun x => x.addr == e.addr) = some e →
              1 ≤ e.addr → e.addr ≤ 7 → use e.addr = some e.use → e ∈ p.link.nodes) ∧
            (NodesMatchRoutes q → QueueAddressed q →
              (∀ r ∈ p.link.queue, r ∈ q.link.queue ∧ kept r.addr = true ∨
                kept r.addr = false ∧ r.enqueued = q.now ∧
                  (r.payload = .axleDemand .release ∨ r.payload = .retarderDemand ⟨false, 0⟩)) ∧
              (∀ r ∈ q.link.queue, kept r.addr = true → r ∈ p.link.queue ∨ p.link.phase = opened r) ∧
              ∀ a : Axle, changed a = true → ∀ x, routeOf a = .remote x →
                (⟨x, q.now, .axleDemand .release⟩ : Request) ∈ p.link.queue ∨
                  p.link.phase = opened ⟨x, q.now, .axleDemand .release⟩) ∧
            (∀ t, q.link.phase = .inFlight t → p.link.phase = .inFlight { t with orphan := t.orphan ||
              (decide (∃ e ∈ q.link.nodes, e.addr = t.request.addr) && !kept t.request.addr) }) ∧
            (∀ w, q.link.phase = .abandoned w → p.link.phase = .abandoned w) ∧
            p.chooseNext = p ∧
            p.cap = (if moved then { q.cap with items := { q.cap.items with oilTemp := none } } else q.cap) ∧
            (moved = false → p.ret = q.ret) ∧
            (moved = true → p.ret =
              if q.ret.state = .filling ∨ q.ret.state = .active ∨ q.ret.state = .draining
              then { q.ret with
                lastNodeState := none, state := .drained, fillTimer := none, drainTimer := none
                releaseMark := none, lastSent := ⟨false, 0⟩ }
              else { q.ret with lastNodeState := none }) ∧
            p.handed = (q.handed.filter fun x => !(Axle.all.any fun a => changed a && x.lane == .channelLink a) &&
                !(moved && x.lane == .retarderLink)) ++
              List.replicate ((Axle.all.filter fun a => (p.chan.get a).available != (q.chan.get a).available).length +
                if moved then 1 else 0) .recompute ∧
            ∀ h, q.faults.held = some h →
              let rest := h.waiting.filter kept
              ((rest ≠ [] ∨ h.waiting = []) → exec (.route tag fields retarder) s = .next { s with part := { p with
                faults := { p.faults with held := some { h with waiting := rest } } } }) ∧
              (rest = [] → h.waiting ≠ [] →
                ∃ n, exec (.route tag fields retarder) s = .next { s with part := n } ∧
                  let first := (q.answer kindClearFaults h.tag .done).vl
                  n.vl = ({ q with vl := first }.answer kindRoute tag .done).vl ∧
                    ClearApplied { p with vl := q.vl } { n with vl := first } h.tag h.sources))))

/-! ## The actuator link -/

/-- How a posted request is placed (R157): one DEMAND and one POLL at most for a node, a newer DEMAND taking the payload
but not the place or the enqueue time of the one queued, and no POLL beside a queued request; nothing for a node not
in the table. The model's reading: log entry 10. -/
def Obligations.RequestsAreMerged : Prop :=
  ∀ (p : Part) (addr : Nat) (payload : Payload) (l r : List Request) (x : Request),
    let link := p.link
    let demand := payload ≠ .poll
    let placed : List Request → Part := fun queue => { p with link := { link with queue := queue } }
    ((∀ e ∈ link.nodes, e.addr ≠ addr) → p.post addr payload = p) ∧
    ((∃ e ∈ link.nodes, e.addr = addr) →
      (demand → (∀ y ∈ link.queue, y.addr = addr → y.payload = .poll) →
        p.post addr payload = (placed (link.queue ++ [⟨addr, p.now, payload⟩])).chooseNext) ∧
      (demand → link.queue = l ++ x :: r → x.addr = addr → x.payload ≠ .poll →
        (∀ y ∈ l ++ r, y.addr = addr → y.payload = .poll) →
        p.post addr payload = (placed (l ++ { x with payload := payload } :: r)).chooseNext) ∧
      (payload = .poll → (∀ y ∈ link.queue, y.addr ≠ addr) →
        p.post addr payload = (placed (link.queue ++ [⟨addr, p.now, .poll⟩])).chooseNext) ∧
      (payload = .poll → (∃ y ∈ link.queue, y.addr = addr) → p.post addr payload = p.chooseNext))

/-- The choice of the next request (R159). A busy link, an empty queue, and a link that waits for the owner of a lost node
(assumption 10) choose nothing. Otherwise a queued request's transaction begins: no starved request is passed over for another
that is not starved or was enqueued later, and with none starved the arbiter mode decides. -/
def Obligations.LinkNeverPassesOverStarved : Prop :=
  ∀ p : Part,
    let queue := p.link.queue
    let age := fun r : Request => (p.now - r.enqueued).toNat
    let starved := fun r : Request => p.setting idStarvation ≤ age r
    let demand := fun r : Request => r.payload ≠ .poll
    let goesBefore := fun a b : Request => age b < age a ∨ age a = age b ∧
      (a.addr < b.addr ∨ a.addr = b.addr ∧ (demand a ∨ ¬ demand b))
    let turn := fun x : Nat => match p.link.lastServed with
      | some l => if l < x then x else x + 8
      | none => x
    ((p.link.phase ≠ .idle ∨ queue = [] ∨ ∃ h ∈ p.handed, h = .retarderNodeLost ∨
        ∃ a : Axle, h = .channelPresence a false) → p.chooseNext = p) ∧
    (p.link.phase = .idle → (∀ h ∈ p.handed, h ≠ .retarderNodeLost ∧
        ∀ a : Axle, h ≠ .channelPresence a false) → queue ≠ [] →
      (p.link.nodes.map (·.addr)).Pairwise (· < ·) →
      (∀ r ∈ queue, r.addr ≤ 7 ∧ ∃ e ∈ p.link.nodes, e.addr = r.addr) →
      ∃ r ∈ queue,
        p.chooseNext = { p with link := { p.link with
          queue := queue.erase r, phase := .inFlight ⟨r, p.now, none, false⟩, lastServed := some r.addr } } ∧
        ((∃ x ∈ queue, starved x) → starved r ∧ ∀ x ∈ queue, starved x → goesBefore r x) ∧
        ((∀ x ∈ queue, ¬ starved x) →
          (p.setting idArbiterMode ≠ 1 →
            (∀ x ∈ queue, demand x → demand r) ∧
            ∀ x ∈ queue, (demand x ↔ demand r) → goesBefore r x) ∧
          (p.setting idArbiterMode = 1 →
            (∀ x ∈ queue, turn r.addr ≤ turn x.addr) ∧
            ∀ x ∈ queue, x.addr = r.addr → demand x → demand r)))

/-- COMMAND_FRAME_SENT, ABANDONED_WINDOW_END and POLL_TIMER_EXPIRY (R158, R160, R165): the answer window of 1 ms opens
when the frame has left; the link is idle at the end of an abandoned window; and a node's poll timer posts a POLL and
restarts. An answer outside the window is discarded. The model's reading: log entries 10 and 22. -/
def Obligations.LinkWindowsAndPolls : Prop :=
  ∀ (s : State) (t : Transaction) (w : Option Timer) (l r : List NodeEntry) (e : NodeEntry) (received : List Byte),
    let q := s.part
    let phase : LinkPhase → Part := fun x => { q with link := { q.link with phase := x } }
    let window := some (⟨q.now, 1⟩ : Timer)
    let ends : Part → Host.Outcome State Fault Refusal := fun p => .next { s with part := p }
    let polled : Part := { q with link := { q.link with
      nodes := l ++ { e with poll := ⟨q.now, q.setting idPollInterval⟩ } :: r } }
    (q.link.phase = .inFlight t → exec .commandFrameSent s =
      ends (phase (.inFlight { t with window := if t.window = none then window else t.window }))) ∧
    (q.link.phase = .abandoned w → exec .commandFrameSent s =
      ends (phase (.abandoned (if w = none then window else w)))) ∧
    (q.link.phase = .idle → exec .commandFrameSent s = .next s) ∧
    (q.link.phase = .abandoned w → (w.any fun x => decide (x.interval ≤ (q.now - x.start).toNat)) = true →
      exec .abandonedWindowEnd s = ends (phase .idle).chooseNext) ∧
    (q.link.nodes = l ++ e :: r → (∀ x ∈ l ++ r, x.addr ≠ e.addr) →
      (e.poll.interval ≤ (q.now - e.poll.start).toNat →
        exec (.pollTimerExpiry e.addr) s = ends (polled.post e.addr .poll)) ∧
      ((q.now - e.poll.start).toNat < e.poll.interval → exec (.pollTimerExpiry e.addr) s = .next s)) ∧
    ((q.link.phase = .idle ∨ q.link.phase = .abandoned w ∨ q.link.phase = .inFlight t ∧
        (t.window.any fun x => decide ((q.now - x.start).toNat ≤ x.interval)) = false) →
      exec (.actuatorAnswer received) s = .next s)

/-- ACTUATOR_ANSWER, a good answer within the window (R161, R162, R164): the misses are forgotten, the poll timer is
restarted, the node is PRESENT, the fault code is judged, what the answer carries is handed on in that order, and the
idle link chooses again. The model's reading: log entries 10, 11, 14 and 17. -/
def Obligations.GoodAnswerIsHandedOn : Prop :=
  ∀ (s : State) (t : Transaction) (w : Timer) (l r : List NodeEntry) (e : NodeEntry) (b1 b2 b3 f : Byte)
    (a : Axle),
    let q := s.part
    q.link.phase = .inFlight t → t.window = some w → (q.now - w.start).toNat ≤ w.interval → t.orphan = false →
    q.link.nodes = l ++ e :: r → (∀ x ∈ l ++ r, x.addr ≠ e.addr) → t.request.addr = e.addr →
    (∀ h, q.faults.held = some h → e.addr ∉ h.waiting) →
    let header := byteOf (e.addr * 16 + if t.request.payload = .poll then 2 else 1)
    let answer := fun payload : List Byte => exec (.actuatorAnswer
      (header :: payload ++ [crc8 (header :: payload)])) s
    let node : NodeEntry := { e with
      misses := 0, poll := ⟨q.now, q.setting idPollInterval⟩, presence := .present, lostPresent := false
      reported := decide (f ≠ 0), faultCode := if f = 0 then e.faultCode else f.toNat }
    let changed := e.reported ≠ decide (f ≠ 0)
    let found := e.presence ≠ .present
    let faults : FaultTable :=
      let x := if e.lostPresent then (q.faults.ended (.node e.addr) .nodeLost).1 else q.faults
      if f = 0 then if e.reported then (x.ended (.node e.addr) .reported).1 else x
      else if e.reported then x else (x.occurred q.now (.node e.addr) .reported).1
    let chosen : Part → Prop := fun p => p.link = ({ p with link :=
      ⟨l ++ node :: r, q.link.queue, .idle, q.link.lastServed⟩ } : Part).chooseNext.link
    (e.use = .retarderUnit →
      ∃ p, answer [b1, b2, b3, f] = .next { s with part := p } ∧
        let st := if b1 = 0 then NodeState.drained else if b1 = 2 then .filled
          else if b1 = 3 then .draining else .filling
        p = { q with
          link := p.link, faults := faults, flags := { q.flags with faultsChanged := p.flags.faultsChanged }
          ret := { q.ret with lastNodeState := some st }
          cap := { q.cap with items := { q.cap.items with oilTemp := some (b2 ++ b3).toInt } }
          handed := q.handed ++ (if found then [.recompute] else []) ++
            (if changed then [.recompute] else []) ++ [.retarderNodeState st, .recompute] } ∧
        chosen p) ∧
    (e.use = .axleModule a →
      ∃ p, answer [b1, b2, f] = .next { s with part := p } ∧
        let kPa := min (b1 ++ b2).toNat 1200
        p = { q with
          link := p.link, faults := faults, flags := { q.flags with faultsChanged := p.flags.faultsChanged }
          chan := q.chan.set a (p.chan.get a), app := p.app, handed := p.handed } ∧
        p.link.nodes = l ++ node :: r ∧
        (¬ changed → p.chan = q.chan ∧ p.app = q.app ∧ chosen p ∧
          p.handed = q.handed ++ (if found then [.channelPresence a true] else []) ++
            [.remoteMeasurement a kPa]) ∧
        (changed → (q.chan.get a).route = .remote e.addr →
          (f ≠ 0 → (p.chan.get a).available = false ∧ (p.chan.get a).state ≠ some .commanded ∧
            ((q.chan.get a).state = some .commanded → (p.chan.get a).state = some .backup ∧
              (p.chan.get a).lastDemand = 0 ∧ (p.chan.get a).lastSent = some .release)) ∧
          (f = 0 → (p.chan.get a).state = (q.chan.get a).state ∧
            (p.chan.get a).available = decide ((q.chan.get a).state ≠ some .faulted ∧
              (q.chan.get a).state ≠ some .unreachable)) ∧
          p.handed.getLast? = some (.remoteMeasurement a kPa)))

/-- ANSWER_TIMEOUT, and ACTUATOR_ANSWER with an answer that is not good (R161, R163): the miss is counted, a missed DEMAND
is put back unless a newer one is queued, the third miss in a row makes the node LOST, and the idle link chooses
again. A transaction whose address a ROUTE has removed (R156): its answer or its timeout changes no entry, is handed
to no block and puts nothing back, and the idle link chooses again. The model's reading: log entries 10 and 16. -/
def Obligations.MissedAnswerIsCounted : Prop :=
  (∀ (s : State) (t : Transaction) (w : Timer) (l r : List NodeEntry) (e : NodeEntry) (received : List Byte),
    let q := s.part
    q.link.phase = .inFlight t → t.window = some w → t.orphan = false →
    q.link.nodes = l ++ e :: r → (∀ x ∈ l ++ r, x.addr ≠ e.addr) → t.request.addr = e.addr →
    (∀ h, q.faults.held = some h → e.addr ∉ h.waiting) →
    let lost := 2 ≤ e.misses ∧ e.presence ≠ .lost
    let node : NodeEntry := { e with
      misses := min (e.misses + 1) 3
      presence := if lost then .lost else e.presence
      lostPresent := e.lostPresent || decide lost }
    let back := t.request.payload ≠ .poll ∧ ∀ x ∈ q.link.queue, x.addr = e.addr → x.payload = .poll
    let told : List Handoff := match e.use with
      | .axleModule a => [.channelPresence a false]
      | .retarderUnit => [.retarderNodeLost, .recompute]
    let missed : Host.Outcome State Fault Refusal → Prop := fun outcome =>
      ∃ p, outcome = .next { s with part := p } ∧
        p = { q with
          link := p.link
          faults := if lost ∧ e.lostPresent = false
            then (q.faults.occurred q.now (.node e.addr) .nodeLost).1 else q.faults
          flags := { q.flags with faultsChanged := p.flags.faultsChanged }
          handed := q.handed ++ if lost then told else [] } ∧
        p.link = ({ p with link :=
          { nodes := l ++ node :: r
            queue := q.link.queue ++ if back then [{ t.request with enqueued := q.now }] else []
            phase := .idle
            lastServed := q.link.lastServed } } : Part).chooseNext.link
    let size := match e.use with
      | .axleModule _ => 5
      | .retarderUnit => 6
    let good := received.length = size ∧ received.getLast? = some (crc8 received.dropLast) ∧
      received.head? = some (byteOf (e.addr * 16 + if t.request.payload = .poll then 2 else 1))
    (w.interval ≤ (q.now - w.start).toNat → missed (exec .answerTimeout s)) ∧
    ((q.now - w.start).toNat ≤ w.interval → ¬ good → missed (exec (.actuatorAnswer received) s))) ∧
  (∀ (s : State) (t : Transaction) (w : Timer) (received : List Byte),
    s.part.link.phase = .inFlight t → t.window = some w → t.orphan = true →
    let idle : Part := { s.part with link := { s.part.link with phase := .idle } }
    let ends : Host.Outcome State Fault Refusal := .next { s with part := idle.chooseNext }
    (w.interval ≤ (s.part.now - w.start).toNat → exec .answerTimeout s = ends) ∧
    ((s.part.now - w.start).toNat ≤ w.interval → exec (.actuatorAnswer received) s = ends))

/-! ## The mode -/

/-- START (R169, R170): DONE in ACTIVE, refused in FALLBACK and STANDING_DOWN, and otherwise judged against the items in
their order: the first that is missing is named, and with none missing the mode is ACTIVE, with the pass and rotation
timers started and the capacities to be recomputed. STAND_DOWN and RECOVERY_EXPIRY (R172, R173): what each mode makes
of a stand-down request, and the return from FALLBACK after the recovery time. The model's reading: log entry 12. -/
def Obligations.ModeRequestsAreJudged : Prop :=
  (∀ (s : State) (tag : Byte),
    let q := s.part
    let reply : Reply → Host.Outcome State Fault Refusal := fun r =>
      .next { s with part := q.answer kindStart tag r }
    let retarder := q.store.chassis.any fun c => decide (c.retarderFitted = 1)
    let exhaust := q.store.chassis.any fun c => decide (c.exhaustFitted = 1)
    let bad := fun id : TableId => decide ((q.table id).state ≠ .valid)
    let codeOf : TableId → Nat := fun id =>
      match id with
      | .retarderCurve => 1
      | .exhaustCurve => 2
      | .pedalMap => 3
      | .leverMap => 4
      | .gearTable => 5
    let unrouted := Axle.all.filter fun a => decide (a.val < q.axleCount ∧ (q.chan.get a).route = .unrouted)
    let items : List (Nat × Nat × Bool) :=
      [(1, q.store.cursor.elim 0 fun c => codeOf c.table, q.store.cursor.isSome),
       (2, 0, q.store.chassis.isNone), (3, 0, bad .pedalMap), (4, 0, bad .leverMap),
       (5, 0, retarder && bad .retarderCurve), (6, 0, exhaust && bad .exhaustCurve),
       (7, 0, exhaust && bad .gearTable), (8, unrouted.head?.elim 0 (·.val), !unrouted.isEmpty),
       (9, 0, retarder && q.retRoute.isNone), (10, 0, decide (q.motion.freshness ≠ .fresh))]
    (q.control.mode = .active → exec (.start tag) s = reply .done) ∧
    (q.control.mode = .fallback ∨ q.control.mode = .standingDown →
      exec (.start tag) s = reply (.refused .mode)) ∧
    (q.control.mode = .config ∨ q.control.mode = .standby →
      (∀ x, items.find? (·.2.2) = some x → exec (.start tag) s = reply (.refused (.notReady x.1 x.2.1))) ∧
      ((∀ x ∈ items, x.2.2 = false) →
        exec (.start tag) s = .next { s with part := { q with
          control := { q.control with mode := .active }
          flags := { q.flags with modeChanged := true }
          app := { q.app with
            passTimer := some ⟨q.now, q.setting idPassPeriod⟩
            rotationTimer := some ⟨q.now, q.setting idRotationInterval * 1000⟩ }
          handed := q.handed ++ [.recompute]
          vl := (q.answer kindStart tag .done).vl } }))) ∧
  (∀ (s : State) (tag : Byte) (t : Timer),
    let q := s.part
    let reply : Reply → Host.Outcome State Fault Refusal := fun r =>
      .next { s with part := q.answer kindStandDown tag r }
    (q.control.mode = .active →
      ∃ p, exec (.standDown tag) s = .next { s with part := p } ∧
        p = { q with
          control := { q.control with mode := .standingDown, standDownStart := some q.now }
          demand := { q.demand with
            hold := ⟨false, 0, 0, 0⟩, assists := [], total := min q.demand.pedalForce 20000
            lead := if q.demand.pedalForce = 0 then .nobody else .pedal }
          flags := { q.flags with
            modeChanged := true, assistDropped := q.flags.assistDropped || !q.demand.assists.isEmpty }
          app := { q.app with rotationTimer := none }
          handed := q.handed ++ [.recompute]
          vl := (q.answer kindStandDown tag .done).vl }) ∧
    (q.control.mode = .standingDown ∨ q.control.mode = .standby →
      exec (.standDown tag) s = reply .done) ∧
    (q.control.mode = .config → exec (.standDown tag) s = reply (.refused .mode)) ∧
    (q.control.mode = .fallback → exec (.standDown tag) s = .next { s with part := { q with
      control := { q.control with mode := .standby, recovery := none }
      flags := { q.flags with modeChanged := true }
      handed := q.handed ++ [.recompute]
      vl := (q.answer kindStandDown tag .done).vl } }) ∧
    (q.control.mode = .fallback → q.control.recovery = some t → t.interval ≤ (q.now - t.start).toNat →
      exec .recoveryExpiry s = .next { s with part := { q with
        control := { q.control with mode := .active, recovery := none }
        flags := { q.flags with modeChanged := true, fallbackLeft := true }
        app := { q.app with
          passTimer := some ⟨q.now, q.setting idPassPeriod⟩
          rotationTimer := some ⟨q.now, q.setting idRotationInterval * 1000⟩ }
        handed := q.handed ++ [.recompute] } }))

/-- What stops the passes (R98, R129, R137, R144, R175, R176): the motion timer's expiry in ACTIVE and STANDING_DOWN, and
a pass that finds a stand-down complete. The Apportioner's items are those of no pass, with the mask kept, and the
pointer kept by stale motion (R98), the total demand is recomputed, FALLBACK cancels speed hold and empties the assist
table (R28, R34), the retarder and the flap are released, no channel is COMMANDED, nothing a pass handed on waits, and
the alarm follows the tiers. The model's reading: log entry 12. -/
def Obligations.PassesStopReleasesTheBrakes : Prop :=
  ∀ (s : State) (t d : Timer),
    let q := s.part
    let due := fun y : Timer => y.interval ≤ (q.now - y.start).toNat
    let stopped : Host.Outcome State Fault Refusal → Mode → Axle → Prop := fun outcome mode pointer =>
      ∃ p, outcome = .next { s with part := p } ∧
        p.control.mode = mode ∧ p.flags.modeChanged = true ∧
        p.demand = (if mode = .fallback
          then { q.demand with
            hold := ⟨false, 0, 0, 0⟩, assists := [], total := p.totalDemand, lead := p.leadingSource }
          else { q.demand with total := p.totalDemand, lead := p.leadingSource }) ∧
        p.flags.assistDropped =
          (q.flags.assistDropped || decide (mode = .fallback ∧ q.demand.assists ≠ [])) ∧
        p.app = { Apportioner.cold with
          mask := q.app.mask, pointer := pointer
          alarm := if q.anyFade then .raised else .clear } ∧
        p.ret.state = (if q.ret.state = .filling ∨ q.ret.state = .active then .draining else q.ret.state) ∧
        (q.ret.state = .filling ∨ q.ret.state = .active →
          p.ret.lastSent = ⟨false, 0⟩ ∧ p.ret.drainTimer = some ⟨q.now, q.setting idDrainTimeout⟩) ∧
        p.flap.state = (if q.flap.state = .closing ∨ q.flap.state = .closed
          then (if q.fswClosed then .opening else .opened) else q.flap.state) ∧
        (q.flap.state = .closing ∨ q.flap.state = .closed → p.flap.solenoid = false) ∧
        (∀ a : Axle, (p.chan.get a).state =
            (if (q.chan.get a).state = some .commanded then some .backup else (q.chan.get a).state) ∧
          ((q.chan.get a).state = some .commanded →
            (p.chan.get a).lastDemand = 0 ∧ (p.chan.get a).tracking = none)) ∧
        (∀ h ∈ p.handed, h.lane.ofPass = false) ∧
        p.store = q.store ∧ p.slip = q.slip ∧ p.thermal = q.thermal ∧ p.cap = q.cap ∧ p.vl = q.vl
    (q.control.mode = .active → q.motion.timer = some t → due t → 
      stopped (exec .motionTimerExpiry s) .fallback q.app.pointer) ∧
    (q.control.mode = .standingDown → q.motion.timer = some t → due t →
      stopped (exec .motionTimerExpiry s) .standby q.app.pointer) ∧
    (q.app.passTimer = some d → due d → StandDownComplete q →
      ∃ pointer : Axle, stopped (exec .pass s) .standby pointer)

/-! ## The resets -/

/-- RESET_WARM (R177), with what each block does (R11, R21, R28, R34, R47, R50, R54, R99, R116, R130, R137, R153, R165,
R186): DONE is answered, the coach description, the faults and the temperatures are kept, and everything under way is
abandoned. RESET_WARM at the channels, the actuator link and the fault table (R153, R165, R186): every routed channel
is in BACKUP, the requests waiting are gone but for the release targets, every node is UNKNOWN, the transaction in
flight is abandoned, and a held clear is discarded with the entries kept. The model's reading: log entries 12, 13, 15
and 24. -/
def Obligations.WarmResetKeepsTheDescription : Prop :=
  (∀ (s : State) (tag : Byte),
    let q := s.part
    let timer := fun ms : Nat => some (⟨q.now, ms⟩ : Timer)
    let used := q.retarderFitted = true ∧ q.retRoute.isSome = true
    ∃ p, exec (.resetWarm tag) s = .next { s with part := p } ∧
      p.now = q.now ∧ p.retRoute = q.retRoute ∧ p.fswClosed = q.fswClosed ∧
      p.vl = (q.answer kindResetWarm tag .done).vl ∧
      p.store.chassis = q.store.chassis ∧ p.store.settings = q.store.settings ∧
      p.store.gearCount = q.store.gearCount ∧ p.store.cursor = none ∧
      (∀ id, p.table id = if q.store.cursor.map (·.table) = some id
        then { q.table id with state := .invalid } else q.table id) ∧
      p.control = ⟨if p.missingItem = none then .standby else .config, none, none⟩ ∧
      p.flags = { q.flags with
        modeChanged := q.flags.modeChanged || decide (p.control.mode ≠ q.control.mode)
        alarmRaised := p.flags.alarmRaised, alarmCleared := p.flags.alarmCleared } ∧
      p.demand = { q.demand with
        hold := ⟨false, 0, 0, 0⟩, assists := []
        total := min (max q.demand.pedalForce q.demand.leverForce) 20000
        lead := if q.demand.pedalForce = 0 ∧ q.demand.leverForce = 0 then .nobody
          else if q.demand.leverForce ≤ q.demand.pedalForce then .pedal else .lever } ∧
      p.motion = { q.motion with
        freshness := .unseen, timer := none, driveline := .uncertain, matchCount := 0, mismatchCount := 0
        previous := none } ∧
      p.slip = ⟨0, 20000, 0⟩ ∧
      p.cap = q.cap ∧
      p.app = { Apportioner.cold with
        mask := q.app.mask, pointer := q.app.pointer, alarm := if q.anyFade then .raised else .clear } ∧
      p.thermal = { q.thermal with
        axles := p.thermal.axles, timer := if q.store.chassis = none then none else timer 100
        running := false } ∧
      (∀ a : Axle, p.thermal.axles.get a = { q.thermal.axles.get a with forceUsed := 0 }) ∧
      p.ret = { q.ret with
        state := if used then .draining else .drained
        releaseMark := none, fillTimer := none
        drainTimer := if used then timer (q.setting idDrainTimeout) else none
        handedCommand := 0, lastNodeState := none, lastSent := ⟨false, 0⟩ } ∧
      ((q.store.chassis.any fun c => decide (c.exhaustFitted ≠ 1)) = false →
        (p.flap.state = if q.fswClosed then .opening else .opened) ∧
        p.flap.timer = (if q.fswClosed then timer (q.setting idFlapTimeout) else none) ∧
        p.flap.solenoid = false ∧ (q.fswClosed = false → p.flap.enteredOpen = q.now))) ∧
  (∀ (s : State) (tag : Byte),
    let q := s.part
    ∃ p, exec (.resetWarm tag) s = .next { s with part := p } ∧
      p.faults = { q.faults with held := none } ∧
      (∀ a : Axle,
        let c := q.chan.get a
        let n := p.chan.get a
        n.route = c.route ∧ n.sensorOut = c.sensorOut ∧ n.sampling = c.sampling ∧
        (c.route = .unrouted → c.state = none → n = { c with available := false }) ∧
        (c.route ≠ .unrouted → n.state = some .backup ∧ n.lastDemand = 0 ∧ n.tracking = none) ∧
        (c.route = .localStage → n.measured = c.measured ∧ n.available = !c.sensorOut ∧
          n.switched = (c.switched || decide (c.state = some .commanded)) ∧ n.lastSent = c.lastSent) ∧
        (∀ addr, c.route = .remote addr → n.measured = none ∧ n.available = false ∧
          n.lastSent = some .release)) ∧
      p.link.nodes = q.link.nodes.map (fun e => { e with
        presence := .unknown, misses := 0, poll := ⟨q.now, q.setting idPollInterval⟩ }) ∧
      (∀ r ∈ p.link.queue, r.enqueued = q.now ∧
        (r.payload = .axleDemand .release ∨ r.payload = .retarderDemand ⟨false, 0⟩)) ∧
      (∀ t, q.link.phase = .inFlight t → p.link.phase = .abandoned t.window) ∧
      (∀ w, q.link.phase = .abandoned w → p.link.phase = .abandoned w) ∧
      (q.link.phase ≠ .idle → p.link.lastServed = none) ∧
      (q.link.phase = .idle → ∀ t, p.link.phase = .inFlight t → t.start = q.now ∧ t.window = none ∧
        (t.request.payload = .axleDemand .release ∨ t.request.payload = .retarderDemand ⟨false, 0⟩)) ∧
      (∀ h ∈ p.handed, h.lane.ofPass = false ∧ h.lane.ofLink = false))

/-- COLD_RESET (R178): every block takes its values after a cold reset; the flap is judged from its switch (R131), and the
link is idle or waits for the end of an abandoned answer window (R166). The model's reading: log entries 3 and 4. -/
def Obligations.ColdResetDiscardsEverything : Prop :=
  ∀ (s : State),
    let q := s.part
    ∃ p, exec .coldReset s = .next { s with part := p } ∧
      p = { State.reset.part with
        fswClosed := q.fswClosed
        flap := { State.reset.part.flap with
          state := if q.fswClosed then .opening else .opened, switchClosed := q.fswClosed }
        link := { State.reset.part.link with phase := p.link.phase } } ∧
      (q.link.phase = .idle → p.link.phase = .idle) ∧
      (∀ t, q.link.phase = .inFlight t → ∀ w, t.window = some w →
        p.link.phase = .abandoned (some ⟨0, w.interval - (q.now - w.start).toNat⟩)) ∧
      ∀ t, p.link.phase ≠ .inFlight t

/-- What a cold reset leaves, block by block, where the manual gives the value (R2, R7, R12, R25, R29, R36 to R38, R43, R45,
R47, R50, R54, R74, R75, R101, R118, R131, R155, R168, R178, R179, R182, R184). -/
def Obligations.ResetValuesOfEveryBlock : Prop :=
  let p := State.reset.part
  State.reset.pending = [] ∧ p.now = 0 ∧ p.control = ⟨.config, none, none⟩ ∧ p.store.chassis = none ∧
    p.store.settings =
      [20, 100, 100, 1000, 300, 10, 900, 400, 300, 400, 200, 100, 500, 30, 1500, 2000, 110, 150, 80, 500] ++
      [50, 125, 10, 5, 8000, 1000, 50, 250, 350, 450, 20, 30, 400, 10, 8, 0, 20, 1000, 2000] ∧
    (∀ id, (p.table id).state = .empty ∧ (p.table id).slots = List.replicate id.slots none) ∧
    p.store.gearCount = 0 ∧ p.store.cursor = none ∧
    p.demand = ⟨0, 0, 0, 0, ⟨false, 0, 0, 0⟩, [], 0, 0, .nobody⟩ ∧
    p.motion.freshness = .unseen ∧ p.motion.timer = none ∧ p.motion.road = none ∧
    p.motion.engine = ⟨0, .neutral, false, 0, 0⟩ ∧ p.motion.driveline = .uncertain ∧
    p.motion.matchCount = 0 ∧ p.motion.mismatchCount = 0 ∧ p.motion.previous = none ∧
    p.motion.clamped = 0 ∧ p.slip = ⟨0, 20000, 0⟩ ∧
    p.cap.items.exhaustTorque = 0 ∧ p.cap.items.exhaust = 0 ∧ p.cap.items.exhaustZero = .unfitted ∧
    p.cap.items.oilTemp = none ∧ p.cap.items.curveValue = 0 ∧ p.cap.items.derate = 1000 ∧
    p.cap.items.retarder = 0 ∧ p.cap.items.retarderZero = .unfitted ∧ p.cap.items.unmaskedSum = 0 ∧
    p.cap.items.advisedGear = 0 ∧
    p.app.target = 0 ∧ p.app.exhaustWant = .open_ ∧ p.app.exhaustCounted = 0 ∧ p.app.retarderWant = 0 ∧
    p.app.command = 0 ∧ p.app.retarderCounted = 0 ∧ p.app.serviceTotal = 0 ∧ p.app.surplus = 0 ∧
    p.app.shortfall = 0 ∧ p.app.method = .nothing ∧ p.app.rounds = 0 ∧ p.app.pointer = 0 ∧
    p.app.alarm = .clear ∧ p.app.raiseMark = none ∧ p.app.clearMark = none ∧ p.app.passTimer = none ∧
    p.app.rotationTimer = none ∧ p.thermal.ambientUsed = 20 ∧ p.thermal.timer = none ∧
    p.thermal.running = false ∧ p.ret.state = .drained ∧ p.ret.engagements = [] ∧
    p.ret.heldEpisode = false ∧ p.ret.releaseMark = none ∧ p.ret.fillTimer = none ∧
    p.ret.drainTimer = none ∧ p.ret.lastSent = ⟨false, 0⟩ ∧ p.ret.lastNodeState = none ∧
    p.flap.solenoid = false ∧ p.flap.timer = none ∧ p.retRoute = none ∧ p.link.nodes = [] ∧
    p.link.queue = [] ∧ p.link.lastServed = none ∧ p.faults = ⟨[], 0, none⟩ ∧
    p.flags.word = 0 ∧ p.vl.rx = none ∧ p.vl.errors = 0 ∧ p.vl.tx = [] ∧ p.vl.report = ⟨0, 100⟩

/-! ## Faults and clears -/

/-- The fault table (R184, R185): an occurrence renews its entry, is appended, takes the place of the earliest entry that is not
present, or counts as overflow; an end clears the present flag; and each change sets FAULTS_CHANGED. -/
def Obligations.FaultTableRecordsOccurrences : Prop :=
  ∀ (p : Part) (src : Source) (code : FaultCode) (l r : List FaultEntry) (e : FaultEntry),
    let t := p.faults
    let isIt := fun x : FaultEntry => x.source = src ∧ x.code = code
    let becomes : FaultTable → Part := fun n =>
      { p with faults := n, flags := { p.flags with faultsChanged := true } }
    let new : FaultEntry := ⟨src, code, true, p.now, p.now, 1⟩
    (t.entries = l ++ e :: r → isIt e → (∀ x ∈ l ++ r, ¬ isIt x) →
      p.faultOccurs src code = becomes { t with
        entries := l ++ { e with present := true, last := p.now, count := min (e.count + 1) 255 } :: r } ∧
      (e.present = true → p.faultEnds src code = becomes { t with
        entries := l ++ { e with present := false } :: r }) ∧
      (e.present = false → p.faultEnds src code = p)) ∧
    ((∀ x ∈ t.entries, ¬ isIt x) →
      p.faultEnds src code = p ∧
      (t.entries.length < 16 → p.faultOccurs src code = becomes { t with entries := t.entries ++ [new] }) ∧
      (16 ≤ t.entries.length → t.entries = l ++ e :: r → e.present = false → (∀ x ∈ l, x.present = true) →
        p.faultOccurs src code = becomes { t with entries := l ++ r ++ [new] }) ∧
      (16 ≤ t.entries.length → (∀ x ∈ t.entries, x.present = true) →
        (t.overflow < 255 → p.faultOccurs src code = becomes { t with overflow := t.overflow + 1 }) ∧
        (255 ≤ t.overflow → p.faultOccurs src code = p)))

/-- CLEAR_FAULTS and HOLDOFF_EXPIRY (R186, R187): the checks in their order; a clear that names a node-backed source is
held with its nodes polled; otherwise, and at the holdoff's end, the clear is applied: it does what ClearApplied says:
the named trips and ended conditions leave the table, the named actuators that are FAULTED are re-admitted (R128,
R136, R149, R152), and DONE is answered with the tag. The first transaction of a waiting node that completes does what
it does while no clear is held, and removes the node from the waiting set; the last of them applies the clear in the
same way. The model's reading: log entries 10 and 13. -/
def Obligations.ClearsAreHeldOrApplied : Prop :=
  ∀ (s : State) (tag : Byte) (mask : BitVec 16) (h : HeldClear) (t : Transaction) (w : Timer)
    (received : List Byte),
    let q := s.part
    let quiet : State := { s with part := { q with faults := { q.faults with held := none } } }
    let backing := (Axle.all.filterMap fun a => match (q.chan.get a).route with
        | .remote addr => if mask.getLsbD a.val then some addr else none
        | .unrouted | .localStage => none) ++
      (if mask.getLsbD 4 then q.retRoute.toList else [])
    let applied : Host.Outcome State Fault Refusal → Byte → BitVec 16 → Prop := fun outcome tag m =>
      ∃ p, outcome = .next { s with part := p } ∧ ClearApplied q p tag m
    let rest := h.waiting.filter fun x => decide (x ≠ t.request.addr)
    let completed : Host.Outcome State Fault Refusal → Host.Outcome State Fault Refusal → Prop :=
      fun free outcome =>
        ∃ p, free = .next { s with part := p } ∧
          (rest ≠ [] → outcome = .next { s with part := { p with
            faults := { p.faults with held := some { h with waiting := rest } } } }) ∧
          (rest = [] → ∃ n, outcome = .next { s with part := n } ∧ ClearApplied p n h.tag h.sources)
    (q.faults.held = some h →
      exec (.clearFaults tag mask) s =
        .next { s with part := q.answer kindClearFaults tag (.refused .busy) } ∧
      (h.holdoff.interval ≤ (q.now - h.holdoff.start).toNat →
        applied (exec .holdoffExpiry s) h.tag h.sources) ∧
      ((q.now - h.holdoff.start).toNat < h.holdoff.interval → exec .holdoffExpiry s = .next s)) ∧
    (q.faults.held = some h → q.link.phase = .inFlight t → t.window = some w → t.orphan = false →
      (∃ e ∈ q.link.nodes, e.addr = t.request.addr) → t.request.addr ∈ h.waiting →
      (w.interval ≤ (q.now - w.start).toNat →
        completed (exec .answerTimeout quiet) (exec .answerTimeout s)) ∧
      ((q.now - w.start).toNat ≤ w.interval →
        completed (exec (.actuatorAnswer received) quiet) (exec (.actuatorAnswer received) s))) ∧
    (q.faults.held = none →
      exec .holdoffExpiry s = .next s ∧
      ((mask = 0 ∨ mask.getLsbD 15 = true) → exec (.clearFaults tag mask) s =
        .next { s with part := q.answer kindClearFaults tag (.refused (.badValue 0)) }) ∧
      (mask ≠ 0 → mask.getLsbD 15 = false →
        (backing = [] → applied (exec (.clearFaults tag mask) s) tag mask) ∧
        (backing ≠ [] →
          ∃ p, exec (.clearFaults tag mask) s = .next { s with part := p } ∧
            p = { q with
              faults := { q.faults with
                held := some ⟨tag, mask, backing, ⟨q.now, q.setting idClearHoldoff⟩⟩ }
              link := (backing.foldl (fun x addr => x.post addr .poll) q).link })))

/-! ## Reports and queries -/

/-- STATUS_REPORT and TRANSMIT_FRAME_SENT (R180 to R182): at the report timer's expiry the report is formed from what
stands, the flags it carries are cleared and the timer restarted; frames leave the line one at a time in the order in
which they were formed. The model's reading: log entry 19. -/
def Obligations.StatusReportClearsTheFlags : Prop :=
  ∀ (s : State) (f : Frame) (l : List Frame),
    let q := s.part
    (q.vl.report.interval ≤ (q.now - q.vl.report.start).toNat →
      ∃ p, exec .statusReport s = .next { s with part := p } ∧
        let report : StatusReport :=
          { mode := q.control.mode, flags := q.flags, lead := q.demand.lead, total := q.demand.total
            slipLimit := q.slip.limit, exhaustCapacity := q.cap.items.exhaust
            retarderCapacity := q.cap.items.retarder, exhaustCounted := q.app.exhaustCounted
            command := q.app.command, retarder := q.ret.state, flap := q.flap.state
            engagements := (q.ret.engagements.filter fun t =>
              decide ((q.now - t).toNat < q.setting idEngagementWindow * 1000)).length
            driveline := q.motion.driveline, advisedGear := q.cap.items.advisedGear, alarm := q.app.alarm
            shortfall := q.app.shortfall, surplus := q.app.surplus
            faultsPresent := (q.faults.entries.filter (·.present)).length
            clamped := q.motion.clamped, linkErrors := q.vl.errors
            axles := .ofFn fun a => if q.axleCount ≤ a.val
              then ⟨0, 0, 0, 0, .normal, false, none, false⟩
              else
                { share := q.app.shares.get a, demand := q.app.demands.get a
                  measured := (q.chan.get a).measured.getD 0
                  celsius := (q.thermal.axles.get a).temp / 1000, tier := (q.thermal.axles.get a).tier
                  tierChanged := (q.thermal.axles.get a).changed, state := (q.chan.get a).state
                  masked := q.app.mask.get a } }
        p = { q with
          flags := Flags.none
          thermal := { q.thermal with axles := p.thermal.axles }
          vl := { q.vl with
            tx := q.vl.tx ++ [.status report], report := ⟨q.now, q.setting idReportInterval⟩ } } ∧
        ∀ a : Axle, p.thermal.axles.get a = { q.thermal.axles.get a with changed := false }) ∧
    (q.vl.tx = f :: l →
      exec .transmitFrameSent s = .next { s with part := { q with vl := { q.vl with tx := l } } }) ∧
    (q.vl.tx = [] → exec .transmitFrameSent s = .next s)

/-- The eight queries (R41, R73, R138, R154, R167, R183): each is answered with what stands, and changes nothing else.
QUERY CHASSIS without a chassis record is refused naming it. TABLE_READ (R19): the checks in their order, and the
table's state, cursor, gear count and slots answered, an unwritten slot with zero fields, with no other effect. The
model's reading: log entry 25. -/
def Obligations.QueriesAnswerAndChangeNothing : Prop :=
  (∀ (s : State) (tag : Byte),
    let q := s.part
    let answers : Instr → Reply → Prop := fun c r =>
      exec c s = .next { s with part := { q with
        vl := { q.vl with tx := q.vl.tx ++ [.answer ⟨tag, 0x20, r⟩] } } }
    let axles := Axle.all.filter fun a => decide (a.val < q.axleCount)
    let left := fun t : Option Timer => t.map fun t => t.interval - (q.now - t.start).toNat
    let c := q.cap.items
    let d := q.demand
    let kept := q.ret.engagements.filter fun t =>
      decide ((q.now - t).toNat < q.setting idEngagementWindow * 1000)
    answers (.queryCapacities tag) ⟨.done, .capacities
      ⟨c.exhaustTorque, c.exhaust, c.exhaustZero, c.oilTemp, c.curveValue, c.derate, c.retarder,
        c.retarderZero, axles.map fun a => (c.fade.get a, c.service.get a), c.unmaskedSum, q.slip.value,
        q.slip.limit, c.advisedGear⟩⟩ ∧
    answers (.queryAxles tag) ⟨.done, .axles
      (axles.map fun a =>
        let t := q.thermal.axles.get a
        let n := q.chan.get a
        ⟨q.app.shares.get a, q.app.demands.get a, q.app.eligible.get a, q.app.weights.get a,
          q.app.mask.get a, t.temp, t.tier, t.changed, t.forceUsed, n.route, n.state, n.available,
          n.lastDemand, n.measured, n.sensorOut, left n.tracking,
          if n.route = .unrouted ∨ n.route = .localStage then none else n.lastSent⟩)
      ⟨q.app.pointer, left q.app.rotationTimer, q.app.target, q.app.exhaustWant, q.app.retarderWant,
        q.app.serviceTotal, q.app.method, q.app.rounds, q.thermal.ambientUsed, q.thermal.running,
        left q.thermal.timer⟩⟩ ∧
    answers (.queryFaults tag) ⟨.done, .faults q.faults.entries q.faults.overflow
      (left (q.faults.held.map (·.holdoff)))⟩ ∧
    answers (.queryEngagements tag) ⟨.done, .engagements
      ⟨q.ret.state, q.ret.lastNodeState, q.ret.lastSent, kept.map fun t => (q.now - t).toNat,
        q.ret.heldEpisode, left q.ret.fillTimer, left q.ret.drainTimer, left q.flap.timer,
        q.ret.releaseMark.map fun t => (q.now - t).toNat, q.flap.state, q.flap.switchClosed,
        q.flap.solenoid, (q.now - q.flap.enteredOpen).toNat⟩⟩ ∧
    answers (.queryAssist tag) ⟨.done, .demand
      ⟨d.pedalReading, d.pedalForce, d.leverReading, d.leverForce, d.hold, d.mass, d.total, d.lead,
        d.assists.map fun e => ⟨e.requester, e.decel, e.force, e.hold,
          e.hold - (q.now - (e.expiry - BitVec.ofNat 32 e.hold)).toNat⟩⟩⟩ ∧
    (∀ x, q.store.chassis = some x → answers (.queryChassis tag) ⟨.done, .chassis x⟩) ∧
    (q.store.chassis = none → answers (.queryChassis tag) ⟨.refused (.notReady 2 0), .nothing⟩) ∧
    answers (.querySettings tag) ⟨.done, .settings q.store.settings⟩ ∧
    answers (.queryRoute tag) ⟨.done, .route
      ⟨q.chan.map (·.route), q.retRoute,
        q.link.nodes.map fun e => ⟨e.addr, e.use, e.presence, e.misses, e.faultCode, e.reported,
          e.poll.interval - (q.now - e.poll.start).toNat,
          (q.link.queue.filter fun r => decide (r.addr = e.addr)).map fun r =>
            ⟨(q.now - r.enqueued).toNat, r.payload⟩⟩,
        (match q.link.phase with
          | .inFlight t => some (t.request.addr, decide (t.request.payload ≠ .poll))
          | .idle | .abandoned _ => none),
        q.link.lastServed⟩⟩) ∧
  (∀ (s : State) (tag : Byte) (n first count : Nat),
    let answered : Reply → Host.Outcome State Fault Refusal := fun r =>
      .next { s with part := s.part.answer kindTableRead tag r }
    ((n < 1 ∨ 5 < n) → exec (.tableRead tag n first count) s = answered (.refused (.badValue 0))) ∧
    (∀ id, tableOfId n = some id →
      (id.slots ≤ first → exec (.tableRead tag n first count) s = answered (.refused (.badValue 1))) ∧
      (first < id.slots → (count < 1 ∨ 8 < count ∨ id.slots < first + count) →
        exec (.tableRead tag n first count) s = answered (.refused (.badValue 2))) ∧
      (1 ≤ count → count ≤ 8 → first + count ≤ id.slots →
        exec (.tableRead tag n first count) s = answered ⟨.done, .table
          { state := (s.part.table id).state
            cursor := (s.part.store.cursor.filter fun c => decide (c.table = id)).map (·.index)
            gearCount := if id = .gearTable then some s.part.store.gearCount else none
            slots := (List.range count).map fun k => match (s.part.table id).slots.getD (first + k) none with
              | some e => ⟨true, e⟩
              | none => ⟨false, ⟨0, 0⟩⟩ }⟩)))

/-! ## What every step keeps -/

/-- The shares and the shortfall make up the service total (R89): every step keeps it. -/
def Obligations.SharesAlwaysBalance : Prop :=
  ∀ (s t : State), step s = .next t → SharesBalance s.part → SharesBalance t.part

/-- No pressure demand, published, waiting or held by a channel, ever exceeds its axle's p_max (R70, R91); and a channel
that is not COMMANDED holds a last demand of 0 and no tracking timer, one that is COMMANDED is available and passes
run, and a channel has a state exactly while it is routed (R139, R142, R144). The model's reading: log entries 11 and
19. -/
def Obligations.PressuresStayWithinPmax : Prop :=
  ∀ (s t : State), step s = .next t →
    PressureWithinPmax s.part ∧ ChannelsHeld s.part → PressureWithinPmax t.part ∧ ChannelsHeld t.part

/-- While passes are stopped the retarder is neither FILLING nor ACTIVE, the flap is not commanded closed, and no pass is
due (R76, R98, R129, R137); the solenoid is energised in CLOSING and CLOSED alone (R131); and the retarder's timers
run in the states they time (R119, R123 to R125): every step keeps all of it. That nothing a pass handed on waits
while passes are stopped is the model's choice and no rule of the manual: what waits is discarded when passes stop
(log entry 12), where R143 also has a handed demand taken after the change of mode and not acted on. -/
def Obligations.EnduranceBrakesStayReleased : Prop :=
  ∀ (s t : State), step s = .next t →
    EnduranceReleased s.part ∧ FlapDriven s.part ∧ RetarderTimed s.part →
    EnduranceReleased t.part ∧ FlapDriven t.part ∧ RetarderTimed t.part

/-- Each timer, start time, speed hold and assist entry stands in the modes the manual gives it alone, and while passes are
stopped the alarm is RAISED exactly while an axle is in FADE (R28, R34, R76, R94, R168, R176): every step keeps it. -/
def Obligations.TimersAndAlarmFollowTheMode : Prop :=
  ∀ (s t : State), step s = .next t →
    TimersFollowMode s.part ∧ AlarmFollowsTiers s.part → TimersFollowMode t.part ∧ AlarmFollowsTiers t.part

/-- The assist table, the fault table, the engagement list and the link's request queue stay within their sizes with no
two entries for one key, and the counters, forces and temperatures stay within their ranges (R29, R37, R43, R50, R54,
R101, R122, R155, R157, R179, R184). The model's reading: log entry 19. -/
def Obligations.TablesAndCountersStayBounded : Prop :=
  ∀ (s t : State), step s = .next t →
    AssistsBounded s.part ∧ FaultsBounded s.part ∧ EngagementsBounded s.part ∧ QueueDistinct s.part ∧
      WithinRanges s.part ∧ TemperaturesHeld s.part →
    AssistsBounded t.part ∧ FaultsBounded t.part ∧ EngagementsBounded t.part ∧ QueueDistinct t.part ∧
      WithinRanges t.part ∧ TemperaturesHeld t.part

/-- The coach description stays sound under every step: the settings lie in their ranges, the accepted chassis record passes its
checks, the open table is the one that is LOADING, the node table holds one entry for each routed address, and a queued request is for
one of them (R3, R7, R9, R12, R155 to R157). And an accepted chassis record stands unchanged until a cold reset (R5). -/
def Obligations.DescriptionStaysSound : Prop :=
  ∀ (s t : State) (x : ChassisRecord), step s = .next t →
    (SettingsInRange s.part ∧ ChassisChecked s.part ∧ TablesHeld s.part ∧ NodesMatchRoutes s.part ∧
        QueueAddressed s.part →
      SettingsInRange t.part ∧ ChassisChecked t.part ∧ TablesHeld t.part ∧ NodesMatchRoutes t.part ∧
        QueueAddressed t.part) ∧
    (s.pending.head? ≠ some .coldReset → s.part.store.chassis = some x → t.part.store.chassis = some x)

/-- The mode changes along the arrows of chapter 10 alone (R168 to R175, R177, R178), each by the command that the manual gives it,
and every change but that of a cold reset sets MODE_CHANGED. A frame of the vehicle link is its request (see
FrameDoesWhatItsRequestDoes). -/
def Obligations.ModeChangesAlongItsArrows : Prop :=
  ∀ (c : Instr) (s t : State), exec c s = .next t →
    (∀ l, c ≠ .vehicleLinkFrame l ∧ c ≠ .frameAbandoned l) →
    let m := s.part.control.mode
    let n := t.part.control.mode
    let arrows : List (Mode × Mode) := match c with
      | .start _ => [(.config, .active), (.standby, .active)]
      | .standDown _ => [(.active, .standingDown), (.fallback, .standby)]
      | .motion _ => [(.standingDown, .active)]
      | .motionTimerExpiry => [(.active, .fallback), (.standingDown, .standby)]
      | .recoveryExpiry => [(.fallback, .active)]
      | .pass => [(.standingDown, .standby)]
      | .resetWarm _ => [(m, .standby), (m, .config)]
      | .coldReset => [(m, .config)]
      | _ => []
    (m = n ∨ (m, n) ∈ arrows) ∧
      (c ≠ .coldReset → m ≠ n → t.part.flags.modeChanged = true) ∧
      (c ≠ .coldReset → m = n → t.part.flags.modeChanged = s.part.flags.modeChanged ∨ c = .statusReport)

/-- Every law that the steps keep holds after a cold reset, where passes do not run. The model's reading: log entries 3,
12 and 19. -/
def Obligations.ResetMeetsEveryLaw : Prop :=
  let p := State.reset.part
  (SharesBalance p ∧ PressureWithinPmax p ∧ ChannelsHeld p) ∧
    (EnduranceReleased p ∧ FlapDriven p ∧ RetarderTimed p) ∧ (TimersFollowMode p ∧ AlarmFollowsTiers p) ∧
    (AssistsBounded p ∧ FaultsBounded p ∧ EngagementsBounded p ∧ QueueDistinct p ∧ WithinRanges p ∧
      TemperaturesHeld p) ∧
    (SettingsInRange p ∧ ChassisChecked p ∧ TablesHeld p ∧ NodesMatchRoutes p ∧ QueueAddressed p) ∧ p.passesRun = false

end
end

