-- ==== Sys2Proof/Laws/State.lean ====
section
/-! SUPPORT. One lemma per field per update of the part, each true by unfolding, so that no later proof unfolds a
record update; and what the per-axle arrays read back. -/

namespace Sys2Proof

namespace Axles

variable {α β : Type}

@[simp] theorem get_set_same (x : Axles α) (a : Axle) (v : α) : (x.set a v).get a = v := by
  fin_cases a <;> rfl

theorem get_set (x : Axles α) (a b : Axle) (v : α) :
    (x.set a v).get b = if b = a then v else x.get b := by
  fin_cases a <;> fin_cases b <;> rfl

@[simp] theorem get_set_ne (x : Axles α) {a b : Axle} (v : α) (h : b ≠ a) : (x.set a v).get b = x.get b := by
  rw [get_set, if_neg h]

@[simp] theorem get_ofFn (f : Axle → α) (a : Axle) : (Axles.ofFn f).get a = f a := by
  fin_cases a <;> rfl

@[simp] theorem get_map (f : α → β) (x : Axles α) (a : Axle) : (x.map f).get a = f (x.get a) := by
  fin_cases a <;> rfl

@[simp] theorem get_replicate (v : α) (a : Axle) : (Axles.replicate v).get a = v := by
  fin_cases a <;> rfl

/-- Two per-axle arrays are equal when they agree at each axle. -/
theorem ext_get {x y : Axles α} (h : ∀ a, x.get a = y.get a) : x = y := by
  cases x
  cases y
  have h0 := h 0
  have h1 := h 1
  have h2 := h 2
  have h3 := h 3
  simp_all [Axles.get]

theorem mem_all (a : Axle) : a ∈ Axle.all := by
  fin_cases a <;> decide

end Axles

namespace Machine

@[simp] theorem Part.handOn_now (p : Part) (h : Handoff) : (p.handOn h).now = p.now := rfl
@[simp] theorem Part.handOn_control (p : Part) (h : Handoff) : (p.handOn h).control = p.control := rfl
@[simp] theorem Part.handOn_store (p : Part) (h : Handoff) : (p.handOn h).store = p.store := rfl
@[simp] theorem Part.handOn_demand (p : Part) (h : Handoff) : (p.handOn h).demand = p.demand := rfl
@[simp] theorem Part.handOn_motion (p : Part) (h : Handoff) : (p.handOn h).motion = p.motion := rfl
@[simp] theorem Part.handOn_slip (p : Part) (h : Handoff) : (p.handOn h).slip = p.slip := rfl
@[simp] theorem Part.handOn_cap (p : Part) (h : Handoff) : (p.handOn h).cap = p.cap := rfl
@[simp] theorem Part.handOn_app (p : Part) (h : Handoff) : (p.handOn h).app = p.app := rfl
@[simp] theorem Part.handOn_thermal (p : Part) (h : Handoff) : (p.handOn h).thermal = p.thermal := rfl
@[simp] theorem Part.handOn_ret (p : Part) (h : Handoff) : (p.handOn h).ret = p.ret := rfl
@[simp] theorem Part.handOn_flap (p : Part) (h : Handoff) : (p.handOn h).flap = p.flap := rfl
@[simp] theorem Part.handOn_chan (p : Part) (h : Handoff) : (p.handOn h).chan = p.chan := rfl
@[simp] theorem Part.handOn_retRoute (p : Part) (h : Handoff) : (p.handOn h).retRoute = p.retRoute := rfl
@[simp] theorem Part.handOn_link (p : Part) (h : Handoff) : (p.handOn h).link = p.link := rfl
@[simp] theorem Part.handOn_faults (p : Part) (h : Handoff) : (p.handOn h).faults = p.faults := rfl
@[simp] theorem Part.handOn_flags (p : Part) (h : Handoff) : (p.handOn h).flags = p.flags := rfl
@[simp] theorem Part.handOn_vl (p : Part) (h : Handoff) : (p.handOn h).vl = p.vl := rfl
@[simp] theorem Part.handOn_fswClosed (p : Part) (h : Handoff) : (p.handOn h).fswClosed = p.fswClosed := rfl
@[simp] theorem Part.handOn_handed (p : Part) (h : Handoff) :
    (p.handOn h).handed = p.handed ++ [h] := rfl

@[simp] theorem Part.taken_now (p : Part) (l : Lane) : (p.taken l).now = p.now := rfl
@[simp] theorem Part.taken_control (p : Part) (l : Lane) : (p.taken l).control = p.control := rfl
@[simp] theorem Part.taken_store (p : Part) (l : Lane) : (p.taken l).store = p.store := rfl
@[simp] theorem Part.taken_demand (p : Part) (l : Lane) : (p.taken l).demand = p.demand := rfl
@[simp] theorem Part.taken_motion (p : Part) (l : Lane) : (p.taken l).motion = p.motion := rfl
@[simp] theorem Part.taken_slip (p : Part) (l : Lane) : (p.taken l).slip = p.slip := rfl
@[simp] theorem Part.taken_cap (p : Part) (l : Lane) : (p.taken l).cap = p.cap := rfl
@[simp] theorem Part.taken_app (p : Part) (l : Lane) : (p.taken l).app = p.app := rfl
@[simp] theorem Part.taken_thermal (p : Part) (l : Lane) : (p.taken l).thermal = p.thermal := rfl
@[simp] theorem Part.taken_ret (p : Part) (l : Lane) : (p.taken l).ret = p.ret := rfl
@[simp] theorem Part.taken_flap (p : Part) (l : Lane) : (p.taken l).flap = p.flap := rfl
@[simp] theorem Part.taken_chan (p : Part) (l : Lane) : (p.taken l).chan = p.chan := rfl
@[simp] theorem Part.taken_retRoute (p : Part) (l : Lane) : (p.taken l).retRoute = p.retRoute := rfl
@[simp] theorem Part.taken_link (p : Part) (l : Lane) : (p.taken l).link = p.link := rfl
@[simp] theorem Part.taken_faults (p : Part) (l : Lane) : (p.taken l).faults = p.faults := rfl
@[simp] theorem Part.taken_flags (p : Part) (l : Lane) : (p.taken l).flags = p.flags := rfl
@[simp] theorem Part.taken_vl (p : Part) (l : Lane) : (p.taken l).vl = p.vl := rfl
@[simp] theorem Part.taken_fswClosed (p : Part) (l : Lane) : (p.taken l).fswClosed = p.fswClosed := rfl
@[simp] theorem Part.taken_handed (p : Part) (l : Lane) :
    (p.taken l).handed = p.handed.eraseP fun h => decide (h.lane = l) := rfl

@[simp] theorem Part.discardLanes_now (p : Part) (f : Lane → Bool) : (p.discardLanes f).now = p.now := rfl
@[simp] theorem Part.discardLanes_control (p : Part) (f : Lane → Bool) : (p.discardLanes f).control = p.control := rfl
@[simp] theorem Part.discardLanes_store (p : Part) (f : Lane → Bool) : (p.discardLanes f).store = p.store := rfl
@[simp] theorem Part.discardLanes_demand (p : Part) (f : Lane → Bool) : (p.discardLanes f).demand = p.demand := rfl
@[simp] theorem Part.discardLanes_motion (p : Part) (f : Lane → Bool) : (p.discardLanes f).motion = p.motion := rfl
@[simp] theorem Part.discardLanes_slip (p : Part) (f : Lane → Bool) : (p.discardLanes f).slip = p.slip := rfl
@[simp] theorem Part.discardLanes_cap (p : Part) (f : Lane → Bool) : (p.discardLanes f).cap = p.cap := rfl
@[simp] theorem Part.discardLanes_app (p : Part) (f : Lane → Bool) : (p.discardLanes f).app = p.app := rfl
@[simp] theorem Part.discardLanes_thermal (p : Part) (f : Lane → Bool) : (p.discardLanes f).thermal = p.thermal := rfl
@[simp] theorem Part.discardLanes_ret (p : Part) (f : Lane → Bool) : (p.discardLanes f).ret = p.ret := rfl
@[simp] theorem Part.discardLanes_flap (p : Part) (f : Lane → Bool) : (p.discardLanes f).flap = p.flap := rfl
@[simp] theorem Part.discardLanes_chan (p : Part) (f : Lane → Bool) : (p.discardLanes f).chan = p.chan := rfl
@[simp] theorem Part.discardLanes_retRoute (p : Part) (f : Lane → Bool) : (p.discardLanes f).retRoute = p.retRoute := rfl
@[simp] theorem Part.discardLanes_link (p : Part) (f : Lane → Bool) : (p.discardLanes f).link = p.link := rfl
@[simp] theorem Part.discardLanes_faults (p : Part) (f : Lane → Bool) : (p.discardLanes f).faults = p.faults := rfl
@[simp] theorem Part.discardLanes_flags (p : Part) (f : Lane → Bool) : (p.discardLanes f).flags = p.flags := rfl
@[simp] theorem Part.discardLanes_vl (p : Part) (f : Lane → Bool) : (p.discardLanes f).vl = p.vl := rfl
@[simp] theorem Part.discardLanes_fswClosed (p : Part) (f : Lane → Bool) : (p.discardLanes f).fswClosed = p.fswClosed := rfl
@[simp] theorem Part.discardLanes_handed (p : Part) (f : Lane → Bool) :
    (p.discardLanes f).handed = p.handed.filter fun h => !f h.lane := rfl

@[simp] theorem Part.needCapacities_now (p : Part) : p.needCapacities.now = p.now := rfl
@[simp] theorem Part.needCapacities_control (p : Part) : p.needCapacities.control = p.control := rfl
@[simp] theorem Part.needCapacities_store (p : Part) : p.needCapacities.store = p.store := rfl
@[simp] theorem Part.needCapacities_demand (p : Part) : p.needCapacities.demand = p.demand := rfl
@[simp] theorem Part.needCapacities_motion (p : Part) : p.needCapacities.motion = p.motion := rfl
@[simp] theorem Part.needCapacities_slip (p : Part) : p.needCapacities.slip = p.slip := rfl
@[simp] theorem Part.needCapacities_cap (p : Part) : p.needCapacities.cap = p.cap := rfl
@[simp] theorem Part.needCapacities_app (p : Part) : p.needCapacities.app = p.app := rfl
@[simp] theorem Part.needCapacities_thermal (p : Part) : p.needCapacities.thermal = p.thermal := rfl
@[simp] theorem Part.needCapacities_ret (p : Part) : p.needCapacities.ret = p.ret := rfl
@[simp] theorem Part.needCapacities_flap (p : Part) : p.needCapacities.flap = p.flap := rfl
@[simp] theorem Part.needCapacities_chan (p : Part) : p.needCapacities.chan = p.chan := rfl
@[simp] theorem Part.needCapacities_retRoute (p : Part) : p.needCapacities.retRoute = p.retRoute := rfl
@[simp] theorem Part.needCapacities_link (p : Part) : p.needCapacities.link = p.link := rfl
@[simp] theorem Part.needCapacities_faults (p : Part) : p.needCapacities.faults = p.faults := rfl
@[simp] theorem Part.needCapacities_flags (p : Part) : p.needCapacities.flags = p.flags := rfl
@[simp] theorem Part.needCapacities_vl (p : Part) : p.needCapacities.vl = p.vl := rfl
@[simp] theorem Part.needCapacities_fswClosed (p : Part) : p.needCapacities.fswClosed = p.fswClosed := rfl
@[simp] theorem Part.needCapacities_handed (p : Part) :
    p.needCapacities.handed = p.handed ++ [.recompute] := rfl

@[simp] theorem Part.form_now (p : Part) (f : Frame) : (p.form f).now = p.now := rfl
@[simp] theorem Part.form_control (p : Part) (f : Frame) : (p.form f).control = p.control := rfl
@[simp] theorem Part.form_store (p : Part) (f : Frame) : (p.form f).store = p.store := rfl
@[simp] theorem Part.form_demand (p : Part) (f : Frame) : (p.form f).demand = p.demand := rfl
@[simp] theorem Part.form_motion (p : Part) (f : Frame) : (p.form f).motion = p.motion := rfl
@[simp] theorem Part.form_slip (p : Part) (f : Frame) : (p.form f).slip = p.slip := rfl
@[simp] theorem Part.form_cap (p : Part) (f : Frame) : (p.form f).cap = p.cap := rfl
@[simp] theorem Part.form_app (p : Part) (f : Frame) : (p.form f).app = p.app := rfl
@[simp] theorem Part.form_thermal (p : Part) (f : Frame) : (p.form f).thermal = p.thermal := rfl
@[simp] theorem Part.form_ret (p : Part) (f : Frame) : (p.form f).ret = p.ret := rfl
@[simp] theorem Part.form_flap (p : Part) (f : Frame) : (p.form f).flap = p.flap := rfl
@[simp] theorem Part.form_chan (p : Part) (f : Frame) : (p.form f).chan = p.chan := rfl
@[simp] theorem Part.form_retRoute (p : Part) (f : Frame) : (p.form f).retRoute = p.retRoute := rfl
@[simp] theorem Part.form_link (p : Part) (f : Frame) : (p.form f).link = p.link := rfl
@[simp] theorem Part.form_faults (p : Part) (f : Frame) : (p.form f).faults = p.faults := rfl
@[simp] theorem Part.form_flags (p : Part) (f : Frame) : (p.form f).flags = p.flags := rfl
@[simp] theorem Part.form_vl (p : Part) (f : Frame) :
    (p.form f).vl = { p.vl with tx := p.vl.tx ++ [f] } := rfl
@[simp] theorem Part.form_fswClosed (p : Part) (f : Frame) : (p.form f).fswClosed = p.fswClosed := rfl
@[simp] theorem Part.form_handed (p : Part) (f : Frame) : (p.form f).handed = p.handed := rfl

@[simp] theorem Part.answer_now (p : Part) (kind tag : Byte) (r : Reply) : (p.answer kind tag r).now = p.now := rfl
@[simp] theorem Part.answer_control (p : Part) (kind tag : Byte) (r : Reply) : (p.answer kind tag r).control = p.control := rfl
@[simp] theorem Part.answer_store (p : Part) (kind tag : Byte) (r : Reply) : (p.answer kind tag r).store = p.store := rfl
@[simp] theorem Part.answer_demand (p : Part) (kind tag : Byte) (r : Reply) : (p.answer kind tag r).demand = p.demand := rfl
@[simp] theorem Part.answer_motion (p : Part) (kind tag : Byte) (r : Reply) : (p.answer kind tag r).motion = p.motion := rfl
@[simp] theorem Part.answer_slip (p : Part) (kind tag : Byte) (r : Reply) : (p.answer kind tag r).slip = p.slip := rfl
@[simp] theorem Part.answer_cap (p : Part) (kind tag : Byte) (r : Reply) : (p.answer kind tag r).cap = p.cap := rfl
@[simp] theorem Part.answer_app (p : Part) (kind tag : Byte) (r : Reply) : (p.answer kind tag r).app = p.app := rfl
@[simp] theorem Part.answer_thermal (p : Part) (kind tag : Byte) (r : Reply) : (p.answer kind tag r).thermal = p.thermal := rfl
@[simp] theorem Part.answer_ret (p : Part) (kind tag : Byte) (r : Reply) : (p.answer kind tag r).ret = p.ret := rfl
@[simp] theorem Part.answer_flap (p : Part) (kind tag : Byte) (r : Reply) : (p.answer kind tag r).flap = p.flap := rfl
@[simp] theorem Part.answer_chan (p : Part) (kind tag : Byte) (r : Reply) : (p.answer kind tag r).chan = p.chan := rfl
@[simp] theorem Part.answer_retRoute (p : Part) (kind tag : Byte) (r : Reply) : (p.answer kind tag r).retRoute = p.retRoute := rfl
@[simp] theorem Part.answer_link (p : Part) (kind tag : Byte) (r : Reply) : (p.answer kind tag r).link = p.link := rfl
@[simp] theorem Part.answer_faults (p : Part) (kind tag : Byte) (r : Reply) : (p.answer kind tag r).faults = p.faults := rfl
@[simp] theorem Part.answer_flags (p : Part) (kind tag : Byte) (r : Reply) : (p.answer kind tag r).flags = p.flags := rfl
@[simp] theorem Part.answer_vl (p : Part) (kind tag : Byte) (r : Reply) :
    (p.answer kind tag r).vl = { p.vl with tx := p.vl.tx ++ [.answer ⟨tag, kind, r⟩] } := rfl
@[simp] theorem Part.answer_fswClosed (p : Part) (kind tag : Byte) (r : Reply) : (p.answer kind tag r).fswClosed = p.fswClosed := rfl
@[simp] theorem Part.answer_handed (p : Part) (kind tag : Byte) (r : Reply) : (p.answer kind tag r).handed = p.handed := rfl

@[simp] theorem Part.setReceive_now (p : Part) (rx : Option (List Byte)) : (p.setReceive rx).now = p.now := rfl
@[simp] theorem Part.setReceive_control (p : Part) (rx : Option (List Byte)) : (p.setReceive rx).control = p.control := rfl
@[simp] theorem Part.setReceive_store (p : Part) (rx : Option (List Byte)) : (p.setReceive rx).store = p.store := rfl
@[simp] theorem Part.setReceive_demand (p : Part) (rx : Option (List Byte)) : (p.setReceive rx).demand = p.demand := rfl
@[simp] theorem Part.setReceive_motion (p : Part) (rx : Option (List Byte)) : (p.setReceive rx).motion = p.motion := rfl
@[simp] theorem Part.setReceive_slip (p : Part) (rx : Option (List Byte)) : (p.setReceive rx).slip = p.slip := rfl
@[simp] theorem Part.setReceive_cap (p : Part) (rx : Option (List Byte)) : (p.setReceive rx).cap = p.cap := rfl
@[simp] theorem Part.setReceive_app (p : Part) (rx : Option (List Byte)) : (p.setReceive rx).app = p.app := rfl
@[simp] theorem Part.setReceive_thermal (p : Part) (rx : Option (List Byte)) : (p.setReceive rx).thermal = p.thermal := rfl
@[simp] theorem Part.setReceive_ret (p : Part) (rx : Option (List Byte)) : (p.setReceive rx).ret = p.ret := rfl
@[simp] theorem Part.setReceive_flap (p : Part) (rx : Option (List Byte)) : (p.setReceive rx).flap = p.flap := rfl
@[simp] theorem Part.setReceive_chan (p : Part) (rx : Option (List Byte)) : (p.setReceive rx).chan = p.chan := rfl
@[simp] theorem Part.setReceive_retRoute (p : Part) (rx : Option (List Byte)) : (p.setReceive rx).retRoute = p.retRoute := rfl
@[simp] theorem Part.setReceive_link (p : Part) (rx : Option (List Byte)) : (p.setReceive rx).link = p.link := rfl
@[simp] theorem Part.setReceive_faults (p : Part) (rx : Option (List Byte)) : (p.setReceive rx).faults = p.faults := rfl
@[simp] theorem Part.setReceive_flags (p : Part) (rx : Option (List Byte)) : (p.setReceive rx).flags = p.flags := rfl
@[simp] theorem Part.setReceive_vl (p : Part) (rx : Option (List Byte)) :
    (p.setReceive rx).vl = { p.vl with rx := rx } := rfl
@[simp] theorem Part.setReceive_fswClosed (p : Part) (rx : Option (List Byte)) : (p.setReceive rx).fswClosed = p.fswClosed := rfl
@[simp] theorem Part.setReceive_handed (p : Part) (rx : Option (List Byte)) : (p.setReceive rx).handed = p.handed := rfl

@[simp] theorem Part.abandonFrame_now (p : Part) : p.abandonFrame.now = p.now := rfl
@[simp] theorem Part.abandonFrame_control (p : Part) : p.abandonFrame.control = p.control := rfl
@[simp] theorem Part.abandonFrame_store (p : Part) : p.abandonFrame.store = p.store := rfl
@[simp] theorem Part.abandonFrame_demand (p : Part) : p.abandonFrame.demand = p.demand := rfl
@[simp] theorem Part.abandonFrame_motion (p : Part) : p.abandonFrame.motion = p.motion := rfl
@[simp] theorem Part.abandonFrame_slip (p : Part) : p.abandonFrame.slip = p.slip := rfl
@[simp] theorem Part.abandonFrame_cap (p : Part) : p.abandonFrame.cap = p.cap := rfl
@[simp] theorem Part.abandonFrame_app (p : Part) : p.abandonFrame.app = p.app := rfl
@[simp] theorem Part.abandonFrame_thermal (p : Part) : p.abandonFrame.thermal = p.thermal := rfl
@[simp] theorem Part.abandonFrame_ret (p : Part) : p.abandonFrame.ret = p.ret := rfl
@[simp] theorem Part.abandonFrame_flap (p : Part) : p.abandonFrame.flap = p.flap := rfl
@[simp] theorem Part.abandonFrame_chan (p : Part) : p.abandonFrame.chan = p.chan := rfl
@[simp] theorem Part.abandonFrame_retRoute (p : Part) : p.abandonFrame.retRoute = p.retRoute := rfl
@[simp] theorem Part.abandonFrame_link (p : Part) : p.abandonFrame.link = p.link := rfl
@[simp] theorem Part.abandonFrame_faults (p : Part) : p.abandonFrame.faults = p.faults := rfl
@[simp] theorem Part.abandonFrame_flags (p : Part) : p.abandonFrame.flags = p.flags := rfl
@[simp] theorem Part.abandonFrame_fswClosed (p : Part) : p.abandonFrame.fswClosed = p.fswClosed := rfl
@[simp] theorem Part.abandonFrame_handed (p : Part) : p.abandonFrame.handed = p.handed := rfl

@[simp] theorem Part.setChannel_now (p : Part) (a : Axle) (c : Channel) : (p.setChannel a c).now = p.now := rfl
@[simp] theorem Part.setChannel_control (p : Part) (a : Axle) (c : Channel) : (p.setChannel a c).control = p.control := rfl
@[simp] theorem Part.setChannel_store (p : Part) (a : Axle) (c : Channel) : (p.setChannel a c).store = p.store := rfl
@[simp] theorem Part.setChannel_demand (p : Part) (a : Axle) (c : Channel) : (p.setChannel a c).demand = p.demand := rfl
@[simp] theorem Part.setChannel_motion (p : Part) (a : Axle) (c : Channel) : (p.setChannel a c).motion = p.motion := rfl
@[simp] theorem Part.setChannel_slip (p : Part) (a : Axle) (c : Channel) : (p.setChannel a c).slip = p.slip := rfl
@[simp] theorem Part.setChannel_cap (p : Part) (a : Axle) (c : Channel) : (p.setChannel a c).cap = p.cap := rfl
@[simp] theorem Part.setChannel_app (p : Part) (a : Axle) (c : Channel) : (p.setChannel a c).app = p.app := rfl
@[simp] theorem Part.setChannel_thermal (p : Part) (a : Axle) (c : Channel) : (p.setChannel a c).thermal = p.thermal := rfl
@[simp] theorem Part.setChannel_ret (p : Part) (a : Axle) (c : Channel) : (p.setChannel a c).ret = p.ret := rfl
@[simp] theorem Part.setChannel_flap (p : Part) (a : Axle) (c : Channel) : (p.setChannel a c).flap = p.flap := rfl
@[simp] theorem Part.setChannel_chan (p : Part) (a : Axle) (c : Channel) :
    (p.setChannel a c).chan = p.chan.set a c := rfl
@[simp] theorem Part.setChannel_retRoute (p : Part) (a : Axle) (c : Channel) : (p.setChannel a c).retRoute = p.retRoute := rfl
@[simp] theorem Part.setChannel_link (p : Part) (a : Axle) (c : Channel) : (p.setChannel a c).link = p.link := rfl
@[simp] theorem Part.setChannel_faults (p : Part) (a : Axle) (c : Channel) : (p.setChannel a c).faults = p.faults := rfl
@[simp] theorem Part.setChannel_flags (p : Part) (a : Axle) (c : Channel) : (p.setChannel a c).flags = p.flags := rfl
@[simp] theorem Part.setChannel_vl (p : Part) (a : Axle) (c : Channel) : (p.setChannel a c).vl = p.vl := rfl
@[simp] theorem Part.setChannel_fswClosed (p : Part) (a : Axle) (c : Channel) : (p.setChannel a c).fswClosed = p.fswClosed := rfl
@[simp] theorem Part.setChannel_handed (p : Part) (a : Axle) (c : Channel) : (p.setChannel a c).handed = p.handed := rfl

@[simp] theorem Part.setFlap_now (p : Part) (f : FlapControl) : (p.setFlap f).now = p.now := rfl
@[simp] theorem Part.setFlap_control (p : Part) (f : FlapControl) : (p.setFlap f).control = p.control := rfl
@[simp] theorem Part.setFlap_store (p : Part) (f : FlapControl) : (p.setFlap f).store = p.store := rfl
@[simp] theorem Part.setFlap_demand (p : Part) (f : FlapControl) : (p.setFlap f).demand = p.demand := rfl
@[simp] theorem Part.setFlap_motion (p : Part) (f : FlapControl) : (p.setFlap f).motion = p.motion := rfl
@[simp] theorem Part.setFlap_slip (p : Part) (f : FlapControl) : (p.setFlap f).slip = p.slip := rfl
@[simp] theorem Part.setFlap_cap (p : Part) (f : FlapControl) : (p.setFlap f).cap = p.cap := rfl
@[simp] theorem Part.setFlap_app (p : Part) (f : FlapControl) : (p.setFlap f).app = p.app := rfl
@[simp] theorem Part.setFlap_thermal (p : Part) (f : FlapControl) : (p.setFlap f).thermal = p.thermal := rfl
@[simp] theorem Part.setFlap_ret (p : Part) (f : FlapControl) : (p.setFlap f).ret = p.ret := rfl
@[simp] theorem Part.setFlap_flap (p : Part) (f : FlapControl) :
    (p.setFlap f).flap = f := rfl
@[simp] theorem Part.setFlap_chan (p : Part) (f : FlapControl) : (p.setFlap f).chan = p.chan := rfl
@[simp] theorem Part.setFlap_retRoute (p : Part) (f : FlapControl) : (p.setFlap f).retRoute = p.retRoute := rfl
@[simp] theorem Part.setFlap_link (p : Part) (f : FlapControl) : (p.setFlap f).link = p.link := rfl
@[simp] theorem Part.setFlap_faults (p : Part) (f : FlapControl) : (p.setFlap f).faults = p.faults := rfl
@[simp] theorem Part.setFlap_flags (p : Part) (f : FlapControl) : (p.setFlap f).flags = p.flags := rfl
@[simp] theorem Part.setFlap_vl (p : Part) (f : FlapControl) : (p.setFlap f).vl = p.vl := rfl
@[simp] theorem Part.setFlap_fswClosed (p : Part) (f : FlapControl) : (p.setFlap f).fswClosed = p.fswClosed := rfl
@[simp] theorem Part.setFlap_handed (p : Part) (f : FlapControl) : (p.setFlap f).handed = p.handed := rfl

@[simp] theorem Part.setSlip_now (p : Part) (m : SlipMonitor) : (p.setSlip m).now = p.now := rfl
@[simp] theorem Part.setSlip_control (p : Part) (m : SlipMonitor) : (p.setSlip m).control = p.control := rfl
@[simp] theorem Part.setSlip_store (p : Part) (m : SlipMonitor) : (p.setSlip m).store = p.store := rfl
@[simp] theorem Part.setSlip_demand (p : Part) (m : SlipMonitor) : (p.setSlip m).demand = p.demand := rfl
@[simp] theorem Part.setSlip_motion (p : Part) (m : SlipMonitor) : (p.setSlip m).motion = p.motion := rfl
@[simp] theorem Part.setSlip_slip (p : Part) (m : SlipMonitor) :
    (p.setSlip m).slip = m := rfl
@[simp] theorem Part.setSlip_cap (p : Part) (m : SlipMonitor) : (p.setSlip m).cap = p.cap := rfl
@[simp] theorem Part.setSlip_app (p : Part) (m : SlipMonitor) : (p.setSlip m).app = p.app := rfl
@[simp] theorem Part.setSlip_thermal (p : Part) (m : SlipMonitor) : (p.setSlip m).thermal = p.thermal := rfl
@[simp] theorem Part.setSlip_ret (p : Part) (m : SlipMonitor) : (p.setSlip m).ret = p.ret := rfl
@[simp] theorem Part.setSlip_flap (p : Part) (m : SlipMonitor) : (p.setSlip m).flap = p.flap := rfl
@[simp] theorem Part.setSlip_chan (p : Part) (m : SlipMonitor) : (p.setSlip m).chan = p.chan := rfl
@[simp] theorem Part.setSlip_retRoute (p : Part) (m : SlipMonitor) : (p.setSlip m).retRoute = p.retRoute := rfl
@[simp] theorem Part.setSlip_link (p : Part) (m : SlipMonitor) : (p.setSlip m).link = p.link := rfl
@[simp] theorem Part.setSlip_faults (p : Part) (m : SlipMonitor) : (p.setSlip m).faults = p.faults := rfl
@[simp] theorem Part.setSlip_flags (p : Part) (m : SlipMonitor) : (p.setSlip m).flags = p.flags := rfl
@[simp] theorem Part.setSlip_vl (p : Part) (m : SlipMonitor) : (p.setSlip m).vl = p.vl := rfl
@[simp] theorem Part.setSlip_fswClosed (p : Part) (m : SlipMonitor) : (p.setSlip m).fswClosed = p.fswClosed := rfl
@[simp] theorem Part.setSlip_handed (p : Part) (m : SlipMonitor) : (p.setSlip m).handed = p.handed := rfl

@[simp] theorem Part.setRetarder_now (p : Part) (st : RetarderState) : (p.setRetarder st).now = p.now := rfl
@[simp] theorem Part.setRetarder_control (p : Part) (st : RetarderState) : (p.setRetarder st).control = p.control := rfl
@[simp] theorem Part.setRetarder_store (p : Part) (st : RetarderState) : (p.setRetarder st).store = p.store := rfl
@[simp] theorem Part.setRetarder_demand (p : Part) (st : RetarderState) : (p.setRetarder st).demand = p.demand := rfl
@[simp] theorem Part.setRetarder_motion (p : Part) (st : RetarderState) : (p.setRetarder st).motion = p.motion := rfl
@[simp] theorem Part.setRetarder_slip (p : Part) (st : RetarderState) : (p.setRetarder st).slip = p.slip := rfl
@[simp] theorem Part.setRetarder_cap (p : Part) (st : RetarderState) : (p.setRetarder st).cap = p.cap := rfl
@[simp] theorem Part.setRetarder_app (p : Part) (st : RetarderState) : (p.setRetarder st).app = p.app := rfl
@[simp] theorem Part.setRetarder_thermal (p : Part) (st : RetarderState) : (p.setRetarder st).thermal = p.thermal := rfl
@[simp] theorem Part.setRetarder_flap (p : Part) (st : RetarderState) : (p.setRetarder st).flap = p.flap := rfl
@[simp] theorem Part.setRetarder_chan (p : Part) (st : RetarderState) : (p.setRetarder st).chan = p.chan := rfl
@[simp] theorem Part.setRetarder_retRoute (p : Part) (st : RetarderState) : (p.setRetarder st).retRoute = p.retRoute := rfl
@[simp] theorem Part.setRetarder_link (p : Part) (st : RetarderState) : (p.setRetarder st).link = p.link := rfl
@[simp] theorem Part.setRetarder_faults (p : Part) (st : RetarderState) : (p.setRetarder st).faults = p.faults := rfl
@[simp] theorem Part.setRetarder_flags (p : Part) (st : RetarderState) : (p.setRetarder st).flags = p.flags := rfl
@[simp] theorem Part.setRetarder_vl (p : Part) (st : RetarderState) : (p.setRetarder st).vl = p.vl := rfl
@[simp] theorem Part.setRetarder_fswClosed (p : Part) (st : RetarderState) : (p.setRetarder st).fswClosed = p.fswClosed := rfl
@[simp] theorem Part.setRetarder_handed (p : Part) (st : RetarderState) : (p.setRetarder st).handed = p.handed := rfl

@[simp] theorem Part.setNode_now (p : Part) (addr : Nat) (f : NodeEntry → NodeEntry) : (p.setNode addr f).now = p.now := rfl
@[simp] theorem Part.setNode_control (p : Part) (addr : Nat) (f : NodeEntry → NodeEntry) : (p.setNode addr f).control = p.control := rfl
@[simp] theorem Part.setNode_store (p : Part) (addr : Nat) (f : NodeEntry → NodeEntry) : (p.setNode addr f).store = p.store := rfl
@[simp] theorem Part.setNode_demand (p : Part) (addr : Nat) (f : NodeEntry → NodeEntry) : (p.setNode addr f).demand = p.demand := rfl
@[simp] theorem Part.setNode_motion (p : Part) (addr : Nat) (f : NodeEntry → NodeEntry) : (p.setNode addr f).motion = p.motion := rfl
@[simp] theorem Part.setNode_slip (p : Part) (addr : Nat) (f : NodeEntry → NodeEntry) : (p.setNode addr f).slip = p.slip := rfl
@[simp] theorem Part.setNode_cap (p : Part) (addr : Nat) (f : NodeEntry → NodeEntry) : (p.setNode addr f).cap = p.cap := rfl
@[simp] theorem Part.setNode_app (p : Part) (addr : Nat) (f : NodeEntry → NodeEntry) : (p.setNode addr f).app = p.app := rfl
@[simp] theorem Part.setNode_thermal (p : Part) (addr : Nat) (f : NodeEntry → NodeEntry) : (p.setNode addr f).thermal = p.thermal := rfl
@[simp] theorem Part.setNode_ret (p : Part) (addr : Nat) (f : NodeEntry → NodeEntry) : (p.setNode addr f).ret = p.ret := rfl
@[simp] theorem Part.setNode_flap (p : Part) (addr : Nat) (f : NodeEntry → NodeEntry) : (p.setNode addr f).flap = p.flap := rfl
@[simp] theorem Part.setNode_chan (p : Part) (addr : Nat) (f : NodeEntry → NodeEntry) : (p.setNode addr f).chan = p.chan := rfl
@[simp] theorem Part.setNode_retRoute (p : Part) (addr : Nat) (f : NodeEntry → NodeEntry) : (p.setNode addr f).retRoute = p.retRoute := rfl
@[simp] theorem Part.setNode_faults (p : Part) (addr : Nat) (f : NodeEntry → NodeEntry) : (p.setNode addr f).faults = p.faults := rfl
@[simp] theorem Part.setNode_flags (p : Part) (addr : Nat) (f : NodeEntry → NodeEntry) : (p.setNode addr f).flags = p.flags := rfl
@[simp] theorem Part.setNode_vl (p : Part) (addr : Nat) (f : NodeEntry → NodeEntry) : (p.setNode addr f).vl = p.vl := rfl
@[simp] theorem Part.setNode_fswClosed (p : Part) (addr : Nat) (f : NodeEntry → NodeEntry) : (p.setNode addr f).fswClosed = p.fswClosed := rfl
@[simp] theorem Part.setNode_handed (p : Part) (addr : Nat) (f : NodeEntry → NodeEntry) : (p.setNode addr f).handed = p.handed := rfl

@[simp] theorem Part.endTransaction_now (p : Part) : p.endTransaction.now = p.now := rfl
@[simp] theorem Part.endTransaction_control (p : Part) : p.endTransaction.control = p.control := rfl
@[simp] theorem Part.endTransaction_store (p : Part) : p.endTransaction.store = p.store := rfl
@[simp] theorem Part.endTransaction_demand (p : Part) : p.endTransaction.demand = p.demand := rfl
@[simp] theorem Part.endTransaction_motion (p : Part) : p.endTransaction.motion = p.motion := rfl
@[simp] theorem Part.endTransaction_slip (p : Part) : p.endTransaction.slip = p.slip := rfl
@[simp] theorem Part.endTransaction_cap (p : Part) : p.endTransaction.cap = p.cap := rfl
@[simp] theorem Part.endTransaction_app (p : Part) : p.endTransaction.app = p.app := rfl
@[simp] theorem Part.endTransaction_thermal (p : Part) : p.endTransaction.thermal = p.thermal := rfl
@[simp] theorem Part.endTransaction_ret (p : Part) : p.endTransaction.ret = p.ret := rfl
@[simp] theorem Part.endTransaction_flap (p : Part) : p.endTransaction.flap = p.flap := rfl
@[simp] theorem Part.endTransaction_chan (p : Part) : p.endTransaction.chan = p.chan := rfl
@[simp] theorem Part.endTransaction_retRoute (p : Part) : p.endTransaction.retRoute = p.retRoute := rfl
@[simp] theorem Part.endTransaction_link (p : Part) :
    p.endTransaction.link = { p.link with phase := .idle } := rfl
@[simp] theorem Part.endTransaction_faults (p : Part) : p.endTransaction.faults = p.faults := rfl
@[simp] theorem Part.endTransaction_flags (p : Part) : p.endTransaction.flags = p.flags := rfl
@[simp] theorem Part.endTransaction_vl (p : Part) : p.endTransaction.vl = p.vl := rfl
@[simp] theorem Part.endTransaction_fswClosed (p : Part) : p.endTransaction.fswClosed = p.fswClosed := rfl
@[simp] theorem Part.endTransaction_handed (p : Part) : p.endTransaction.handed = p.handed := rfl

@[simp] theorem Part.beginTransaction_now (p : Part) (r : Request) : (p.beginTransaction r).now = p.now := rfl
@[simp] theorem Part.beginTransaction_control (p : Part) (r : Request) : (p.beginTransaction r).control = p.control := rfl
@[simp] theorem Part.beginTransaction_store (p : Part) (r : Request) : (p.beginTransaction r).store = p.store := rfl
@[simp] theorem Part.beginTransaction_demand (p : Part) (r : Request) : (p.beginTransaction r).demand = p.demand := rfl
@[simp] theorem Part.beginTransaction_motion (p : Part) (r : Request) : (p.beginTransaction r).motion = p.motion := rfl
@[simp] theorem Part.beginTransaction_slip (p : Part) (r : Request) : (p.beginTransaction r).slip = p.slip := rfl
@[simp] theorem Part.beginTransaction_cap (p : Part) (r : Request) : (p.beginTransaction r).cap = p.cap := rfl
@[simp] theorem Part.beginTransaction_app (p : Part) (r : Request) : (p.beginTransaction r).app = p.app := rfl
@[simp] theorem Part.beginTransaction_thermal (p : Part) (r : Request) : (p.beginTransaction r).thermal = p.thermal := rfl
@[simp] theorem Part.beginTransaction_ret (p : Part) (r : Request) : (p.beginTransaction r).ret = p.ret := rfl
@[simp] theorem Part.beginTransaction_flap (p : Part) (r : Request) : (p.beginTransaction r).flap = p.flap := rfl
@[simp] theorem Part.beginTransaction_chan (p : Part) (r : Request) : (p.beginTransaction r).chan = p.chan := rfl
@[simp] theorem Part.beginTransaction_retRoute (p : Part) (r : Request) : (p.beginTransaction r).retRoute = p.retRoute := rfl
@[simp] theorem Part.beginTransaction_faults (p : Part) (r : Request) : (p.beginTransaction r).faults = p.faults := rfl
@[simp] theorem Part.beginTransaction_flags (p : Part) (r : Request) : (p.beginTransaction r).flags = p.flags := rfl
@[simp] theorem Part.beginTransaction_vl (p : Part) (r : Request) : (p.beginTransaction r).vl = p.vl := rfl
@[simp] theorem Part.beginTransaction_fswClosed (p : Part) (r : Request) : (p.beginTransaction r).fswClosed = p.fswClosed := rfl
@[simp] theorem Part.beginTransaction_handed (p : Part) (r : Request) : (p.beginTransaction r).handed = p.handed := rfl

@[simp] theorem Part.setCursor_now (p : Part) (c : Option Cursor) : (p.setCursor c).now = p.now := rfl
@[simp] theorem Part.setCursor_control (p : Part) (c : Option Cursor) : (p.setCursor c).control = p.control := rfl
@[simp] theorem Part.setCursor_store (p : Part) (c : Option Cursor) :
    (p.setCursor c).store = { p.store with cursor := c } := rfl
@[simp] theorem Part.setCursor_demand (p : Part) (c : Option Cursor) : (p.setCursor c).demand = p.demand := rfl
@[simp] theorem Part.setCursor_motion (p : Part) (c : Option Cursor) : (p.setCursor c).motion = p.motion := rfl
@[simp] theorem Part.setCursor_slip (p : Part) (c : Option Cursor) : (p.setCursor c).slip = p.slip := rfl
@[simp] theorem Part.setCursor_cap (p : Part) (c : Option Cursor) : (p.setCursor c).cap = p.cap := rfl
@[simp] theorem Part.setCursor_app (p : Part) (c : Option Cursor) : (p.setCursor c).app = p.app := rfl
@[simp] theorem Part.setCursor_thermal (p : Part) (c : Option Cursor) : (p.setCursor c).thermal = p.thermal := rfl
@[simp] theorem Part.setCursor_ret (p : Part) (c : Option Cursor) : (p.setCursor c).ret = p.ret := rfl
@[simp] theorem Part.setCursor_flap (p : Part) (c : Option Cursor) : (p.setCursor c).flap = p.flap := rfl
@[simp] theorem Part.setCursor_chan (p : Part) (c : Option Cursor) : (p.setCursor c).chan = p.chan := rfl
@[simp] theorem Part.setCursor_retRoute (p : Part) (c : Option Cursor) : (p.setCursor c).retRoute = p.retRoute := rfl
@[simp] theorem Part.setCursor_link (p : Part) (c : Option Cursor) : (p.setCursor c).link = p.link := rfl
@[simp] theorem Part.setCursor_faults (p : Part) (c : Option Cursor) : (p.setCursor c).faults = p.faults := rfl
@[simp] theorem Part.setCursor_flags (p : Part) (c : Option Cursor) : (p.setCursor c).flags = p.flags := rfl
@[simp] theorem Part.setCursor_vl (p : Part) (c : Option Cursor) : (p.setCursor c).vl = p.vl := rfl
@[simp] theorem Part.setCursor_fswClosed (p : Part) (c : Option Cursor) : (p.setCursor c).fswClosed = p.fswClosed := rfl
@[simp] theorem Part.setCursor_handed (p : Part) (c : Option Cursor) : (p.setCursor c).handed = p.handed := rfl

@[simp] theorem Part.setGearCount_now (p : Part) (n : Nat) : (p.setGearCount n).now = p.now := rfl
@[simp] theorem Part.setGearCount_control (p : Part) (n : Nat) : (p.setGearCount n).control = p.control := rfl
@[simp] theorem Part.setGearCount_store (p : Part) (n : Nat) :
    (p.setGearCount n).store = { p.store with gearCount := n } := rfl
@[simp] theorem Part.setGearCount_demand (p : Part) (n : Nat) : (p.setGearCount n).demand = p.demand := rfl
@[simp] theorem Part.setGearCount_motion (p : Part) (n : Nat) : (p.setGearCount n).motion = p.motion := rfl
@[simp] theorem Part.setGearCount_slip (p : Part) (n : Nat) : (p.setGearCount n).slip = p.slip := rfl
@[simp] theorem Part.setGearCount_cap (p : Part) (n : Nat) : (p.setGearCount n).cap = p.cap := rfl
@[simp] theorem Part.setGearCount_app (p : Part) (n : Nat) : (p.setGearCount n).app = p.app := rfl
@[simp] theorem Part.setGearCount_thermal (p : Part) (n : Nat) : (p.setGearCount n).thermal = p.thermal := rfl
@[simp] theorem Part.setGearCount_ret (p : Part) (n : Nat) : (p.setGearCount n).ret = p.ret := rfl
@[simp] theorem Part.setGearCount_flap (p : Part) (n : Nat) : (p.setGearCount n).flap = p.flap := rfl
@[simp] theorem Part.setGearCount_chan (p : Part) (n : Nat) : (p.setGearCount n).chan = p.chan := rfl
@[simp] theorem Part.setGearCount_retRoute (p : Part) (n : Nat) : (p.setGearCount n).retRoute = p.retRoute := rfl
@[simp] theorem Part.setGearCount_link (p : Part) (n : Nat) : (p.setGearCount n).link = p.link := rfl
@[simp] theorem Part.setGearCount_faults (p : Part) (n : Nat) : (p.setGearCount n).faults = p.faults := rfl
@[simp] theorem Part.setGearCount_flags (p : Part) (n : Nat) : (p.setGearCount n).flags = p.flags := rfl
@[simp] theorem Part.setGearCount_vl (p : Part) (n : Nat) : (p.setGearCount n).vl = p.vl := rfl
@[simp] theorem Part.setGearCount_fswClosed (p : Part) (n : Nat) : (p.setGearCount n).fswClosed = p.fswClosed := rfl
@[simp] theorem Part.setGearCount_handed (p : Part) (n : Nat) : (p.setGearCount n).handed = p.handed := rfl

@[simp] theorem Part.countClamped_now (p : Part) : p.countClamped.now = p.now := rfl
@[simp] theorem Part.countClamped_control (p : Part) : p.countClamped.control = p.control := rfl
@[simp] theorem Part.countClamped_store (p : Part) : p.countClamped.store = p.store := rfl
@[simp] theorem Part.countClamped_demand (p : Part) : p.countClamped.demand = p.demand := rfl
@[simp] theorem Part.countClamped_slip (p : Part) : p.countClamped.slip = p.slip := rfl
@[simp] theorem Part.countClamped_cap (p : Part) : p.countClamped.cap = p.cap := rfl
@[simp] theorem Part.countClamped_app (p : Part) : p.countClamped.app = p.app := rfl
@[simp] theorem Part.countClamped_thermal (p : Part) : p.countClamped.thermal = p.thermal := rfl
@[simp] theorem Part.countClamped_ret (p : Part) : p.countClamped.ret = p.ret := rfl
@[simp] theorem Part.countClamped_flap (p : Part) : p.countClamped.flap = p.flap := rfl
@[simp] theorem Part.countClamped_chan (p : Part) : p.countClamped.chan = p.chan := rfl
@[simp] theorem Part.countClamped_retRoute (p : Part) : p.countClamped.retRoute = p.retRoute := rfl
@[simp] theorem Part.countClamped_link (p : Part) : p.countClamped.link = p.link := rfl
@[simp] theorem Part.countClamped_faults (p : Part) : p.countClamped.faults = p.faults := rfl
@[simp] theorem Part.countClamped_flags (p : Part) : p.countClamped.flags = p.flags := rfl
@[simp] theorem Part.countClamped_vl (p : Part) : p.countClamped.vl = p.vl := rfl
@[simp] theorem Part.countClamped_fswClosed (p : Part) : p.countClamped.fswClosed = p.fswClosed := rfl
@[simp] theorem Part.countClamped_handed (p : Part) : p.countClamped.handed = p.handed := rfl

@[simp] theorem Part.retotal_now (p : Part) : p.retotal.now = p.now := rfl
@[simp] theorem Part.retotal_control (p : Part) : p.retotal.control = p.control := rfl
@[simp] theorem Part.retotal_store (p : Part) : p.retotal.store = p.store := rfl
@[simp] theorem Part.retotal_demand (p : Part) :
    p.retotal.demand = { p.demand with total := p.totalDemand, lead := p.leadingSource } := rfl
@[simp] theorem Part.retotal_motion (p : Part) : p.retotal.motion = p.motion := rfl
@[simp] theorem Part.retotal_slip (p : Part) : p.retotal.slip = p.slip := rfl
@[simp] theorem Part.retotal_cap (p : Part) : p.retotal.cap = p.cap := rfl
@[simp] theorem Part.retotal_app (p : Part) : p.retotal.app = p.app := rfl
@[simp] theorem Part.retotal_thermal (p : Part) : p.retotal.thermal = p.thermal := rfl
@[simp] theorem Part.retotal_ret (p : Part) : p.retotal.ret = p.ret := rfl
@[simp] theorem Part.retotal_flap (p : Part) : p.retotal.flap = p.flap := rfl
@[simp] theorem Part.retotal_chan (p : Part) : p.retotal.chan = p.chan := rfl
@[simp] theorem Part.retotal_retRoute (p : Part) : p.retotal.retRoute = p.retRoute := rfl
@[simp] theorem Part.retotal_link (p : Part) : p.retotal.link = p.link := rfl
@[simp] theorem Part.retotal_faults (p : Part) : p.retotal.faults = p.faults := rfl
@[simp] theorem Part.retotal_flags (p : Part) : p.retotal.flags = p.flags := rfl
@[simp] theorem Part.retotal_vl (p : Part) : p.retotal.vl = p.vl := rfl
@[simp] theorem Part.retotal_fswClosed (p : Part) : p.retotal.fswClosed = p.fswClosed := rfl
@[simp] theorem Part.retotal_handed (p : Part) : p.retotal.handed = p.handed := rfl

@[simp] theorem Part.cancelHold_now (p : Part) : p.cancelHold.now = p.now := rfl
@[simp] theorem Part.cancelHold_control (p : Part) : p.cancelHold.control = p.control := rfl
@[simp] theorem Part.cancelHold_store (p : Part) : p.cancelHold.store = p.store := rfl
@[simp] theorem Part.cancelHold_motion (p : Part) : p.cancelHold.motion = p.motion := rfl
@[simp] theorem Part.cancelHold_slip (p : Part) : p.cancelHold.slip = p.slip := rfl
@[simp] theorem Part.cancelHold_cap (p : Part) : p.cancelHold.cap = p.cap := rfl
@[simp] theorem Part.cancelHold_app (p : Part) : p.cancelHold.app = p.app := rfl
@[simp] theorem Part.cancelHold_thermal (p : Part) : p.cancelHold.thermal = p.thermal := rfl
@[simp] theorem Part.cancelHold_ret (p : Part) : p.cancelHold.ret = p.ret := rfl
@[simp] theorem Part.cancelHold_flap (p : Part) : p.cancelHold.flap = p.flap := rfl
@[simp] theorem Part.cancelHold_chan (p : Part) : p.cancelHold.chan = p.chan := rfl
@[simp] theorem Part.cancelHold_retRoute (p : Part) : p.cancelHold.retRoute = p.retRoute := rfl
@[simp] theorem Part.cancelHold_link (p : Part) : p.cancelHold.link = p.link := rfl
@[simp] theorem Part.cancelHold_faults (p : Part) : p.cancelHold.faults = p.faults := rfl
@[simp] theorem Part.cancelHold_flags (p : Part) : p.cancelHold.flags = p.flags := rfl
@[simp] theorem Part.cancelHold_vl (p : Part) : p.cancelHold.vl = p.vl := rfl
@[simp] theorem Part.cancelHold_fswClosed (p : Part) : p.cancelHold.fswClosed = p.fswClosed := rfl
@[simp] theorem Part.cancelHold_handed (p : Part) : p.cancelHold.handed = p.handed := rfl

@[simp] theorem Part.startPassTimer_now (p : Part) : p.startPassTimer.now = p.now := rfl
@[simp] theorem Part.startPassTimer_control (p : Part) : p.startPassTimer.control = p.control := rfl
@[simp] theorem Part.startPassTimer_store (p : Part) : p.startPassTimer.store = p.store := rfl
@[simp] theorem Part.startPassTimer_demand (p : Part) : p.startPassTimer.demand = p.demand := rfl
@[simp] theorem Part.startPassTimer_motion (p : Part) : p.startPassTimer.motion = p.motion := rfl
@[simp] theorem Part.startPassTimer_slip (p : Part) : p.startPassTimer.slip = p.slip := rfl
@[simp] theorem Part.startPassTimer_cap (p : Part) : p.startPassTimer.cap = p.cap := rfl
@[simp] theorem Part.startPassTimer_thermal (p : Part) : p.startPassTimer.thermal = p.thermal := rfl
@[simp] theorem Part.startPassTimer_ret (p : Part) : p.startPassTimer.ret = p.ret := rfl
@[simp] theorem Part.startPassTimer_flap (p : Part) : p.startPassTimer.flap = p.flap := rfl
@[simp] theorem Part.startPassTimer_chan (p : Part) : p.startPassTimer.chan = p.chan := rfl
@[simp] theorem Part.startPassTimer_retRoute (p : Part) : p.startPassTimer.retRoute = p.retRoute := rfl
@[simp] theorem Part.startPassTimer_link (p : Part) : p.startPassTimer.link = p.link := rfl
@[simp] theorem Part.startPassTimer_faults (p : Part) : p.startPassTimer.faults = p.faults := rfl
@[simp] theorem Part.startPassTimer_flags (p : Part) : p.startPassTimer.flags = p.flags := rfl
@[simp] theorem Part.startPassTimer_vl (p : Part) : p.startPassTimer.vl = p.vl := rfl
@[simp] theorem Part.startPassTimer_fswClosed (p : Part) : p.startPassTimer.fswClosed = p.fswClosed := rfl
@[simp] theorem Part.startPassTimer_handed (p : Part) : p.startPassTimer.handed = p.handed := rfl

@[simp] theorem Part.startRotationTimer_now (p : Part) : p.startRotationTimer.now = p.now := rfl
@[simp] theorem Part.startRotationTimer_control (p : Part) : p.startRotationTimer.control = p.control := rfl
@[simp] theorem Part.startRotationTimer_store (p : Part) : p.startRotationTimer.store = p.store := rfl
@[simp] theorem Part.startRotationTimer_demand (p : Part) : p.startRotationTimer.demand = p.demand := rfl
@[simp] theorem Part.startRotationTimer_motion (p : Part) : p.startRotationTimer.motion = p.motion := rfl
@[simp] theorem Part.startRotationTimer_slip (p : Part) : p.startRotationTimer.slip = p.slip := rfl
@[simp] theorem Part.startRotationTimer_cap (p : Part) : p.startRotationTimer.cap = p.cap := rfl
@[simp] theorem Part.startRotationTimer_thermal (p : Part) : p.startRotationTimer.thermal = p.thermal := rfl
@[simp] theorem Part.startRotationTimer_ret (p : Part) : p.startRotationTimer.ret = p.ret := rfl
@[simp] theorem Part.startRotationTimer_flap (p : Part) : p.startRotationTimer.flap = p.flap := rfl
@[simp] theorem Part.startRotationTimer_chan (p : Part) : p.startRotationTimer.chan = p.chan := rfl
@[simp] theorem Part.startRotationTimer_retRoute (p : Part) : p.startRotationTimer.retRoute = p.retRoute := rfl
@[simp] theorem Part.startRotationTimer_link (p : Part) : p.startRotationTimer.link = p.link := rfl
@[simp] theorem Part.startRotationTimer_faults (p : Part) : p.startRotationTimer.faults = p.faults := rfl
@[simp] theorem Part.startRotationTimer_flags (p : Part) : p.startRotationTimer.flags = p.flags := rfl
@[simp] theorem Part.startRotationTimer_vl (p : Part) : p.startRotationTimer.vl = p.vl := rfl
@[simp] theorem Part.startRotationTimer_fswClosed (p : Part) : p.startRotationTimer.fswClosed = p.fswClosed := rfl
@[simp] theorem Part.startRotationTimer_handed (p : Part) : p.startRotationTimer.handed = p.handed := rfl

@[simp] theorem Part.stopRotationTimer_now (p : Part) : p.stopRotationTimer.now = p.now := rfl
@[simp] theorem Part.stopRotationTimer_control (p : Part) : p.stopRotationTimer.control = p.control := rfl
@[simp] theorem Part.stopRotationTimer_store (p : Part) : p.stopRotationTimer.store = p.store := rfl
@[simp] theorem Part.stopRotationTimer_demand (p : Part) : p.stopRotationTimer.demand = p.demand := rfl
@[simp] theorem Part.stopRotationTimer_motion (p : Part) : p.stopRotationTimer.motion = p.motion := rfl
@[simp] theorem Part.stopRotationTimer_slip (p : Part) : p.stopRotationTimer.slip = p.slip := rfl
@[simp] theorem Part.stopRotationTimer_cap (p : Part) : p.stopRotationTimer.cap = p.cap := rfl
@[simp] theorem Part.stopRotationTimer_app (p : Part) :
    p.stopRotationTimer.app = { p.app with rotationTimer := none } := rfl
@[simp] theorem Part.stopRotationTimer_thermal (p : Part) : p.stopRotationTimer.thermal = p.thermal := rfl
@[simp] theorem Part.stopRotationTimer_ret (p : Part) : p.stopRotationTimer.ret = p.ret := rfl
@[simp] theorem Part.stopRotationTimer_flap (p : Part) : p.stopRotationTimer.flap = p.flap := rfl
@[simp] theorem Part.stopRotationTimer_chan (p : Part) : p.stopRotationTimer.chan = p.chan := rfl
@[simp] theorem Part.stopRotationTimer_retRoute (p : Part) : p.stopRotationTimer.retRoute = p.retRoute := rfl
@[simp] theorem Part.stopRotationTimer_link (p : Part) : p.stopRotationTimer.link = p.link := rfl
@[simp] theorem Part.stopRotationTimer_faults (p : Part) : p.stopRotationTimer.faults = p.faults := rfl
@[simp] theorem Part.stopRotationTimer_flags (p : Part) : p.stopRotationTimer.flags = p.flags := rfl
@[simp] theorem Part.stopRotationTimer_vl (p : Part) : p.stopRotationTimer.vl = p.vl := rfl
@[simp] theorem Part.stopRotationTimer_fswClosed (p : Part) : p.stopRotationTimer.fswClosed = p.fswClosed := rfl
@[simp] theorem Part.stopRotationTimer_handed (p : Part) : p.stopRotationTimer.handed = p.handed := rfl

@[simp] theorem Part.holdOil_now (p : Part) (oil : Option Int) : (p.holdOil oil).now = p.now := rfl
@[simp] theorem Part.holdOil_control (p : Part) (oil : Option Int) : (p.holdOil oil).control = p.control := rfl
@[simp] theorem Part.holdOil_store (p : Part) (oil : Option Int) : (p.holdOil oil).store = p.store := rfl
@[simp] theorem Part.holdOil_demand (p : Part) (oil : Option Int) : (p.holdOil oil).demand = p.demand := rfl
@[simp] theorem Part.holdOil_motion (p : Part) (oil : Option Int) : (p.holdOil oil).motion = p.motion := rfl
@[simp] theorem Part.holdOil_slip (p : Part) (oil : Option Int) : (p.holdOil oil).slip = p.slip := rfl
@[simp] theorem Part.holdOil_app (p : Part) (oil : Option Int) : (p.holdOil oil).app = p.app := rfl
@[simp] theorem Part.holdOil_thermal (p : Part) (oil : Option Int) : (p.holdOil oil).thermal = p.thermal := rfl
@[simp] theorem Part.holdOil_ret (p : Part) (oil : Option Int) : (p.holdOil oil).ret = p.ret := rfl
@[simp] theorem Part.holdOil_flap (p : Part) (oil : Option Int) : (p.holdOil oil).flap = p.flap := rfl
@[simp] theorem Part.holdOil_chan (p : Part) (oil : Option Int) : (p.holdOil oil).chan = p.chan := rfl
@[simp] theorem Part.holdOil_retRoute (p : Part) (oil : Option Int) : (p.holdOil oil).retRoute = p.retRoute := rfl
@[simp] theorem Part.holdOil_link (p : Part) (oil : Option Int) : (p.holdOil oil).link = p.link := rfl
@[simp] theorem Part.holdOil_faults (p : Part) (oil : Option Int) : (p.holdOil oil).faults = p.faults := rfl
@[simp] theorem Part.holdOil_flags (p : Part) (oil : Option Int) : (p.holdOil oil).flags = p.flags := rfl
@[simp] theorem Part.holdOil_vl (p : Part) (oil : Option Int) : (p.holdOil oil).vl = p.vl := rfl
@[simp] theorem Part.holdOil_fswClosed (p : Part) (oil : Option Int) : (p.holdOil oil).fswClosed = p.fswClosed := rfl
@[simp] theorem Part.holdOil_handed (p : Part) (oil : Option Int) : (p.holdOil oil).handed = p.handed := rfl

@[simp] theorem Part.startFade_now (p : Part) : p.startFade.now = p.now := rfl
@[simp] theorem Part.startFade_control (p : Part) : p.startFade.control = p.control := rfl
@[simp] theorem Part.startFade_store (p : Part) : p.startFade.store = p.store := rfl
@[simp] theorem Part.startFade_demand (p : Part) : p.startFade.demand = p.demand := rfl
@[simp] theorem Part.startFade_motion (p : Part) : p.startFade.motion = p.motion := rfl
@[simp] theorem Part.startFade_slip (p : Part) : p.startFade.slip = p.slip := rfl
@[simp] theorem Part.startFade_app (p : Part) : p.startFade.app = p.app := rfl
@[simp] theorem Part.startFade_thermal (p : Part) : p.startFade.thermal = p.thermal := rfl
@[simp] theorem Part.startFade_ret (p : Part) : p.startFade.ret = p.ret := rfl
@[simp] theorem Part.startFade_flap (p : Part) : p.startFade.flap = p.flap := rfl
@[simp] theorem Part.startFade_chan (p : Part) : p.startFade.chan = p.chan := rfl
@[simp] theorem Part.startFade_retRoute (p : Part) : p.startFade.retRoute = p.retRoute := rfl
@[simp] theorem Part.startFade_link (p : Part) : p.startFade.link = p.link := rfl
@[simp] theorem Part.startFade_faults (p : Part) : p.startFade.faults = p.faults := rfl
@[simp] theorem Part.startFade_flags (p : Part) : p.startFade.flags = p.flags := rfl
@[simp] theorem Part.startFade_vl (p : Part) : p.startFade.vl = p.vl := rfl
@[simp] theorem Part.startFade_fswClosed (p : Part) : p.startFade.fswClosed = p.fswClosed := rfl
@[simp] theorem Part.startFade_handed (p : Part) : p.startFade.handed = p.handed := rfl
@[simp] theorem Part.startFade_fade (p : Part) (a : Axle) :
    p.startFade.cap.items.fade.get a = if p.hasAxle a then 1000 else 0 := by simp [Part.startFade]

@[simp] theorem Part.tick_now (p : Part) :
    p.tick.now = p.now + 1 := rfl
@[simp] theorem Part.tick_control (p : Part) : p.tick.control = p.control := rfl
@[simp] theorem Part.tick_store (p : Part) : p.tick.store = p.store := rfl
@[simp] theorem Part.tick_demand (p : Part) : p.tick.demand = p.demand := rfl
@[simp] theorem Part.tick_motion (p : Part) : p.tick.motion = p.motion := rfl
@[simp] theorem Part.tick_slip (p : Part) : p.tick.slip = p.slip := rfl
@[simp] theorem Part.tick_cap (p : Part) : p.tick.cap = p.cap := rfl
@[simp] theorem Part.tick_app (p : Part) : p.tick.app = p.app := rfl
@[simp] theorem Part.tick_thermal (p : Part) : p.tick.thermal = p.thermal := rfl
@[simp] theorem Part.tick_ret (p : Part) : p.tick.ret = p.ret := rfl
@[simp] theorem Part.tick_flap (p : Part) : p.tick.flap = p.flap := rfl
@[simp] theorem Part.tick_chan (p : Part) : p.tick.chan = p.chan := rfl
@[simp] theorem Part.tick_retRoute (p : Part) : p.tick.retRoute = p.retRoute := rfl
@[simp] theorem Part.tick_link (p : Part) : p.tick.link = p.link := rfl
@[simp] theorem Part.tick_faults (p : Part) : p.tick.faults = p.faults := rfl
@[simp] theorem Part.tick_flags (p : Part) : p.tick.flags = p.flags := rfl
@[simp] theorem Part.tick_vl (p : Part) : p.tick.vl = p.vl := rfl
@[simp] theorem Part.tick_fswClosed (p : Part) : p.tick.fswClosed = p.fswClosed := rfl
@[simp] theorem Part.tick_handed (p : Part) : p.tick.handed = p.handed := rfl

@[simp] theorem Part.flagAlarmRaised_now (p : Part) : p.flagAlarmRaised.now = p.now := rfl
@[simp] theorem Part.flagAlarmRaised_control (p : Part) : p.flagAlarmRaised.control = p.control := rfl
@[simp] theorem Part.flagAlarmRaised_store (p : Part) : p.flagAlarmRaised.store = p.store := rfl
@[simp] theorem Part.flagAlarmRaised_demand (p : Part) : p.flagAlarmRaised.demand = p.demand := rfl
@[simp] theorem Part.flagAlarmRaised_motion (p : Part) : p.flagAlarmRaised.motion = p.motion := rfl
@[simp] theorem Part.flagAlarmRaised_slip (p : Part) : p.flagAlarmRaised.slip = p.slip := rfl
@[simp] theorem Part.flagAlarmRaised_cap (p : Part) : p.flagAlarmRaised.cap = p.cap := rfl
@[simp] theorem Part.flagAlarmRaised_app (p : Part) : p.flagAlarmRaised.app = p.app := rfl
@[simp] theorem Part.flagAlarmRaised_thermal (p : Part) : p.flagAlarmRaised.thermal = p.thermal := rfl
@[simp] theorem Part.flagAlarmRaised_ret (p : Part) : p.flagAlarmRaised.ret = p.ret := rfl
@[simp] theorem Part.flagAlarmRaised_flap (p : Part) : p.flagAlarmRaised.flap = p.flap := rfl
@[simp] theorem Part.flagAlarmRaised_chan (p : Part) : p.flagAlarmRaised.chan = p.chan := rfl
@[simp] theorem Part.flagAlarmRaised_retRoute (p : Part) : p.flagAlarmRaised.retRoute = p.retRoute := rfl
@[simp] theorem Part.flagAlarmRaised_link (p : Part) : p.flagAlarmRaised.link = p.link := rfl
@[simp] theorem Part.flagAlarmRaised_faults (p : Part) : p.flagAlarmRaised.faults = p.faults := rfl
@[simp] theorem Part.flagAlarmRaised_flags (p : Part) :
    p.flagAlarmRaised.flags = { p.flags with alarmRaised := true } := rfl
@[simp] theorem Part.flagAlarmRaised_vl (p : Part) : p.flagAlarmRaised.vl = p.vl := rfl
@[simp] theorem Part.flagAlarmRaised_fswClosed (p : Part) : p.flagAlarmRaised.fswClosed = p.fswClosed := rfl
@[simp] theorem Part.flagAlarmRaised_handed (p : Part) : p.flagAlarmRaised.handed = p.handed := rfl

@[simp] theorem Part.flagAlarmCleared_now (p : Part) : p.flagAlarmCleared.now = p.now := rfl
@[simp] theorem Part.flagAlarmCleared_control (p : Part) : p.flagAlarmCleared.control = p.control := rfl
@[simp] theorem Part.flagAlarmCleared_store (p : Part) : p.flagAlarmCleared.store = p.store := rfl
@[simp] theorem Part.flagAlarmCleared_demand (p : Part) : p.flagAlarmCleared.demand = p.demand := rfl
@[simp] theorem Part.flagAlarmCleared_motion (p : Part) : p.flagAlarmCleared.motion = p.motion := rfl
@[simp] theorem Part.flagAlarmCleared_slip (p : Part) : p.flagAlarmCleared.slip = p.slip := rfl
@[simp] theorem Part.flagAlarmCleared_cap (p : Part) : p.flagAlarmCleared.cap = p.cap := rfl
@[simp] theorem Part.flagAlarmCleared_app (p : Part) : p.flagAlarmCleared.app = p.app := rfl
@[simp] theorem Part.flagAlarmCleared_thermal (p : Part) : p.flagAlarmCleared.thermal = p.thermal := rfl
@[simp] theorem Part.flagAlarmCleared_ret (p : Part) : p.flagAlarmCleared.ret = p.ret := rfl
@[simp] theorem Part.flagAlarmCleared_flap (p : Part) : p.flagAlarmCleared.flap = p.flap := rfl
@[simp] theorem Part.flagAlarmCleared_chan (p : Part) : p.flagAlarmCleared.chan = p.chan := rfl
@[simp] theorem Part.flagAlarmCleared_retRoute (p : Part) : p.flagAlarmCleared.retRoute = p.retRoute := rfl
@[simp] theorem Part.flagAlarmCleared_link (p : Part) : p.flagAlarmCleared.link = p.link := rfl
@[simp] theorem Part.flagAlarmCleared_faults (p : Part) : p.flagAlarmCleared.faults = p.faults := rfl
@[simp] theorem Part.flagAlarmCleared_flags (p : Part) :
    p.flagAlarmCleared.flags = { p.flags with alarmCleared := true } := rfl
@[simp] theorem Part.flagAlarmCleared_vl (p : Part) : p.flagAlarmCleared.vl = p.vl := rfl
@[simp] theorem Part.flagAlarmCleared_fswClosed (p : Part) : p.flagAlarmCleared.fswClosed = p.fswClosed := rfl
@[simp] theorem Part.flagAlarmCleared_handed (p : Part) : p.flagAlarmCleared.handed = p.handed := rfl

@[simp] theorem Part.flagLimitSet_now (p : Part) : p.flagLimitSet.now = p.now := rfl
@[simp] theorem Part.flagLimitSet_control (p : Part) : p.flagLimitSet.control = p.control := rfl
@[simp] theorem Part.flagLimitSet_store (p : Part) : p.flagLimitSet.store = p.store := rfl
@[simp] theorem Part.flagLimitSet_demand (p : Part) : p.flagLimitSet.demand = p.demand := rfl
@[simp] theorem Part.flagLimitSet_motion (p : Part) : p.flagLimitSet.motion = p.motion := rfl
@[simp] theorem Part.flagLimitSet_slip (p : Part) : p.flagLimitSet.slip = p.slip := rfl
@[simp] theorem Part.flagLimitSet_cap (p : Part) : p.flagLimitSet.cap = p.cap := rfl
@[simp] theorem Part.flagLimitSet_app (p : Part) : p.flagLimitSet.app = p.app := rfl
@[simp] theorem Part.flagLimitSet_thermal (p : Part) : p.flagLimitSet.thermal = p.thermal := rfl
@[simp] theorem Part.flagLimitSet_ret (p : Part) : p.flagLimitSet.ret = p.ret := rfl
@[simp] theorem Part.flagLimitSet_flap (p : Part) : p.flagLimitSet.flap = p.flap := rfl
@[simp] theorem Part.flagLimitSet_chan (p : Part) : p.flagLimitSet.chan = p.chan := rfl
@[simp] theorem Part.flagLimitSet_retRoute (p : Part) : p.flagLimitSet.retRoute = p.retRoute := rfl
@[simp] theorem Part.flagLimitSet_link (p : Part) : p.flagLimitSet.link = p.link := rfl
@[simp] theorem Part.flagLimitSet_faults (p : Part) : p.flagLimitSet.faults = p.faults := rfl
@[simp] theorem Part.flagLimitSet_flags (p : Part) :
    p.flagLimitSet.flags = { p.flags with limitSet := true } := rfl
@[simp] theorem Part.flagLimitSet_vl (p : Part) : p.flagLimitSet.vl = p.vl := rfl
@[simp] theorem Part.flagLimitSet_fswClosed (p : Part) : p.flagLimitSet.fswClosed = p.fswClosed := rfl
@[simp] theorem Part.flagLimitSet_handed (p : Part) : p.flagLimitSet.handed = p.handed := rfl

@[simp] theorem Part.flagLimitCleared_now (p : Part) : p.flagLimitCleared.now = p.now := rfl
@[simp] theorem Part.flagLimitCleared_control (p : Part) : p.flagLimitCleared.control = p.control := rfl
@[simp] theorem Part.flagLimitCleared_store (p : Part) : p.flagLimitCleared.store = p.store := rfl
@[simp] theorem Part.flagLimitCleared_demand (p : Part) : p.flagLimitCleared.demand = p.demand := rfl
@[simp] theorem Part.flagLimitCleared_motion (p : Part) : p.flagLimitCleared.motion = p.motion := rfl
@[simp] theorem Part.flagLimitCleared_slip (p : Part) : p.flagLimitCleared.slip = p.slip := rfl
@[simp] theorem Part.flagLimitCleared_cap (p : Part) : p.flagLimitCleared.cap = p.cap := rfl
@[simp] theorem Part.flagLimitCleared_app (p : Part) : p.flagLimitCleared.app = p.app := rfl
@[simp] theorem Part.flagLimitCleared_thermal (p : Part) : p.flagLimitCleared.thermal = p.thermal := rfl
@[simp] theorem Part.flagLimitCleared_ret (p : Part) : p.flagLimitCleared.ret = p.ret := rfl
@[simp] theorem Part.flagLimitCleared_flap (p : Part) : p.flagLimitCleared.flap = p.flap := rfl
@[simp] theorem Part.flagLimitCleared_chan (p : Part) : p.flagLimitCleared.chan = p.chan := rfl
@[simp] theorem Part.flagLimitCleared_retRoute (p : Part) : p.flagLimitCleared.retRoute = p.retRoute := rfl
@[simp] theorem Part.flagLimitCleared_link (p : Part) : p.flagLimitCleared.link = p.link := rfl
@[simp] theorem Part.flagLimitCleared_faults (p : Part) : p.flagLimitCleared.faults = p.faults := rfl
@[simp] theorem Part.flagLimitCleared_flags (p : Part) :
    p.flagLimitCleared.flags = { p.flags with limitCleared := true } := rfl
@[simp] theorem Part.flagLimitCleared_vl (p : Part) : p.flagLimitCleared.vl = p.vl := rfl
@[simp] theorem Part.flagLimitCleared_fswClosed (p : Part) : p.flagLimitCleared.fswClosed = p.fswClosed := rfl
@[simp] theorem Part.flagLimitCleared_handed (p : Part) : p.flagLimitCleared.handed = p.handed := rfl

@[simp] theorem Part.flagFallbackEntered_now (p : Part) : p.flagFallbackEntered.now = p.now := rfl
@[simp] theorem Part.flagFallbackEntered_control (p : Part) : p.flagFallbackEntered.control = p.control := rfl
@[simp] theorem Part.flagFallbackEntered_store (p : Part) : p.flagFallbackEntered.store = p.store := rfl
@[simp] theorem Part.flagFallbackEntered_demand (p : Part) : p.flagFallbackEntered.demand = p.demand := rfl
@[simp] theorem Part.flagFallbackEntered_motion (p : Part) : p.flagFallbackEntered.motion = p.motion := rfl
@[simp] theorem Part.flagFallbackEntered_slip (p : Part) : p.flagFallbackEntered.slip = p.slip := rfl
@[simp] theorem Part.flagFallbackEntered_cap (p : Part) : p.flagFallbackEntered.cap = p.cap := rfl
@[simp] theorem Part.flagFallbackEntered_app (p : Part) : p.flagFallbackEntered.app = p.app := rfl
@[simp] theorem Part.flagFallbackEntered_thermal (p : Part) : p.flagFallbackEntered.thermal = p.thermal := rfl
@[simp] theorem Part.flagFallbackEntered_ret (p : Part) : p.flagFallbackEntered.ret = p.ret := rfl
@[simp] theorem Part.flagFallbackEntered_flap (p : Part) : p.flagFallbackEntered.flap = p.flap := rfl
@[simp] theorem Part.flagFallbackEntered_chan (p : Part) : p.flagFallbackEntered.chan = p.chan := rfl
@[simp] theorem Part.flagFallbackEntered_retRoute (p : Part) : p.flagFallbackEntered.retRoute = p.retRoute := rfl
@[simp] theorem Part.flagFallbackEntered_link (p : Part) : p.flagFallbackEntered.link = p.link := rfl
@[simp] theorem Part.flagFallbackEntered_faults (p : Part) : p.flagFallbackEntered.faults = p.faults := rfl
@[simp] theorem Part.flagFallbackEntered_flags (p : Part) :
    p.flagFallbackEntered.flags = { p.flags with fallbackEntered := true } := rfl
@[simp] theorem Part.flagFallbackEntered_vl (p : Part) : p.flagFallbackEntered.vl = p.vl := rfl
@[simp] theorem Part.flagFallbackEntered_fswClosed (p : Part) : p.flagFallbackEntered.fswClosed = p.fswClosed := rfl
@[simp] theorem Part.flagFallbackEntered_handed (p : Part) : p.flagFallbackEntered.handed = p.handed := rfl

@[simp] theorem Part.flagFallbackLeft_now (p : Part) : p.flagFallbackLeft.now = p.now := rfl
@[simp] theorem Part.flagFallbackLeft_control (p : Part) : p.flagFallbackLeft.control = p.control := rfl
@[simp] theorem Part.flagFallbackLeft_store (p : Part) : p.flagFallbackLeft.store = p.store := rfl
@[simp] theorem Part.flagFallbackLeft_demand (p : Part) : p.flagFallbackLeft.demand = p.demand := rfl
@[simp] theorem Part.flagFallbackLeft_motion (p : Part) : p.flagFallbackLeft.motion = p.motion := rfl
@[simp] theorem Part.flagFallbackLeft_slip (p : Part) : p.flagFallbackLeft.slip = p.slip := rfl
@[simp] theorem Part.flagFallbackLeft_cap (p : Part) : p.flagFallbackLeft.cap = p.cap := rfl
@[simp] theorem Part.flagFallbackLeft_app (p : Part) : p.flagFallbackLeft.app = p.app := rfl
@[simp] theorem Part.flagFallbackLeft_thermal (p : Part) : p.flagFallbackLeft.thermal = p.thermal := rfl
@[simp] theorem Part.flagFallbackLeft_ret (p : Part) : p.flagFallbackLeft.ret = p.ret := rfl
@[simp] theorem Part.flagFallbackLeft_flap (p : Part) : p.flagFallbackLeft.flap = p.flap := rfl
@[simp] theorem Part.flagFallbackLeft_chan (p : Part) : p.flagFallbackLeft.chan = p.chan := rfl
@[simp] theorem Part.flagFallbackLeft_retRoute (p : Part) : p.flagFallbackLeft.retRoute = p.retRoute := rfl
@[simp] theorem Part.flagFallbackLeft_link (p : Part) : p.flagFallbackLeft.link = p.link := rfl
@[simp] theorem Part.flagFallbackLeft_faults (p : Part) : p.flagFallbackLeft.faults = p.faults := rfl
@[simp] theorem Part.flagFallbackLeft_flags (p : Part) :
    p.flagFallbackLeft.flags = { p.flags with fallbackLeft := true } := rfl
@[simp] theorem Part.flagFallbackLeft_vl (p : Part) : p.flagFallbackLeft.vl = p.vl := rfl
@[simp] theorem Part.flagFallbackLeft_fswClosed (p : Part) : p.flagFallbackLeft.fswClosed = p.fswClosed := rfl
@[simp] theorem Part.flagFallbackLeft_handed (p : Part) : p.flagFallbackLeft.handed = p.handed := rfl

@[simp] theorem Part.flagAbandoned_now (p : Part) : p.flagAbandoned.now = p.now := rfl
@[simp] theorem Part.flagAbandoned_control (p : Part) : p.flagAbandoned.control = p.control := rfl
@[simp] theorem Part.flagAbandoned_store (p : Part) : p.flagAbandoned.store = p.store := rfl
@[simp] theorem Part.flagAbandoned_demand (p : Part) : p.flagAbandoned.demand = p.demand := rfl
@[simp] theorem Part.flagAbandoned_motion (p : Part) : p.flagAbandoned.motion = p.motion := rfl
@[simp] theorem Part.flagAbandoned_slip (p : Part) : p.flagAbandoned.slip = p.slip := rfl
@[simp] theorem Part.flagAbandoned_cap (p : Part) : p.flagAbandoned.cap = p.cap := rfl
@[simp] theorem Part.flagAbandoned_app (p : Part) : p.flagAbandoned.app = p.app := rfl
@[simp] theorem Part.flagAbandoned_thermal (p : Part) : p.flagAbandoned.thermal = p.thermal := rfl
@[simp] theorem Part.flagAbandoned_ret (p : Part) : p.flagAbandoned.ret = p.ret := rfl
@[simp] theorem Part.flagAbandoned_flap (p : Part) : p.flagAbandoned.flap = p.flap := rfl
@[simp] theorem Part.flagAbandoned_chan (p : Part) : p.flagAbandoned.chan = p.chan := rfl
@[simp] theorem Part.flagAbandoned_retRoute (p : Part) : p.flagAbandoned.retRoute = p.retRoute := rfl
@[simp] theorem Part.flagAbandoned_link (p : Part) : p.flagAbandoned.link = p.link := rfl
@[simp] theorem Part.flagAbandoned_faults (p : Part) : p.flagAbandoned.faults = p.faults := rfl
@[simp] theorem Part.flagAbandoned_flags (p : Part) :
    p.flagAbandoned.flags = { p.flags with standDownAbandoned := true } := rfl
@[simp] theorem Part.flagAbandoned_vl (p : Part) : p.flagAbandoned.vl = p.vl := rfl
@[simp] theorem Part.flagAbandoned_fswClosed (p : Part) : p.flagAbandoned.fswClosed = p.fswClosed := rfl
@[simp] theorem Part.flagAbandoned_handed (p : Part) : p.flagAbandoned.handed = p.handed := rfl

@[simp] theorem Part.flagAssistDropped_now (p : Part) : p.flagAssistDropped.now = p.now := rfl
@[simp] theorem Part.flagAssistDropped_control (p : Part) : p.flagAssistDropped.control = p.control := rfl
@[simp] theorem Part.flagAssistDropped_store (p : Part) : p.flagAssistDropped.store = p.store := rfl
@[simp] theorem Part.flagAssistDropped_demand (p : Part) : p.flagAssistDropped.demand = p.demand := rfl
@[simp] theorem Part.flagAssistDropped_motion (p : Part) : p.flagAssistDropped.motion = p.motion := rfl
@[simp] theorem Part.flagAssistDropped_slip (p : Part) : p.flagAssistDropped.slip = p.slip := rfl
@[simp] theorem Part.flagAssistDropped_cap (p : Part) : p.flagAssistDropped.cap = p.cap := rfl
@[simp] theorem Part.flagAssistDropped_app (p : Part) : p.flagAssistDropped.app = p.app := rfl
@[simp] theorem Part.flagAssistDropped_thermal (p : Part) : p.flagAssistDropped.thermal = p.thermal := rfl
@[simp] theorem Part.flagAssistDropped_ret (p : Part) : p.flagAssistDropped.ret = p.ret := rfl
@[simp] theorem Part.flagAssistDropped_flap (p : Part) : p.flagAssistDropped.flap = p.flap := rfl
@[simp] theorem Part.flagAssistDropped_chan (p : Part) : p.flagAssistDropped.chan = p.chan := rfl
@[simp] theorem Part.flagAssistDropped_retRoute (p : Part) : p.flagAssistDropped.retRoute = p.retRoute := rfl
@[simp] theorem Part.flagAssistDropped_link (p : Part) : p.flagAssistDropped.link = p.link := rfl
@[simp] theorem Part.flagAssistDropped_faults (p : Part) : p.flagAssistDropped.faults = p.faults := rfl
@[simp] theorem Part.flagAssistDropped_flags (p : Part) :
    p.flagAssistDropped.flags = { p.flags with assistDropped := true } := rfl
@[simp] theorem Part.flagAssistDropped_vl (p : Part) : p.flagAssistDropped.vl = p.vl := rfl
@[simp] theorem Part.flagAssistDropped_fswClosed (p : Part) : p.flagAssistDropped.fswClosed = p.fswClosed := rfl
@[simp] theorem Part.flagAssistDropped_handed (p : Part) : p.flagAssistDropped.handed = p.handed := rfl

@[simp] theorem Part.flagFaultsChanged_now (p : Part) : p.flagFaultsChanged.now = p.now := rfl
@[simp] theorem Part.flagFaultsChanged_control (p : Part) : p.flagFaultsChanged.control = p.control := rfl
@[simp] theorem Part.flagFaultsChanged_store (p : Part) : p.flagFaultsChanged.store = p.store := rfl
@[simp] theorem Part.flagFaultsChanged_demand (p : Part) : p.flagFaultsChanged.demand = p.demand := rfl
@[simp] theorem Part.flagFaultsChanged_motion (p : Part) : p.flagFaultsChanged.motion = p.motion := rfl
@[simp] theorem Part.flagFaultsChanged_slip (p : Part) : p.flagFaultsChanged.slip = p.slip := rfl
@[simp] theorem Part.flagFaultsChanged_cap (p : Part) : p.flagFaultsChanged.cap = p.cap := rfl
@[simp] theorem Part.flagFaultsChanged_app (p : Part) : p.flagFaultsChanged.app = p.app := rfl
@[simp] theorem Part.flagFaultsChanged_thermal (p : Part) : p.flagFaultsChanged.thermal = p.thermal := rfl
@[simp] theorem Part.flagFaultsChanged_ret (p : Part) : p.flagFaultsChanged.ret = p.ret := rfl
@[simp] theorem Part.flagFaultsChanged_flap (p : Part) : p.flagFaultsChanged.flap = p.flap := rfl
@[simp] theorem Part.flagFaultsChanged_chan (p : Part) : p.flagFaultsChanged.chan = p.chan := rfl
@[simp] theorem Part.flagFaultsChanged_retRoute (p : Part) : p.flagFaultsChanged.retRoute = p.retRoute := rfl
@[simp] theorem Part.flagFaultsChanged_link (p : Part) : p.flagFaultsChanged.link = p.link := rfl
@[simp] theorem Part.flagFaultsChanged_faults (p : Part) : p.flagFaultsChanged.faults = p.faults := rfl
@[simp] theorem Part.flagFaultsChanged_flags (p : Part) :
    p.flagFaultsChanged.flags = { p.flags with faultsChanged := true } := rfl
@[simp] theorem Part.flagFaultsChanged_vl (p : Part) : p.flagFaultsChanged.vl = p.vl := rfl
@[simp] theorem Part.flagFaultsChanged_fswClosed (p : Part) : p.flagFaultsChanged.fswClosed = p.fswClosed := rfl
@[simp] theorem Part.flagFaultsChanged_handed (p : Part) : p.flagFaultsChanged.handed = p.handed := rfl

@[simp] theorem Part.flagWindowHeld_now (p : Part) : p.flagWindowHeld.now = p.now := rfl
@[simp] theorem Part.flagWindowHeld_control (p : Part) : p.flagWindowHeld.control = p.control := rfl
@[simp] theorem Part.flagWindowHeld_store (p : Part) : p.flagWindowHeld.store = p.store := rfl
@[simp] theorem Part.flagWindowHeld_demand (p : Part) : p.flagWindowHeld.demand = p.demand := rfl
@[simp] theorem Part.flagWindowHeld_motion (p : Part) : p.flagWindowHeld.motion = p.motion := rfl
@[simp] theorem Part.flagWindowHeld_slip (p : Part) : p.flagWindowHeld.slip = p.slip := rfl
@[simp] theorem Part.flagWindowHeld_cap (p : Part) : p.flagWindowHeld.cap = p.cap := rfl
@[simp] theorem Part.flagWindowHeld_app (p : Part) : p.flagWindowHeld.app = p.app := rfl
@[simp] theorem Part.flagWindowHeld_thermal (p : Part) : p.flagWindowHeld.thermal = p.thermal := rfl
@[simp] theorem Part.flagWindowHeld_ret (p : Part) : p.flagWindowHeld.ret = p.ret := rfl
@[simp] theorem Part.flagWindowHeld_flap (p : Part) : p.flagWindowHeld.flap = p.flap := rfl
@[simp] theorem Part.flagWindowHeld_chan (p : Part) : p.flagWindowHeld.chan = p.chan := rfl
@[simp] theorem Part.flagWindowHeld_retRoute (p : Part) : p.flagWindowHeld.retRoute = p.retRoute := rfl
@[simp] theorem Part.flagWindowHeld_link (p : Part) : p.flagWindowHeld.link = p.link := rfl
@[simp] theorem Part.flagWindowHeld_faults (p : Part) : p.flagWindowHeld.faults = p.faults := rfl
@[simp] theorem Part.flagWindowHeld_flags (p : Part) :
    p.flagWindowHeld.flags = { p.flags with windowHeld := true } := rfl
@[simp] theorem Part.flagWindowHeld_vl (p : Part) : p.flagWindowHeld.vl = p.vl := rfl
@[simp] theorem Part.flagWindowHeld_fswClosed (p : Part) : p.flagWindowHeld.fswClosed = p.fswClosed := rfl
@[simp] theorem Part.flagWindowHeld_handed (p : Part) : p.flagWindowHeld.handed = p.handed := rfl

@[simp] theorem Part.flagModeChanged_now (p : Part) : p.flagModeChanged.now = p.now := rfl
@[simp] theorem Part.flagModeChanged_control (p : Part) : p.flagModeChanged.control = p.control := rfl
@[simp] theorem Part.flagModeChanged_store (p : Part) : p.flagModeChanged.store = p.store := rfl
@[simp] theorem Part.flagModeChanged_demand (p : Part) : p.flagModeChanged.demand = p.demand := rfl
@[simp] theorem Part.flagModeChanged_motion (p : Part) : p.flagModeChanged.motion = p.motion := rfl
@[simp] theorem Part.flagModeChanged_slip (p : Part) : p.flagModeChanged.slip = p.slip := rfl
@[simp] theorem Part.flagModeChanged_cap (p : Part) : p.flagModeChanged.cap = p.cap := rfl
@[simp] theorem Part.flagModeChanged_app (p : Part) : p.flagModeChanged.app = p.app := rfl
@[simp] theorem Part.flagModeChanged_thermal (p : Part) : p.flagModeChanged.thermal = p.thermal := rfl
@[simp] theorem Part.flagModeChanged_ret (p : Part) : p.flagModeChanged.ret = p.ret := rfl
@[simp] theorem Part.flagModeChanged_flap (p : Part) : p.flagModeChanged.flap = p.flap := rfl
@[simp] theorem Part.flagModeChanged_chan (p : Part) : p.flagModeChanged.chan = p.chan := rfl
@[simp] theorem Part.flagModeChanged_retRoute (p : Part) : p.flagModeChanged.retRoute = p.retRoute := rfl
@[simp] theorem Part.flagModeChanged_link (p : Part) : p.flagModeChanged.link = p.link := rfl
@[simp] theorem Part.flagModeChanged_faults (p : Part) : p.flagModeChanged.faults = p.faults := rfl
@[simp] theorem Part.flagModeChanged_flags (p : Part) :
    p.flagModeChanged.flags = { p.flags with modeChanged := true } := rfl
@[simp] theorem Part.flagModeChanged_vl (p : Part) : p.flagModeChanged.vl = p.vl := rfl
@[simp] theorem Part.flagModeChanged_fswClosed (p : Part) : p.flagModeChanged.fswClosed = p.fswClosed := rfl
@[simp] theorem Part.flagModeChanged_handed (p : Part) : p.flagModeChanged.handed = p.handed := rfl

@[simp] theorem Channel.unreachable_state (c : Channel) : c.unreachable.state = some .unreachable := by
  simp only [Channel.unreachable, Channel.released]; split <;> rfl
@[simp] theorem Channel.unreachable_lastDemand (c : Channel) : c.unreachable.lastDemand = 0 := rfl
@[simp] theorem Channel.unreachable_tracking (c : Channel) : c.unreachable.tracking = none := rfl
@[simp] theorem Channel.unreachable_measured (c : Channel) : c.unreachable.measured = none := rfl
@[simp] theorem Channel.unreachable_route (c : Channel) : c.unreachable.route = c.route := by
  simp only [Channel.unreachable, Channel.released]; split <;> rfl

@[simp] theorem State.onPart_eq (s : State) (f : Part → Part) :
    s.onPart f = .next { part := f s.part, pending := s.pending } := rfl

end Machine

end Sys2Proof
end

