-- ==== Sys2Proof/Laws/Frames.lean ====
section
/-! SUPPORT. What each shared operation leaves alone: one lemma per operation, a conjunction that simp reads as one
rewriting rule per field. -/

namespace Sys2Proof.Machine

@[simp] theorem Part.faultOccurs_untouched (p : Part) (src : Source) (code : FaultCode) :
    (p.faultOccurs src code).now = p.now ∧ (p.faultOccurs src code).control = p.control ∧ (p.faultOccurs
    src code).store = p.store ∧ (p.faultOccurs src code).demand = p.demand ∧ (p.faultOccurs src
    code).motion = p.motion ∧ (p.faultOccurs src code).slip = p.slip ∧ (p.faultOccurs src code).cap =
    p.cap ∧ (p.faultOccurs src code).app = p.app ∧ (p.faultOccurs src code).thermal = p.thermal ∧
    (p.faultOccurs src code).ret = p.ret ∧ (p.faultOccurs src code).flap = p.flap ∧ (p.faultOccurs src
    code).chan = p.chan ∧ (p.faultOccurs src code).retRoute = p.retRoute ∧ (p.faultOccurs src code).link
    = p.link ∧ (p.faultOccurs src code).vl = p.vl ∧ (p.faultOccurs src code).fswClosed = p.fswClosed ∧
    (p.faultOccurs src code).handed = p.handed := by
  simp only [Part.faultOccurs]
  (repeat' split) <;> simp

@[simp] theorem Part.faultEnds_untouched (p : Part) (src : Source) (code : FaultCode) :
    (p.faultEnds src code).now = p.now ∧ (p.faultEnds src code).control = p.control ∧ (p.faultEnds src
    code).store = p.store ∧ (p.faultEnds src code).demand = p.demand ∧ (p.faultEnds src code).motion =
    p.motion ∧ (p.faultEnds src code).slip = p.slip ∧ (p.faultEnds src code).cap = p.cap ∧ (p.faultEnds
    src code).app = p.app ∧ (p.faultEnds src code).thermal = p.thermal ∧ (p.faultEnds src code).ret =
    p.ret ∧ (p.faultEnds src code).flap = p.flap ∧ (p.faultEnds src code).chan = p.chan ∧ (p.faultEnds
    src code).retRoute = p.retRoute ∧ (p.faultEnds src code).link = p.link ∧ (p.faultEnds src code).vl =
    p.vl ∧ (p.faultEnds src code).fswClosed = p.fswClosed ∧ (p.faultEnds src code).handed = p.handed := by
  simp only [Part.faultEnds]
  (repeat' split) <;> simp

@[simp] theorem Part.chooseNext_untouched (p : Part) :
    p.chooseNext.now = p.now ∧ p.chooseNext.control = p.control ∧ p.chooseNext.store = p.store ∧
    p.chooseNext.demand = p.demand ∧ p.chooseNext.motion = p.motion ∧ p.chooseNext.slip = p.slip ∧
    p.chooseNext.cap = p.cap ∧ p.chooseNext.app = p.app ∧ p.chooseNext.thermal = p.thermal ∧
    p.chooseNext.ret = p.ret ∧ p.chooseNext.flap = p.flap ∧ p.chooseNext.chan = p.chan ∧
    p.chooseNext.retRoute = p.retRoute ∧ p.chooseNext.faults = p.faults ∧ p.chooseNext.flags = p.flags ∧
    p.chooseNext.vl = p.vl ∧ p.chooseNext.fswClosed = p.fswClosed ∧ p.chooseNext.handed = p.handed := by
  simp only [Part.chooseNext]
  (repeat' split) <;> simp

@[simp] theorem Part.post_untouched (p : Part) (addr : Nat) (payload : Payload) :
    (p.post addr payload).now = p.now ∧ (p.post addr payload).control = p.control ∧ (p.post addr
    payload).store = p.store ∧ (p.post addr payload).demand = p.demand ∧ (p.post addr payload).motion =
    p.motion ∧ (p.post addr payload).slip = p.slip ∧ (p.post addr payload).cap = p.cap ∧ (p.post addr
    payload).app = p.app ∧ (p.post addr payload).thermal = p.thermal ∧ (p.post addr payload).ret = p.ret
    ∧ (p.post addr payload).flap = p.flap ∧ (p.post addr payload).chan = p.chan ∧ (p.post addr
    payload).retRoute = p.retRoute ∧ (p.post addr payload).faults = p.faults ∧ (p.post addr
    payload).flags = p.flags ∧ (p.post addr payload).vl = p.vl ∧ (p.post addr payload).fswClosed =
    p.fswClosed ∧ (p.post addr payload).handed = p.handed := by
  simp only [Part.post]
  (repeat' split) <;> simp

@[simp] theorem Part.withdrawShare_untouched (p : Part) (a : Axle) :
    (p.withdrawShare a).now = p.now ∧ (p.withdrawShare a).control = p.control ∧ (p.withdrawShare
    a).store = p.store ∧ (p.withdrawShare a).demand = p.demand ∧ (p.withdrawShare a).motion = p.motion ∧
    (p.withdrawShare a).slip = p.slip ∧ (p.withdrawShare a).cap = p.cap ∧ (p.withdrawShare a).thermal =
    p.thermal ∧ (p.withdrawShare a).ret = p.ret ∧ (p.withdrawShare a).flap = p.flap ∧ (p.withdrawShare
    a).chan = p.chan ∧ (p.withdrawShare a).retRoute = p.retRoute ∧ (p.withdrawShare a).link = p.link ∧
    (p.withdrawShare a).faults = p.faults ∧ (p.withdrawShare a).flags = p.flags ∧ (p.withdrawShare a).vl
    = p.vl ∧ (p.withdrawShare a).fswClosed = p.fswClosed := by
  simp only [Part.withdrawShare]
  (repeat' split) <;> simp

@[simp] theorem Part.postTarget_untouched (p : Part) (a : Axle) :
    (p.postTarget a).now = p.now ∧ (p.postTarget a).control = p.control ∧ (p.postTarget a).store =
    p.store ∧ (p.postTarget a).demand = p.demand ∧ (p.postTarget a).motion = p.motion ∧ (p.postTarget
    a).slip = p.slip ∧ (p.postTarget a).cap = p.cap ∧ (p.postTarget a).app = p.app ∧ (p.postTarget
    a).thermal = p.thermal ∧ (p.postTarget a).ret = p.ret ∧ (p.postTarget a).flap = p.flap ∧
    (p.postTarget a).retRoute = p.retRoute ∧ (p.postTarget a).faults = p.faults ∧ (p.postTarget a).flags
    = p.flags ∧ (p.postTarget a).vl = p.vl ∧ (p.postTarget a).fswClosed = p.fswClosed ∧ (p.postTarget
    a).handed = p.handed := by
  simp only [Part.postTarget]
  (repeat' split) <;> simp

@[simp] theorem Part.releaseChannel_untouched (p : Part) (a : Axle) (st : ChannelState) :
    (p.releaseChannel a st).now = p.now ∧ (p.releaseChannel a st).control = p.control ∧
    (p.releaseChannel a st).store = p.store ∧ (p.releaseChannel a st).demand = p.demand ∧
    (p.releaseChannel a st).motion = p.motion ∧ (p.releaseChannel a st).slip = p.slip ∧
    (p.releaseChannel a st).cap = p.cap ∧ (p.releaseChannel a st).app = p.app ∧ (p.releaseChannel a
    st).thermal = p.thermal ∧ (p.releaseChannel a st).ret = p.ret ∧ (p.releaseChannel a st).flap =
    p.flap ∧ (p.releaseChannel a st).retRoute = p.retRoute ∧ (p.releaseChannel a st).faults = p.faults ∧
    (p.releaseChannel a st).flags = p.flags ∧ (p.releaseChannel a st).vl = p.vl ∧ (p.releaseChannel a
    st).fswClosed = p.fswClosed ∧ (p.releaseChannel a st).handed = p.handed := by
  simp only [Part.releaseChannel]
  simp

@[simp] theorem Part.judgeChannel_untouched (p : Part) (a : Axle) :
    (p.judgeChannel a).now = p.now ∧ (p.judgeChannel a).control = p.control ∧ (p.judgeChannel a).store =
    p.store ∧ (p.judgeChannel a).demand = p.demand ∧ (p.judgeChannel a).motion = p.motion ∧
    (p.judgeChannel a).slip = p.slip ∧ (p.judgeChannel a).cap = p.cap ∧ (p.judgeChannel a).thermal =
    p.thermal ∧ (p.judgeChannel a).ret = p.ret ∧ (p.judgeChannel a).flap = p.flap ∧ (p.judgeChannel
    a).retRoute = p.retRoute ∧ (p.judgeChannel a).faults = p.faults ∧ (p.judgeChannel a).flags = p.flags
    ∧ (p.judgeChannel a).vl = p.vl ∧ (p.judgeChannel a).fswClosed = p.fswClosed := by
  simp only [Part.judgeChannel]
  (repeat' split) <;> simp

@[simp] theorem Part.stopChannel_untouched (p : Part) (a : Axle) :
    (p.stopChannel a).now = p.now ∧ (p.stopChannel a).control = p.control ∧ (p.stopChannel a).store =
    p.store ∧ (p.stopChannel a).demand = p.demand ∧ (p.stopChannel a).motion = p.motion ∧ (p.stopChannel
    a).slip = p.slip ∧ (p.stopChannel a).cap = p.cap ∧ (p.stopChannel a).app = p.app ∧ (p.stopChannel
    a).thermal = p.thermal ∧ (p.stopChannel a).ret = p.ret ∧ (p.stopChannel a).flap = p.flap ∧
    (p.stopChannel a).retRoute = p.retRoute ∧ (p.stopChannel a).faults = p.faults ∧ (p.stopChannel
    a).flags = p.flags ∧ (p.stopChannel a).vl = p.vl ∧ (p.stopChannel a).fswClosed = p.fswClosed ∧
    (p.stopChannel a).handed = p.handed := by
  simp only [Part.stopChannel]
  (repeat' split) <;> simp

@[simp] theorem Part.stopChannels_untouched (p : Part) :
    p.stopChannels.now = p.now ∧ p.stopChannels.control = p.control ∧ p.stopChannels.store = p.store ∧
    p.stopChannels.demand = p.demand ∧ p.stopChannels.motion = p.motion ∧ p.stopChannels.slip = p.slip ∧
    p.stopChannels.cap = p.cap ∧ p.stopChannels.app = p.app ∧ p.stopChannels.thermal = p.thermal ∧
    p.stopChannels.ret = p.ret ∧ p.stopChannels.flap = p.flap ∧ p.stopChannels.retRoute = p.retRoute ∧
    p.stopChannels.faults = p.faults ∧ p.stopChannels.flags = p.flags ∧ p.stopChannels.vl = p.vl ∧
    p.stopChannels.fswClosed = p.fswClosed ∧ p.stopChannels.handed = p.handed := by
  simp [Part.stopChannels, Axle.all]

@[simp] theorem Part.takeDemand_untouched (p : Part) (a : Axle) (kPa : Nat) :
    (p.takeDemand a kPa).now = p.now ∧ (p.takeDemand a kPa).control = p.control ∧ (p.takeDemand a
    kPa).store = p.store ∧ (p.takeDemand a kPa).demand = p.demand ∧ (p.takeDemand a kPa).motion =
    p.motion ∧ (p.takeDemand a kPa).slip = p.slip ∧ (p.takeDemand a kPa).cap = p.cap ∧ (p.takeDemand a
    kPa).app = p.app ∧ (p.takeDemand a kPa).thermal = p.thermal ∧ (p.takeDemand a kPa).ret = p.ret ∧
    (p.takeDemand a kPa).flap = p.flap ∧ (p.takeDemand a kPa).retRoute = p.retRoute ∧ (p.takeDemand a
    kPa).faults = p.faults ∧ (p.takeDemand a kPa).flags = p.flags ∧ (p.takeDemand a kPa).vl = p.vl ∧
    (p.takeDemand a kPa).fswClosed = p.fswClosed ∧ (p.takeDemand a kPa).handed = p.handed := by
  simp only [Part.takeDemand]
  (repeat' split) <;> simp

@[simp] theorem Part.trackPressure_untouched (p : Part) (a : Axle) (kPa : Nat) :
    (p.trackPressure a kPa).now = p.now ∧ (p.trackPressure a kPa).control = p.control ∧ (p.trackPressure
    a kPa).store = p.store ∧ (p.trackPressure a kPa).demand = p.demand ∧ (p.trackPressure a kPa).motion
    = p.motion ∧ (p.trackPressure a kPa).slip = p.slip ∧ (p.trackPressure a kPa).cap = p.cap ∧
    (p.trackPressure a kPa).app = p.app ∧ (p.trackPressure a kPa).thermal = p.thermal ∧ (p.trackPressure
    a kPa).ret = p.ret ∧ (p.trackPressure a kPa).flap = p.flap ∧ (p.trackPressure a kPa).retRoute =
    p.retRoute ∧ (p.trackPressure a kPa).link = p.link ∧ (p.trackPressure a kPa).faults = p.faults ∧
    (p.trackPressure a kPa).flags = p.flags ∧ (p.trackPressure a kPa).vl = p.vl ∧ (p.trackPressure a
    kPa).fswClosed = p.fswClosed ∧ (p.trackPressure a kPa).handed = p.handed := by
  simp only [Part.trackPressure]
  (repeat' split) <;> simp

@[simp] theorem Part.judgeSample_untouched (p : Part) (a : Axle) (kPa : Int) :
    (p.judgeSample a kPa).now = p.now ∧ (p.judgeSample a kPa).control = p.control ∧ (p.judgeSample a
    kPa).store = p.store ∧ (p.judgeSample a kPa).demand = p.demand ∧ (p.judgeSample a kPa).motion =
    p.motion ∧ (p.judgeSample a kPa).slip = p.slip ∧ (p.judgeSample a kPa).cap = p.cap ∧ (p.judgeSample
    a kPa).thermal = p.thermal ∧ (p.judgeSample a kPa).ret = p.ret ∧ (p.judgeSample a kPa).flap = p.flap
    ∧ (p.judgeSample a kPa).retRoute = p.retRoute ∧ (p.judgeSample a kPa).vl = p.vl ∧ (p.judgeSample a
    kPa).fswClosed = p.fswClosed := by
  simp only [Part.judgeSample]
  (repeat' split) <;> simp

@[simp] theorem Part.takeMeasurement_untouched (p : Part) (a : Axle) (kPa : Nat) :
    (p.takeMeasurement a kPa).now = p.now ∧ (p.takeMeasurement a kPa).control = p.control ∧
    (p.takeMeasurement a kPa).store = p.store ∧ (p.takeMeasurement a kPa).demand = p.demand ∧
    (p.takeMeasurement a kPa).motion = p.motion ∧ (p.takeMeasurement a kPa).slip = p.slip ∧
    (p.takeMeasurement a kPa).cap = p.cap ∧ (p.takeMeasurement a kPa).app = p.app ∧ (p.takeMeasurement a
    kPa).thermal = p.thermal ∧ (p.takeMeasurement a kPa).ret = p.ret ∧ (p.takeMeasurement a kPa).flap =
    p.flap ∧ (p.takeMeasurement a kPa).retRoute = p.retRoute ∧ (p.takeMeasurement a kPa).link = p.link ∧
    (p.takeMeasurement a kPa).faults = p.faults ∧ (p.takeMeasurement a kPa).flags = p.flags ∧
    (p.takeMeasurement a kPa).vl = p.vl ∧ (p.takeMeasurement a kPa).fswClosed = p.fswClosed ∧
    (p.takeMeasurement a kPa).handed = p.handed := by
  simp only [Part.takeMeasurement]
  simp

@[simp] theorem Part.channelLost_untouched (p : Part) (a : Axle) :
    (p.channelLost a).now = p.now ∧ (p.channelLost a).control = p.control ∧ (p.channelLost a).store =
    p.store ∧ (p.channelLost a).demand = p.demand ∧ (p.channelLost a).motion = p.motion ∧ (p.channelLost
    a).slip = p.slip ∧ (p.channelLost a).cap = p.cap ∧ (p.channelLost a).thermal = p.thermal ∧
    (p.channelLost a).ret = p.ret ∧ (p.channelLost a).flap = p.flap ∧ (p.channelLost a).retRoute =
    p.retRoute ∧ (p.channelLost a).faults = p.faults ∧ (p.channelLost a).flags = p.flags ∧
    (p.channelLost a).vl = p.vl ∧ (p.channelLost a).fswClosed = p.fswClosed := by
  simp only [Part.channelLost]
  (repeat' split) <;> simp

@[simp] theorem Part.channelFound_untouched (p : Part) (a : Axle) :
    (p.channelFound a).now = p.now ∧ (p.channelFound a).control = p.control ∧ (p.channelFound a).store =
    p.store ∧ (p.channelFound a).demand = p.demand ∧ (p.channelFound a).motion = p.motion ∧
    (p.channelFound a).slip = p.slip ∧ (p.channelFound a).cap = p.cap ∧ (p.channelFound a).thermal =
    p.thermal ∧ (p.channelFound a).ret = p.ret ∧ (p.channelFound a).flap = p.flap ∧ (p.channelFound
    a).retRoute = p.retRoute ∧ (p.channelFound a).faults = p.faults ∧ (p.channelFound a).flags = p.flags
    ∧ (p.channelFound a).vl = p.vl ∧ (p.channelFound a).fswClosed = p.fswClosed := by
  simp only [Part.channelFound]
  (repeat' split) <;> simp

@[simp] theorem Part.readmitChannel_untouched (p : Part) (a : Axle) :
    (p.readmitChannel a).now = p.now ∧ (p.readmitChannel a).control = p.control ∧ (p.readmitChannel
    a).store = p.store ∧ (p.readmitChannel a).demand = p.demand ∧ (p.readmitChannel a).motion = p.motion
    ∧ (p.readmitChannel a).slip = p.slip ∧ (p.readmitChannel a).cap = p.cap ∧ (p.readmitChannel
    a).thermal = p.thermal ∧ (p.readmitChannel a).ret = p.ret ∧ (p.readmitChannel a).flap = p.flap ∧
    (p.readmitChannel a).retRoute = p.retRoute ∧ (p.readmitChannel a).faults = p.faults ∧
    (p.readmitChannel a).flags = p.flags ∧ (p.readmitChannel a).vl = p.vl ∧ (p.readmitChannel
    a).fswClosed = p.fswClosed := by
  simp only [Part.readmitChannel]
  (repeat' split) <;> simp

@[simp] theorem Part.postRetarder_untouched (p : Part) (t : RetarderTarget) :
    (p.postRetarder t).now = p.now ∧ (p.postRetarder t).control = p.control ∧ (p.postRetarder t).store =
    p.store ∧ (p.postRetarder t).demand = p.demand ∧ (p.postRetarder t).motion = p.motion ∧
    (p.postRetarder t).slip = p.slip ∧ (p.postRetarder t).cap = p.cap ∧ (p.postRetarder t).app = p.app ∧
    (p.postRetarder t).thermal = p.thermal ∧ (p.postRetarder t).ret = p.ret ∧ (p.postRetarder t).flap =
    p.flap ∧ (p.postRetarder t).chan = p.chan ∧ (p.postRetarder t).retRoute = p.retRoute ∧
    (p.postRetarder t).faults = p.faults ∧ (p.postRetarder t).flags = p.flags ∧ (p.postRetarder t).vl =
    p.vl ∧ (p.postRetarder t).fswClosed = p.fswClosed ∧ (p.postRetarder t).handed = p.handed := by
  simp only [Part.postRetarder]
  (repeat' split) <;> simp

@[simp] theorem Part.sendRetarder_untouched (p : Part) (t : RetarderTarget) :
    (p.sendRetarder t).now = p.now ∧ (p.sendRetarder t).control = p.control ∧ (p.sendRetarder t).store =
    p.store ∧ (p.sendRetarder t).demand = p.demand ∧ (p.sendRetarder t).motion = p.motion ∧
    (p.sendRetarder t).slip = p.slip ∧ (p.sendRetarder t).cap = p.cap ∧ (p.sendRetarder t).app = p.app ∧
    (p.sendRetarder t).thermal = p.thermal ∧ (p.sendRetarder t).flap = p.flap ∧ (p.sendRetarder t).chan
    = p.chan ∧ (p.sendRetarder t).retRoute = p.retRoute ∧ (p.sendRetarder t).faults = p.faults ∧
    (p.sendRetarder t).flags = p.flags ∧ (p.sendRetarder t).vl = p.vl ∧ (p.sendRetarder t).fswClosed =
    p.fswClosed ∧ (p.sendRetarder t).handed = p.handed := by
  simp only [Part.sendRetarder]
  simp

@[simp] theorem Part.retargetRetarder_untouched (p : Part) :
    p.retargetRetarder.now = p.now ∧ p.retargetRetarder.control = p.control ∧ p.retargetRetarder.store =
    p.store ∧ p.retargetRetarder.demand = p.demand ∧ p.retargetRetarder.motion = p.motion ∧
    p.retargetRetarder.slip = p.slip ∧ p.retargetRetarder.cap = p.cap ∧ p.retargetRetarder.app = p.app ∧
    p.retargetRetarder.thermal = p.thermal ∧ p.retargetRetarder.flap = p.flap ∧ p.retargetRetarder.chan
    = p.chan ∧ p.retargetRetarder.retRoute = p.retRoute ∧ p.retargetRetarder.faults = p.faults ∧
    p.retargetRetarder.flags = p.flags ∧ p.retargetRetarder.vl = p.vl ∧ p.retargetRetarder.fswClosed =
    p.fswClosed ∧ p.retargetRetarder.handed = p.handed := by
  simp only [Part.retargetRetarder]
  (repeat' split) <;> simp

@[simp] theorem Part.enterRetarder_untouched (p : Part) (st : RetarderState) :
    (p.enterRetarder st).now = p.now ∧ (p.enterRetarder st).control = p.control ∧ (p.enterRetarder
    st).store = p.store ∧ (p.enterRetarder st).demand = p.demand ∧ (p.enterRetarder st).motion =
    p.motion ∧ (p.enterRetarder st).slip = p.slip ∧ (p.enterRetarder st).cap = p.cap ∧ (p.enterRetarder
    st).app = p.app ∧ (p.enterRetarder st).thermal = p.thermal ∧ (p.enterRetarder st).flap = p.flap ∧
    (p.enterRetarder st).chan = p.chan ∧ (p.enterRetarder st).retRoute = p.retRoute ∧ (p.enterRetarder
    st).faults = p.faults ∧ (p.enterRetarder st).flags = p.flags ∧ (p.enterRetarder st).vl = p.vl ∧
    (p.enterRetarder st).fswClosed = p.fswClosed ∧ (p.enterRetarder st).handed = p.handed := by
  simp only [Part.enterRetarder]
  simp

@[simp] theorem Part.drainRetarder_untouched (p : Part) :
    p.drainRetarder.now = p.now ∧ p.drainRetarder.control = p.control ∧ p.drainRetarder.store = p.store
    ∧ p.drainRetarder.demand = p.demand ∧ p.drainRetarder.motion = p.motion ∧ p.drainRetarder.slip =
    p.slip ∧ p.drainRetarder.cap = p.cap ∧ p.drainRetarder.app = p.app ∧ p.drainRetarder.thermal =
    p.thermal ∧ p.drainRetarder.flap = p.flap ∧ p.drainRetarder.chan = p.chan ∧ p.drainRetarder.retRoute
    = p.retRoute ∧ p.drainRetarder.faults = p.faults ∧ p.drainRetarder.flags = p.flags ∧
    p.drainRetarder.vl = p.vl ∧ p.drainRetarder.fswClosed = p.fswClosed ∧ p.drainRetarder.handed =
    p.handed := by
  simp only [Part.drainRetarder]
  simp

@[simp] theorem Part.considerEngage_untouched (p : Part) :
    p.considerEngage.now = p.now ∧ p.considerEngage.control = p.control ∧ p.considerEngage.store =
    p.store ∧ p.considerEngage.demand = p.demand ∧ p.considerEngage.motion = p.motion ∧
    p.considerEngage.slip = p.slip ∧ p.considerEngage.cap = p.cap ∧ p.considerEngage.app = p.app ∧
    p.considerEngage.thermal = p.thermal ∧ p.considerEngage.flap = p.flap ∧ p.considerEngage.chan =
    p.chan ∧ p.considerEngage.retRoute = p.retRoute ∧ p.considerEngage.faults = p.faults ∧
    p.considerEngage.vl = p.vl ∧ p.considerEngage.fswClosed = p.fswClosed ∧ p.considerEngage.handed =
    p.handed := by
  simp only [Part.considerEngage]
  (repeat' split) <;> simp

@[simp] theorem Part.judgeRelease_untouched (p : Part) (want command : Nat) :
    (p.judgeRelease want command).now = p.now ∧ (p.judgeRelease want command).control = p.control ∧
    (p.judgeRelease want command).store = p.store ∧ (p.judgeRelease want command).demand = p.demand ∧
    (p.judgeRelease want command).motion = p.motion ∧ (p.judgeRelease want command).slip = p.slip ∧
    (p.judgeRelease want command).cap = p.cap ∧ (p.judgeRelease want command).app = p.app ∧
    (p.judgeRelease want command).thermal = p.thermal ∧ (p.judgeRelease want command).flap = p.flap ∧
    (p.judgeRelease want command).chan = p.chan ∧ (p.judgeRelease want command).retRoute = p.retRoute ∧
    (p.judgeRelease want command).faults = p.faults ∧ (p.judgeRelease want command).flags = p.flags ∧
    (p.judgeRelease want command).vl = p.vl ∧ (p.judgeRelease want command).fswClosed = p.fswClosed ∧
    (p.judgeRelease want command).handed = p.handed := by
  simp only [Part.judgeRelease]
  (repeat' split) <;> simp

@[simp] theorem Part.takeWant_untouched (p : Part) (want command : Nat) :
    (p.takeWant want command).now = p.now ∧ (p.takeWant want command).control = p.control ∧ (p.takeWant
    want command).store = p.store ∧ (p.takeWant want command).demand = p.demand ∧ (p.takeWant want
    command).motion = p.motion ∧ (p.takeWant want command).slip = p.slip ∧ (p.takeWant want command).cap
    = p.cap ∧ (p.takeWant want command).app = p.app ∧ (p.takeWant want command).thermal = p.thermal ∧
    (p.takeWant want command).flap = p.flap ∧ (p.takeWant want command).chan = p.chan ∧ (p.takeWant want
    command).retRoute = p.retRoute ∧ (p.takeWant want command).faults = p.faults ∧ (p.takeWant want
    command).vl = p.vl ∧ (p.takeWant want command).fswClosed = p.fswClosed ∧ (p.takeWant want
    command).handed = p.handed := by
  simp only [Part.takeWant]
  (repeat' split) <;> simp

@[simp] theorem Part.takeNodeState_untouched (p : Part) (st : NodeState) :
    (p.takeNodeState st).now = p.now ∧ (p.takeNodeState st).control = p.control ∧ (p.takeNodeState
    st).store = p.store ∧ (p.takeNodeState st).demand = p.demand ∧ (p.takeNodeState st).motion =
    p.motion ∧ (p.takeNodeState st).slip = p.slip ∧ (p.takeNodeState st).cap = p.cap ∧ (p.takeNodeState
    st).app = p.app ∧ (p.takeNodeState st).thermal = p.thermal ∧ (p.takeNodeState st).flap = p.flap ∧
    (p.takeNodeState st).chan = p.chan ∧ (p.takeNodeState st).retRoute = p.retRoute ∧ (p.takeNodeState
    st).faults = p.faults ∧ (p.takeNodeState st).flags = p.flags ∧ (p.takeNodeState st).vl = p.vl ∧
    (p.takeNodeState st).fswClosed = p.fswClosed ∧ (p.takeNodeState st).handed = p.handed := by
  simp only [Part.takeNodeState]
  (repeat' split) <;> simp

@[simp] theorem Part.loseRetarder_untouched (p : Part) :
    p.loseRetarder.now = p.now ∧ p.loseRetarder.control = p.control ∧ p.loseRetarder.store = p.store ∧
    p.loseRetarder.demand = p.demand ∧ p.loseRetarder.motion = p.motion ∧ p.loseRetarder.slip = p.slip ∧
    p.loseRetarder.cap = p.cap ∧ p.loseRetarder.app = p.app ∧ p.loseRetarder.thermal = p.thermal ∧
    p.loseRetarder.flap = p.flap ∧ p.loseRetarder.chan = p.chan ∧ p.loseRetarder.retRoute = p.retRoute ∧
    p.loseRetarder.faults = p.faults ∧ p.loseRetarder.flags = p.flags ∧ p.loseRetarder.vl = p.vl ∧
    p.loseRetarder.fswClosed = p.fswClosed ∧ p.loseRetarder.handed = p.handed := by
  simp only [Part.loseRetarder]
  (repeat' split) <;> simp

@[simp] theorem Part.readmitRetarder_untouched (p : Part) :
    p.readmitRetarder.now = p.now ∧ p.readmitRetarder.control = p.control ∧ p.readmitRetarder.store =
    p.store ∧ p.readmitRetarder.demand = p.demand ∧ p.readmitRetarder.motion = p.motion ∧
    p.readmitRetarder.slip = p.slip ∧ p.readmitRetarder.cap = p.cap ∧ p.readmitRetarder.app = p.app ∧
    p.readmitRetarder.thermal = p.thermal ∧ p.readmitRetarder.flap = p.flap ∧ p.readmitRetarder.chan =
    p.chan ∧ p.readmitRetarder.retRoute = p.retRoute ∧ p.readmitRetarder.faults = p.faults ∧
    p.readmitRetarder.flags = p.flags ∧ p.readmitRetarder.vl = p.vl ∧ p.readmitRetarder.fswClosed =
    p.fswClosed ∧ p.readmitRetarder.handed = p.handed := by
  simp only [Part.readmitRetarder]
  (repeat' split) <;> simp

@[simp] theorem Part.stopRetarder_untouched (p : Part) :
    p.stopRetarder.now = p.now ∧ p.stopRetarder.control = p.control ∧ p.stopRetarder.store = p.store ∧
    p.stopRetarder.demand = p.demand ∧ p.stopRetarder.motion = p.motion ∧ p.stopRetarder.slip = p.slip ∧
    p.stopRetarder.cap = p.cap ∧ p.stopRetarder.app = p.app ∧ p.stopRetarder.thermal = p.thermal ∧
    p.stopRetarder.flap = p.flap ∧ p.stopRetarder.chan = p.chan ∧ p.stopRetarder.retRoute = p.retRoute ∧
    p.stopRetarder.faults = p.faults ∧ p.stopRetarder.flags = p.flags ∧ p.stopRetarder.vl = p.vl ∧
    p.stopRetarder.fswClosed = p.fswClosed ∧ p.stopRetarder.handed = p.handed := by
  simp only [Part.stopRetarder]
  (repeat' split) <;> simp

@[simp] theorem Part.changeFlap_untouched (p : Part) (f : FlapControl) :
    (p.changeFlap f).now = p.now ∧ (p.changeFlap f).control = p.control ∧ (p.changeFlap f).store =
    p.store ∧ (p.changeFlap f).demand = p.demand ∧ (p.changeFlap f).motion = p.motion ∧ (p.changeFlap
    f).slip = p.slip ∧ (p.changeFlap f).cap = p.cap ∧ (p.changeFlap f).app = p.app ∧ (p.changeFlap
    f).thermal = p.thermal ∧ (p.changeFlap f).ret = p.ret ∧ (p.changeFlap f).chan = p.chan ∧
    (p.changeFlap f).retRoute = p.retRoute ∧ (p.changeFlap f).link = p.link ∧ (p.changeFlap f).faults =
    p.faults ∧ (p.changeFlap f).flags = p.flags ∧ (p.changeFlap f).vl = p.vl ∧ (p.changeFlap
    f).fswClosed = p.fswClosed := by
  simp only [Part.changeFlap]
  (repeat' split) <;> simp

@[simp] theorem Part.flapOpened_untouched (p : Part) :
    p.flapOpened.now = p.now ∧ p.flapOpened.control = p.control ∧ p.flapOpened.store = p.store ∧
    p.flapOpened.demand = p.demand ∧ p.flapOpened.motion = p.motion ∧ p.flapOpened.slip = p.slip ∧
    p.flapOpened.cap = p.cap ∧ p.flapOpened.app = p.app ∧ p.flapOpened.thermal = p.thermal ∧
    p.flapOpened.ret = p.ret ∧ p.flapOpened.chan = p.chan ∧ p.flapOpened.retRoute = p.retRoute ∧
    p.flapOpened.link = p.link ∧ p.flapOpened.faults = p.faults ∧ p.flapOpened.flags = p.flags ∧
    p.flapOpened.vl = p.vl ∧ p.flapOpened.fswClosed = p.fswClosed := by
  simp only [Part.flapOpened]
  simp

@[simp] theorem Part.flapOpening_untouched (p : Part) :
    p.flapOpening.now = p.now ∧ p.flapOpening.control = p.control ∧ p.flapOpening.store = p.store ∧
    p.flapOpening.demand = p.demand ∧ p.flapOpening.motion = p.motion ∧ p.flapOpening.slip = p.slip ∧
    p.flapOpening.cap = p.cap ∧ p.flapOpening.app = p.app ∧ p.flapOpening.thermal = p.thermal ∧
    p.flapOpening.ret = p.ret ∧ p.flapOpening.chan = p.chan ∧ p.flapOpening.retRoute = p.retRoute ∧
    p.flapOpening.link = p.link ∧ p.flapOpening.faults = p.faults ∧ p.flapOpening.flags = p.flags ∧
    p.flapOpening.vl = p.vl ∧ p.flapOpening.fswClosed = p.fswClosed := by
  simp only [Part.flapOpening]
  simp

@[simp] theorem Part.flapTrips_untouched (p : Part) (code : FaultCode) :
    (p.flapTrips code).now = p.now ∧ (p.flapTrips code).control = p.control ∧ (p.flapTrips code).store =
    p.store ∧ (p.flapTrips code).demand = p.demand ∧ (p.flapTrips code).motion = p.motion ∧ (p.flapTrips
    code).slip = p.slip ∧ (p.flapTrips code).cap = p.cap ∧ (p.flapTrips code).app = p.app ∧ (p.flapTrips
    code).thermal = p.thermal ∧ (p.flapTrips code).ret = p.ret ∧ (p.flapTrips code).chan = p.chan ∧
    (p.flapTrips code).retRoute = p.retRoute ∧ (p.flapTrips code).link = p.link ∧ (p.flapTrips code).vl
    = p.vl ∧ (p.flapTrips code).fswClosed = p.fswClosed := by
  simp only [Part.flapTrips]
  simp

@[simp] theorem Part.flapOpenWant_untouched (p : Part) :
    p.flapOpenWant.now = p.now ∧ p.flapOpenWant.control = p.control ∧ p.flapOpenWant.store = p.store ∧
    p.flapOpenWant.demand = p.demand ∧ p.flapOpenWant.motion = p.motion ∧ p.flapOpenWant.slip = p.slip ∧
    p.flapOpenWant.cap = p.cap ∧ p.flapOpenWant.app = p.app ∧ p.flapOpenWant.thermal = p.thermal ∧
    p.flapOpenWant.ret = p.ret ∧ p.flapOpenWant.chan = p.chan ∧ p.flapOpenWant.retRoute = p.retRoute ∧
    p.flapOpenWant.link = p.link ∧ p.flapOpenWant.faults = p.faults ∧ p.flapOpenWant.flags = p.flags ∧
    p.flapOpenWant.vl = p.vl ∧ p.flapOpenWant.fswClosed = p.fswClosed := by
  simp only [Part.flapOpenWant]
  (repeat' split) <;> simp

@[simp] theorem Part.flapCloseWant_untouched (p : Part) :
    p.flapCloseWant.now = p.now ∧ p.flapCloseWant.control = p.control ∧ p.flapCloseWant.store = p.store
    ∧ p.flapCloseWant.demand = p.demand ∧ p.flapCloseWant.motion = p.motion ∧ p.flapCloseWant.slip =
    p.slip ∧ p.flapCloseWant.cap = p.cap ∧ p.flapCloseWant.app = p.app ∧ p.flapCloseWant.thermal =
    p.thermal ∧ p.flapCloseWant.ret = p.ret ∧ p.flapCloseWant.chan = p.chan ∧ p.flapCloseWant.retRoute =
    p.retRoute ∧ p.flapCloseWant.link = p.link ∧ p.flapCloseWant.faults = p.faults ∧
    p.flapCloseWant.flags = p.flags ∧ p.flapCloseWant.vl = p.vl ∧ p.flapCloseWant.fswClosed =
    p.fswClosed := by
  simp only [Part.flapCloseWant]
  (repeat' split) <;> simp

@[simp] theorem Part.takeSwitch_untouched (p : Part) (closed : Bool) :
    (p.takeSwitch closed).now = p.now ∧ (p.takeSwitch closed).control = p.control ∧ (p.takeSwitch
    closed).store = p.store ∧ (p.takeSwitch closed).demand = p.demand ∧ (p.takeSwitch closed).motion =
    p.motion ∧ (p.takeSwitch closed).slip = p.slip ∧ (p.takeSwitch closed).cap = p.cap ∧ (p.takeSwitch
    closed).app = p.app ∧ (p.takeSwitch closed).thermal = p.thermal ∧ (p.takeSwitch closed).ret = p.ret
    ∧ (p.takeSwitch closed).chan = p.chan ∧ (p.takeSwitch closed).retRoute = p.retRoute ∧ (p.takeSwitch
    closed).link = p.link ∧ (p.takeSwitch closed).vl = p.vl ∧ (p.takeSwitch closed).fswClosed =
    p.fswClosed := by
  simp only [Part.takeSwitch]
  (repeat' split) <;> simp

@[simp] theorem Part.takeWaitingSwitch_untouched (p : Part) :
    p.takeWaitingSwitch.now = p.now ∧ p.takeWaitingSwitch.control = p.control ∧ p.takeWaitingSwitch.store = p.store ∧
    p.takeWaitingSwitch.demand = p.demand ∧ p.takeWaitingSwitch.motion = p.motion ∧ p.takeWaitingSwitch.slip = p.slip ∧
    p.takeWaitingSwitch.cap = p.cap ∧ p.takeWaitingSwitch.app = p.app ∧ p.takeWaitingSwitch.thermal = p.thermal ∧
    p.takeWaitingSwitch.ret = p.ret ∧ p.takeWaitingSwitch.chan = p.chan ∧
    p.takeWaitingSwitch.retRoute = p.retRoute ∧ p.takeWaitingSwitch.link = p.link ∧
    p.takeWaitingSwitch.vl = p.vl ∧ p.takeWaitingSwitch.fswClosed = p.fswClosed := by
  simp only [Part.takeWaitingSwitch]
  split <;> simp

/-- A change that does not wait is not acted on. -/
theorem Part.takeWaitingSwitch_of_not_waiting (p : Part) (h : p.switchWaits = false) : p.takeWaitingSwitch = p := by
  simp [Part.takeWaitingSwitch, h]

/-- Once a change has been acted on, none waits. -/
theorem Part.switchWaits_takeWaitingSwitch (p : Part) : p.takeWaitingSwitch.switchWaits = false := by
  have reading : ∀ q : Part, ∀ c, (q.takeSwitch c).flap.switchClosed = c := by
    intro q c
    simp only [Part.takeSwitch]
    (repeat' split) <;> simp_all [Part.flapTrips, Part.flapOpened, Part.changeFlap]
  simp only [Part.takeWaitingSwitch]
  split
  · simp [Part.switchWaits, reading]
  · simp_all

@[simp] theorem Part.readmitFlap_untouched (p : Part) :
    p.readmitFlap.now = p.now ∧ p.readmitFlap.control = p.control ∧ p.readmitFlap.store = p.store ∧
    p.readmitFlap.demand = p.demand ∧ p.readmitFlap.motion = p.motion ∧ p.readmitFlap.slip = p.slip ∧
    p.readmitFlap.cap = p.cap ∧ p.readmitFlap.app = p.app ∧ p.readmitFlap.thermal = p.thermal ∧
    p.readmitFlap.ret = p.ret ∧ p.readmitFlap.chan = p.chan ∧ p.readmitFlap.retRoute = p.retRoute ∧
    p.readmitFlap.link = p.link ∧ p.readmitFlap.faults = p.faults ∧ p.readmitFlap.flags = p.flags ∧
    p.readmitFlap.vl = p.vl ∧ p.readmitFlap.fswClosed = p.fswClosed := by
  simp only [Part.readmitFlap]
  (repeat' split) <;> simp

@[simp] theorem Part.judgeFlap_untouched (p : Part) :
    p.judgeFlap.now = p.now ∧ p.judgeFlap.control = p.control ∧ p.judgeFlap.store = p.store ∧
    p.judgeFlap.demand = p.demand ∧ p.judgeFlap.motion = p.motion ∧ p.judgeFlap.slip = p.slip ∧
    p.judgeFlap.cap = p.cap ∧ p.judgeFlap.app = p.app ∧ p.judgeFlap.thermal = p.thermal ∧
    p.judgeFlap.ret = p.ret ∧ p.judgeFlap.chan = p.chan ∧ p.judgeFlap.retRoute = p.retRoute ∧
    p.judgeFlap.link = p.link ∧ p.judgeFlap.faults = p.faults ∧ p.judgeFlap.flags = p.flags ∧
    p.judgeFlap.vl = p.vl ∧ p.judgeFlap.fswClosed = p.fswClosed := by
  simp only [Part.judgeFlap]
  (repeat' split) <;> simp

@[simp] theorem Part.flapAtAcceptance_untouched (p : Part) :
    p.flapAtAcceptance.now = p.now ∧ p.flapAtAcceptance.control = p.control ∧ p.flapAtAcceptance.store =
    p.store ∧ p.flapAtAcceptance.demand = p.demand ∧ p.flapAtAcceptance.motion = p.motion ∧
    p.flapAtAcceptance.slip = p.slip ∧ p.flapAtAcceptance.cap = p.cap ∧ p.flapAtAcceptance.app = p.app ∧
    p.flapAtAcceptance.thermal = p.thermal ∧ p.flapAtAcceptance.ret = p.ret ∧ p.flapAtAcceptance.chan =
    p.chan ∧ p.flapAtAcceptance.retRoute = p.retRoute ∧ p.flapAtAcceptance.link = p.link ∧
    p.flapAtAcceptance.faults = p.faults ∧ p.flapAtAcceptance.flags = p.flags ∧ p.flapAtAcceptance.vl =
    p.vl ∧ p.flapAtAcceptance.fswClosed = p.fswClosed := by
  simp only [Part.flapAtAcceptance]
  (repeat' split) <;> simp

@[simp] theorem Part.flapAtWarmReset_untouched (p : Part) :
    p.flapAtWarmReset.now = p.now ∧ p.flapAtWarmReset.control = p.control ∧ p.flapAtWarmReset.store =
    p.store ∧ p.flapAtWarmReset.demand = p.demand ∧ p.flapAtWarmReset.motion = p.motion ∧
    p.flapAtWarmReset.slip = p.slip ∧ p.flapAtWarmReset.cap = p.cap ∧ p.flapAtWarmReset.app = p.app ∧
    p.flapAtWarmReset.thermal = p.thermal ∧ p.flapAtWarmReset.ret = p.ret ∧ p.flapAtWarmReset.chan =
    p.chan ∧ p.flapAtWarmReset.retRoute = p.retRoute ∧ p.flapAtWarmReset.link = p.link ∧
    p.flapAtWarmReset.faults = p.faults ∧ p.flapAtWarmReset.flags = p.flags ∧ p.flapAtWarmReset.vl =
    p.vl ∧ p.flapAtWarmReset.fswClosed = p.fswClosed := by
  simp only [Part.flapAtWarmReset]
  (repeat' split) <;> simp

@[simp] theorem Part.remapForces_untouched (p : Part) :
    p.remapForces.now = p.now ∧ p.remapForces.control = p.control ∧ p.remapForces.store = p.store ∧
    p.remapForces.motion = p.motion ∧ p.remapForces.slip = p.slip ∧ p.remapForces.cap = p.cap ∧
    p.remapForces.app = p.app ∧ p.remapForces.thermal = p.thermal ∧ p.remapForces.ret = p.ret ∧
    p.remapForces.flap = p.flap ∧ p.remapForces.chan = p.chan ∧ p.remapForces.retRoute = p.retRoute ∧
    p.remapForces.link = p.link ∧ p.remapForces.faults = p.faults ∧ p.remapForces.flags = p.flags ∧
    p.remapForces.vl = p.vl ∧ p.remapForces.fswClosed = p.fswClosed ∧ p.remapForces.handed = p.handed := by
  simp only [Part.remapForces]
  simp

@[simp] theorem Part.takeDemandRecord_untouched (p : Part) (pedal lever : Nat) (reference : Option Nat) :
    (p.takeDemandRecord pedal lever reference).now = p.now ∧ (p.takeDemandRecord pedal lever
    reference).control = p.control ∧ (p.takeDemandRecord pedal lever reference).store = p.store ∧
    (p.takeDemandRecord pedal lever reference).motion = p.motion ∧ (p.takeDemandRecord pedal lever
    reference).slip = p.slip ∧ (p.takeDemandRecord pedal lever reference).cap = p.cap ∧
    (p.takeDemandRecord pedal lever reference).app = p.app ∧ (p.takeDemandRecord pedal lever
    reference).thermal = p.thermal ∧ (p.takeDemandRecord pedal lever reference).ret = p.ret ∧
    (p.takeDemandRecord pedal lever reference).flap = p.flap ∧ (p.takeDemandRecord pedal lever
    reference).chan = p.chan ∧ (p.takeDemandRecord pedal lever reference).retRoute = p.retRoute ∧
    (p.takeDemandRecord pedal lever reference).link = p.link ∧ (p.takeDemandRecord pedal lever
    reference).faults = p.faults ∧ (p.takeDemandRecord pedal lever reference).flags = p.flags ∧
    (p.takeDemandRecord pedal lever reference).vl = p.vl ∧ (p.takeDemandRecord pedal lever
    reference).fswClosed = p.fswClosed ∧ (p.takeDemandRecord pedal lever reference).handed = p.handed := by
  simp only [Part.takeDemandRecord]
  (repeat' split) <;> simp

@[simp] theorem Part.setAssists_untouched (p : Part) (l : List AssistEntry) :
    (p.setAssists l).now = p.now ∧ (p.setAssists l).control = p.control ∧ (p.setAssists l).store =
    p.store ∧ (p.setAssists l).motion = p.motion ∧ (p.setAssists l).slip = p.slip ∧ (p.setAssists l).cap
    = p.cap ∧ (p.setAssists l).app = p.app ∧ (p.setAssists l).thermal = p.thermal ∧ (p.setAssists l).ret
    = p.ret ∧ (p.setAssists l).flap = p.flap ∧ (p.setAssists l).chan = p.chan ∧ (p.setAssists
    l).retRoute = p.retRoute ∧ (p.setAssists l).link = p.link ∧ (p.setAssists l).faults = p.faults ∧
    (p.setAssists l).flags = p.flags ∧ (p.setAssists l).vl = p.vl ∧ (p.setAssists l).fswClosed =
    p.fswClosed ∧ (p.setAssists l).handed = p.handed := by
  simp only [Part.setAssists]
  simp

@[simp] theorem Part.dropAssists_untouched (p : Part) :
    p.dropAssists.now = p.now ∧ p.dropAssists.control = p.control ∧ p.dropAssists.store = p.store ∧
    p.dropAssists.motion = p.motion ∧ p.dropAssists.slip = p.slip ∧ p.dropAssists.cap = p.cap ∧
    p.dropAssists.app = p.app ∧ p.dropAssists.thermal = p.thermal ∧ p.dropAssists.ret = p.ret ∧
    p.dropAssists.flap = p.flap ∧ p.dropAssists.chan = p.chan ∧ p.dropAssists.retRoute = p.retRoute ∧
    p.dropAssists.link = p.link ∧ p.dropAssists.faults = p.faults ∧ p.dropAssists.vl = p.vl ∧
    p.dropAssists.fswClosed = p.fswClosed ∧ p.dropAssists.handed = p.handed := by
  simp only [Part.dropAssists]
  (repeat' split) <;> simp

@[simp] theorem Part.setMass_untouched (p : Part) (kg : Nat) :
    (p.setMass kg).now = p.now ∧ (p.setMass kg).control = p.control ∧ (p.setMass kg).store = p.store ∧
    (p.setMass kg).motion = p.motion ∧ (p.setMass kg).slip = p.slip ∧ (p.setMass kg).cap = p.cap ∧
    (p.setMass kg).app = p.app ∧ (p.setMass kg).thermal = p.thermal ∧ (p.setMass kg).ret = p.ret ∧
    (p.setMass kg).flap = p.flap ∧ (p.setMass kg).chan = p.chan ∧ (p.setMass kg).retRoute = p.retRoute ∧
    (p.setMass kg).link = p.link ∧ (p.setMass kg).faults = p.faults ∧ (p.setMass kg).flags = p.flags ∧
    (p.setMass kg).vl = p.vl ∧ (p.setMass kg).fswClosed = p.fswClosed ∧ (p.setMass kg).handed = p.handed := by
  simp only [Part.setMass]
  simp

@[simp] theorem Part.stopPasses_untouched (p : Part) :
    p.stopPasses.now = p.now ∧ p.stopPasses.control = p.control ∧ p.stopPasses.store = p.store ∧
    p.stopPasses.demand = p.demand ∧ p.stopPasses.motion = p.motion ∧ p.stopPasses.slip = p.slip ∧
    p.stopPasses.cap = p.cap ∧ p.stopPasses.thermal = p.thermal ∧ p.stopPasses.retRoute = p.retRoute ∧
    p.stopPasses.faults = p.faults ∧ p.stopPasses.flags = p.flags ∧ p.stopPasses.vl = p.vl ∧
    p.stopPasses.fswClosed = p.fswClosed := by
  simp only [Part.stopPasses]
  simp

@[simp] theorem Part.judgeAlarm_untouched (p : Part) :
    p.judgeAlarm.now = p.now ∧ p.judgeAlarm.control = p.control ∧ p.judgeAlarm.store = p.store ∧
    p.judgeAlarm.demand = p.demand ∧ p.judgeAlarm.motion = p.motion ∧ p.judgeAlarm.slip = p.slip ∧
    p.judgeAlarm.cap = p.cap ∧ p.judgeAlarm.thermal = p.thermal ∧ p.judgeAlarm.ret = p.ret ∧
    p.judgeAlarm.flap = p.flap ∧ p.judgeAlarm.chan = p.chan ∧ p.judgeAlarm.retRoute = p.retRoute ∧
    p.judgeAlarm.link = p.link ∧ p.judgeAlarm.faults = p.faults ∧ p.judgeAlarm.vl = p.vl ∧
    p.judgeAlarm.fswClosed = p.fswClosed ∧ p.judgeAlarm.handed = p.handed := by
  simp only [Part.judgeAlarm]
  (repeat' split) <;> simp

@[simp] theorem Part.tierChangeAlarm_untouched (p : Part) :
    p.tierChangeAlarm.now = p.now ∧ p.tierChangeAlarm.control = p.control ∧ p.tierChangeAlarm.store =
    p.store ∧ p.tierChangeAlarm.demand = p.demand ∧ p.tierChangeAlarm.motion = p.motion ∧
    p.tierChangeAlarm.slip = p.slip ∧ p.tierChangeAlarm.cap = p.cap ∧ p.tierChangeAlarm.thermal =
    p.thermal ∧ p.tierChangeAlarm.ret = p.ret ∧ p.tierChangeAlarm.flap = p.flap ∧ p.tierChangeAlarm.chan
    = p.chan ∧ p.tierChangeAlarm.retRoute = p.retRoute ∧ p.tierChangeAlarm.link = p.link ∧
    p.tierChangeAlarm.faults = p.faults ∧ p.tierChangeAlarm.vl = p.vl ∧ p.tierChangeAlarm.fswClosed =
    p.fswClosed ∧ p.tierChangeAlarm.handed = p.handed := by
  simp only [Part.tierChangeAlarm]
  (repeat' split) <;> simp

@[simp] theorem Part.actOnModeChange_untouched (p : Part) (old : Mode) :
    (p.actOnModeChange old).now = p.now ∧ (p.actOnModeChange old).control = p.control ∧
    (p.actOnModeChange old).store = p.store ∧ (p.actOnModeChange old).motion = p.motion ∧
    (p.actOnModeChange old).slip = p.slip ∧ (p.actOnModeChange old).cap = p.cap ∧ (p.actOnModeChange
    old).thermal = p.thermal ∧ (p.actOnModeChange old).retRoute = p.retRoute ∧ (p.actOnModeChange
    old).faults = p.faults ∧ (p.actOnModeChange old).vl = p.vl ∧ (p.actOnModeChange old).fswClosed =
    p.fswClosed := by
  simp only [Part.actOnModeChange]
  (repeat' split) <;> simp

@[simp] theorem Part.changeMode_untouched (p : Part) (new : Mode) :
    (p.changeMode new).now = p.now ∧ (p.changeMode new).store = p.store ∧ (p.changeMode new).motion =
    p.motion ∧ (p.changeMode new).slip = p.slip ∧ (p.changeMode new).cap = p.cap ∧ (p.changeMode
    new).thermal = p.thermal ∧ (p.changeMode new).retRoute = p.retRoute ∧ (p.changeMode new).faults =
    p.faults ∧ (p.changeMode new).vl = p.vl ∧ (p.changeMode new).fswClosed = p.fswClosed := by
  simp only [Part.changeMode]
  (repeat' split) <;> simp

@[simp] theorem Part.readmitNamed_untouched (p : Part) (mask : BitVec 16) :
    (p.readmitNamed mask).now = p.now ∧ (p.readmitNamed mask).control = p.control ∧ (p.readmitNamed
    mask).store = p.store ∧ (p.readmitNamed mask).demand = p.demand ∧ (p.readmitNamed mask).motion =
    p.motion ∧ (p.readmitNamed mask).slip = p.slip ∧ (p.readmitNamed mask).cap = p.cap ∧ (p.readmitNamed
    mask).thermal = p.thermal ∧ (p.readmitNamed mask).retRoute = p.retRoute ∧ (p.readmitNamed
    mask).faults = p.faults ∧ (p.readmitNamed mask).flags = p.flags ∧ (p.readmitNamed mask).vl = p.vl ∧
    (p.readmitNamed mask).fswClosed = p.fswClosed := by
  simp only [Part.readmitNamed, Axle.all, List.foldl]
  (repeat' split) <;> simp

@[simp] theorem Part.applyClear_untouched (p : Part) (mask : BitVec 16) :
    (p.applyClear mask).now = p.now ∧ (p.applyClear mask).control = p.control ∧ (p.applyClear
    mask).store = p.store ∧ (p.applyClear mask).demand = p.demand ∧ (p.applyClear mask).motion =
    p.motion ∧ (p.applyClear mask).slip = p.slip ∧ (p.applyClear mask).cap = p.cap ∧ (p.applyClear
    mask).thermal = p.thermal ∧ (p.applyClear mask).retRoute = p.retRoute ∧ (p.applyClear mask).vl =
    p.vl ∧ (p.applyClear mask).fswClosed = p.fswClosed := by
  simp only [Part.applyClear]
  (repeat' split) <;> simp

@[simp] theorem Part.applyHeld_untouched (p : Part) (h : HeldClear) :
    (p.applyHeld h).now = p.now ∧ (p.applyHeld h).control = p.control ∧ (p.applyHeld h).store = p.store
    ∧ (p.applyHeld h).demand = p.demand ∧ (p.applyHeld h).motion = p.motion ∧ (p.applyHeld h).slip =
    p.slip ∧ (p.applyHeld h).cap = p.cap ∧ (p.applyHeld h).thermal = p.thermal ∧ (p.applyHeld
    h).retRoute = p.retRoute ∧ (p.applyHeld h).fswClosed = p.fswClosed := by
  simp only [Part.applyHeld]
  simp

@[simp] theorem Part.noLongerWaiting_untouched (p : Part) (gone : Nat → Bool) :
    (p.noLongerWaiting gone).now = p.now ∧ (p.noLongerWaiting gone).control = p.control ∧
    (p.noLongerWaiting gone).store = p.store ∧ (p.noLongerWaiting gone).demand = p.demand ∧
    (p.noLongerWaiting gone).motion = p.motion ∧ (p.noLongerWaiting gone).slip = p.slip ∧
    (p.noLongerWaiting gone).cap = p.cap ∧ (p.noLongerWaiting gone).thermal = p.thermal ∧
    (p.noLongerWaiting gone).retRoute = p.retRoute ∧ (p.noLongerWaiting gone).fswClosed = p.fswClosed := by
  simp only [Part.noLongerWaiting]
  (repeat' split) <;> simp

@[simp] theorem Part.judgeOvertemp_untouched (p : Part) :
    p.judgeOvertemp.now = p.now ∧ p.judgeOvertemp.control = p.control ∧ p.judgeOvertemp.store = p.store
    ∧ p.judgeOvertemp.demand = p.demand ∧ p.judgeOvertemp.motion = p.motion ∧ p.judgeOvertemp.slip =
    p.slip ∧ p.judgeOvertemp.app = p.app ∧ p.judgeOvertemp.thermal = p.thermal ∧ p.judgeOvertemp.ret =
    p.ret ∧ p.judgeOvertemp.flap = p.flap ∧ p.judgeOvertemp.chan = p.chan ∧ p.judgeOvertemp.retRoute =
    p.retRoute ∧ p.judgeOvertemp.link = p.link ∧ p.judgeOvertemp.vl = p.vl ∧ p.judgeOvertemp.fswClosed =
    p.fswClosed ∧ p.judgeOvertemp.handed = p.handed := by
  simp only [Part.judgeOvertemp]
  (repeat' split) <;> simp

@[simp] theorem Part.recompute_untouched (p : Part) :
    p.recompute.now = p.now ∧ p.recompute.control = p.control ∧ p.recompute.store = p.store ∧
    p.recompute.demand = p.demand ∧ p.recompute.motion = p.motion ∧ p.recompute.slip = p.slip ∧
    p.recompute.app = p.app ∧ p.recompute.thermal = p.thermal ∧ p.recompute.ret = p.ret ∧
    p.recompute.flap = p.flap ∧ p.recompute.chan = p.chan ∧ p.recompute.retRoute = p.retRoute ∧
    p.recompute.link = p.link ∧ p.recompute.vl = p.vl ∧ p.recompute.fswClosed = p.fswClosed ∧
    p.recompute.handed = p.handed := by
  simp only [Part.recompute]
  simp

@[simp] theorem Part.slipOver_untouched (p : Part) (value : Nat) :
    (p.slipOver value).now = p.now ∧ (p.slipOver value).control = p.control ∧ (p.slipOver value).store =
    p.store ∧ (p.slipOver value).demand = p.demand ∧ (p.slipOver value).motion = p.motion ∧ (p.slipOver
    value).cap = p.cap ∧ (p.slipOver value).app = p.app ∧ (p.slipOver value).thermal = p.thermal ∧
    (p.slipOver value).ret = p.ret ∧ (p.slipOver value).flap = p.flap ∧ (p.slipOver value).chan = p.chan
    ∧ (p.slipOver value).retRoute = p.retRoute ∧ (p.slipOver value).link = p.link ∧ (p.slipOver
    value).faults = p.faults ∧ (p.slipOver value).vl = p.vl ∧ (p.slipOver value).fswClosed = p.fswClosed
    ∧ (p.slipOver value).handed = p.handed := by
  simp only [Part.slipOver]
  (repeat' split) <;> simp

@[simp] theorem Part.slipRecover_untouched (p : Part) (value : Nat) :
    (p.slipRecover value).now = p.now ∧ (p.slipRecover value).control = p.control ∧ (p.slipRecover
    value).store = p.store ∧ (p.slipRecover value).demand = p.demand ∧ (p.slipRecover value).motion =
    p.motion ∧ (p.slipRecover value).cap = p.cap ∧ (p.slipRecover value).app = p.app ∧ (p.slipRecover
    value).thermal = p.thermal ∧ (p.slipRecover value).ret = p.ret ∧ (p.slipRecover value).flap = p.flap
    ∧ (p.slipRecover value).chan = p.chan ∧ (p.slipRecover value).retRoute = p.retRoute ∧ (p.slipRecover
    value).link = p.link ∧ (p.slipRecover value).faults = p.faults ∧ (p.slipRecover value).vl = p.vl ∧
    (p.slipRecover value).fswClosed = p.fswClosed ∧ (p.slipRecover value).handed = p.handed := by
  simp only [Part.slipRecover]
  (repeat' split) <;> simp

@[simp] theorem Part.takeSlipRecord_untouched (p : Part) (reference : Nat) (drive : Option Nat) (nonDriven : Bool) :
    (p.takeSlipRecord reference drive nonDriven).now = p.now ∧ (p.takeSlipRecord reference drive
    nonDriven).control = p.control ∧ (p.takeSlipRecord reference drive nonDriven).store = p.store ∧
    (p.takeSlipRecord reference drive nonDriven).demand = p.demand ∧ (p.takeSlipRecord reference drive
    nonDriven).motion = p.motion ∧ (p.takeSlipRecord reference drive nonDriven).cap = p.cap ∧
    (p.takeSlipRecord reference drive nonDriven).app = p.app ∧ (p.takeSlipRecord reference drive
    nonDriven).thermal = p.thermal ∧ (p.takeSlipRecord reference drive nonDriven).ret = p.ret ∧
    (p.takeSlipRecord reference drive nonDriven).flap = p.flap ∧ (p.takeSlipRecord reference drive
    nonDriven).chan = p.chan ∧ (p.takeSlipRecord reference drive nonDriven).retRoute = p.retRoute ∧
    (p.takeSlipRecord reference drive nonDriven).link = p.link ∧ (p.takeSlipRecord reference drive
    nonDriven).faults = p.faults ∧ (p.takeSlipRecord reference drive nonDriven).vl = p.vl ∧
    (p.takeSlipRecord reference drive nonDriven).fswClosed = p.fswClosed ∧ (p.takeSlipRecord reference
    drive nonDriven).handed = p.handed := by
  simp only [Part.takeSlipRecord]
  (repeat' split) <;> simp

@[simp] theorem Part.refresh_untouched (p : Part) :
    p.refresh.now = p.now ∧ p.refresh.control = p.control ∧ p.refresh.store = p.store ∧ p.refresh.demand
    = p.demand ∧ p.refresh.slip = p.slip ∧ p.refresh.cap = p.cap ∧ p.refresh.app = p.app ∧
    p.refresh.thermal = p.thermal ∧ p.refresh.ret = p.ret ∧ p.refresh.flap = p.flap ∧ p.refresh.chan =
    p.chan ∧ p.refresh.retRoute = p.retRoute ∧ p.refresh.link = p.link ∧ p.refresh.vl = p.vl ∧
    p.refresh.fswClosed = p.fswClosed ∧ p.refresh.handed = p.handed := by
  simp only [Part.refresh]
  (repeat' split) <;> simp

@[simp] theorem Part.driveCheck_untouched (p : Part) (reference : Option Nat) (engine : Nat) (gear : Gear) (clutch : Bool) :
    (p.driveCheck reference engine gear clutch).now = p.now ∧ (p.driveCheck reference engine gear
    clutch).control = p.control ∧ (p.driveCheck reference engine gear clutch).store = p.store ∧
    (p.driveCheck reference engine gear clutch).demand = p.demand ∧ (p.driveCheck reference engine gear
    clutch).slip = p.slip ∧ (p.driveCheck reference engine gear clutch).cap = p.cap ∧ (p.driveCheck
    reference engine gear clutch).app = p.app ∧ (p.driveCheck reference engine gear clutch).thermal =
    p.thermal ∧ (p.driveCheck reference engine gear clutch).ret = p.ret ∧ (p.driveCheck reference engine
    gear clutch).flap = p.flap ∧ (p.driveCheck reference engine gear clutch).chan = p.chan ∧
    (p.driveCheck reference engine gear clutch).retRoute = p.retRoute ∧ (p.driveCheck reference engine
    gear clutch).link = p.link ∧ (p.driveCheck reference engine gear clutch).vl = p.vl ∧ (p.driveCheck
    reference engine gear clutch).fswClosed = p.fswClosed := by
  simp only [Part.driveCheck]
  (repeat' split) <;> simp

@[simp] theorem Part.setTable_untouched (p : Part) (id : TableId) (t : Table) :
    (p.setTable id t).now = p.now ∧ (p.setTable id t).control = p.control ∧ (p.setTable id t).demand =
    p.demand ∧ (p.setTable id t).motion = p.motion ∧ (p.setTable id t).slip = p.slip ∧ (p.setTable id
    t).cap = p.cap ∧ (p.setTable id t).app = p.app ∧ (p.setTable id t).thermal = p.thermal ∧ (p.setTable
    id t).ret = p.ret ∧ (p.setTable id t).flap = p.flap ∧ (p.setTable id t).chan = p.chan ∧ (p.setTable
    id t).retRoute = p.retRoute ∧ (p.setTable id t).link = p.link ∧ (p.setTable id t).faults = p.faults
    ∧ (p.setTable id t).flags = p.flags ∧ (p.setTable id t).vl = p.vl ∧ (p.setTable id t).fswClosed =
    p.fswClosed ∧ (p.setTable id t).handed = p.handed := by
  simp only [Part.setTable]
  (repeat' split) <;> simp

@[simp] theorem Part.abandonTable_untouched (p : Part) :
    p.abandonTable.now = p.now ∧ p.abandonTable.control = p.control ∧ p.abandonTable.demand = p.demand ∧
    p.abandonTable.motion = p.motion ∧ p.abandonTable.slip = p.slip ∧ p.abandonTable.cap = p.cap ∧
    p.abandonTable.app = p.app ∧ p.abandonTable.thermal = p.thermal ∧ p.abandonTable.ret = p.ret ∧
    p.abandonTable.flap = p.flap ∧ p.abandonTable.chan = p.chan ∧ p.abandonTable.retRoute = p.retRoute ∧
    p.abandonTable.link = p.link ∧ p.abandonTable.faults = p.faults ∧ p.abandonTable.flags = p.flags ∧
    p.abandonTable.vl = p.vl ∧ p.abandonTable.fswClosed = p.fswClosed ∧ p.abandonTable.handed = p.handed := by
  simp only [Part.abandonTable]
  (repeat' split) <;> simp

@[simp] theorem Part.tableServiceChanged_untouched (p : Part) (id : TableId) :
    (p.tableServiceChanged id).now = p.now ∧ (p.tableServiceChanged id).control = p.control ∧
    (p.tableServiceChanged id).store = p.store ∧ (p.tableServiceChanged id).motion = p.motion ∧
    (p.tableServiceChanged id).slip = p.slip ∧ (p.tableServiceChanged id).cap = p.cap ∧
    (p.tableServiceChanged id).app = p.app ∧ (p.tableServiceChanged id).thermal = p.thermal ∧
    (p.tableServiceChanged id).ret = p.ret ∧ (p.tableServiceChanged id).flap = p.flap ∧
    (p.tableServiceChanged id).chan = p.chan ∧ (p.tableServiceChanged id).retRoute = p.retRoute ∧
    (p.tableServiceChanged id).link = p.link ∧ (p.tableServiceChanged id).faults = p.faults ∧
    (p.tableServiceChanged id).flags = p.flags ∧ (p.tableServiceChanged id).vl = p.vl ∧
    (p.tableServiceChanged id).fswClosed = p.fswClosed := by
  simp only [Part.tableServiceChanged]
  (repeat' split) <;> simp

@[simp] theorem Part.openTable_untouched (p : Part) (id : TableId) (start : Nat) :
    (p.openTable id start).now = p.now ∧ (p.openTable id start).control = p.control ∧ (p.openTable id
    start).motion = p.motion ∧ (p.openTable id start).slip = p.slip ∧ (p.openTable id start).cap = p.cap
    ∧ (p.openTable id start).app = p.app ∧ (p.openTable id start).thermal = p.thermal ∧ (p.openTable id
    start).ret = p.ret ∧ (p.openTable id start).flap = p.flap ∧ (p.openTable id start).chan = p.chan ∧
    (p.openTable id start).retRoute = p.retRoute ∧ (p.openTable id start).link = p.link ∧ (p.openTable
    id start).faults = p.faults ∧ (p.openTable id start).flags = p.flags ∧ (p.openTable id start).vl =
    p.vl ∧ (p.openTable id start).fswClosed = p.fswClosed := by
  simp only [Part.openTable]
  (repeat' split) <;> simp

@[simp] theorem Part.handPresence_untouched (p : Part) (use : NodeUse) (present : Bool) :
    (p.handPresence use present).now = p.now ∧ (p.handPresence use present).control = p.control ∧
    (p.handPresence use present).store = p.store ∧ (p.handPresence use present).demand = p.demand ∧
    (p.handPresence use present).motion = p.motion ∧ (p.handPresence use present).slip = p.slip ∧
    (p.handPresence use present).cap = p.cap ∧ (p.handPresence use present).app = p.app ∧
    (p.handPresence use present).thermal = p.thermal ∧ (p.handPresence use present).ret = p.ret ∧
    (p.handPresence use present).flap = p.flap ∧ (p.handPresence use present).chan = p.chan ∧
    (p.handPresence use present).retRoute = p.retRoute ∧ (p.handPresence use present).link = p.link ∧
    (p.handPresence use present).faults = p.faults ∧ (p.handPresence use present).flags = p.flags ∧
    (p.handPresence use present).vl = p.vl ∧ (p.handPresence use present).fswClosed = p.fswClosed := by
  simp only [Part.handPresence]
  (repeat' split) <;> simp

@[simp] theorem Part.handReported_untouched (p : Part) (use : NodeUse) :
    (p.handReported use).now = p.now ∧ (p.handReported use).control = p.control ∧ (p.handReported
    use).store = p.store ∧ (p.handReported use).demand = p.demand ∧ (p.handReported use).motion =
    p.motion ∧ (p.handReported use).slip = p.slip ∧ (p.handReported use).cap = p.cap ∧ (p.handReported
    use).thermal = p.thermal ∧ (p.handReported use).ret = p.ret ∧ (p.handReported use).flap = p.flap ∧
    (p.handReported use).retRoute = p.retRoute ∧ (p.handReported use).faults = p.faults ∧
    (p.handReported use).flags = p.flags ∧ (p.handReported use).vl = p.vl ∧ (p.handReported
    use).fswClosed = p.fswClosed := by
  simp only [Part.handReported]
  (repeat' split) <;> simp

@[simp] theorem Part.judgeFaultCode_untouched (p : Part) (e : NodeEntry) (code : Nat) :
    (p.judgeFaultCode e code).now = p.now ∧ (p.judgeFaultCode e code).control = p.control ∧
    (p.judgeFaultCode e code).store = p.store ∧ (p.judgeFaultCode e code).demand = p.demand ∧
    (p.judgeFaultCode e code).motion = p.motion ∧ (p.judgeFaultCode e code).slip = p.slip ∧
    (p.judgeFaultCode e code).cap = p.cap ∧ (p.judgeFaultCode e code).thermal = p.thermal ∧
    (p.judgeFaultCode e code).ret = p.ret ∧ (p.judgeFaultCode e code).flap = p.flap ∧ (p.judgeFaultCode
    e code).retRoute = p.retRoute ∧ (p.judgeFaultCode e code).vl = p.vl ∧ (p.judgeFaultCode e
    code).fswClosed = p.fswClosed := by
  simp only [Part.judgeFaultCode]
  (repeat' split) <;> simp

@[simp] theorem Part.handPayload_untouched (p : Part) (e : NodeEntry) (ans : NodeAnswer) :
    (p.handPayload e ans).now = p.now ∧ (p.handPayload e ans).control = p.control ∧ (p.handPayload e
    ans).store = p.store ∧ (p.handPayload e ans).demand = p.demand ∧ (p.handPayload e ans).motion =
    p.motion ∧ (p.handPayload e ans).slip = p.slip ∧ (p.handPayload e ans).app = p.app ∧ (p.handPayload
    e ans).thermal = p.thermal ∧ (p.handPayload e ans).flap = p.flap ∧ (p.handPayload e ans).chan =
    p.chan ∧ (p.handPayload e ans).retRoute = p.retRoute ∧ (p.handPayload e ans).link = p.link ∧
    (p.handPayload e ans).faults = p.faults ∧ (p.handPayload e ans).flags = p.flags ∧ (p.handPayload e
    ans).vl = p.vl ∧ (p.handPayload e ans).fswClosed = p.fswClosed := by
  simp only [Part.handPayload]
  (repeat' split) <;> simp

@[simp] theorem Part.takeGoodAnswer_untouched (p : Part) (e : NodeEntry) (ans : NodeAnswer) :
    (p.takeGoodAnswer e ans).now = p.now ∧ (p.takeGoodAnswer e ans).control = p.control ∧
    (p.takeGoodAnswer e ans).store = p.store ∧ (p.takeGoodAnswer e ans).demand = p.demand ∧
    (p.takeGoodAnswer e ans).motion = p.motion ∧ (p.takeGoodAnswer e ans).slip = p.slip ∧
    (p.takeGoodAnswer e ans).thermal = p.thermal ∧ (p.takeGoodAnswer e ans).flap = p.flap ∧
    (p.takeGoodAnswer e ans).retRoute = p.retRoute ∧ (p.takeGoodAnswer e ans).vl = p.vl ∧
    (p.takeGoodAnswer e ans).fswClosed = p.fswClosed := by
  simp only [Part.takeGoodAnswer]
  (repeat' split) <;> simp

@[simp] theorem Part.requeueMissed_untouched (p : Part) (r : Request) :
    (p.requeueMissed r).now = p.now ∧ (p.requeueMissed r).control = p.control ∧ (p.requeueMissed
    r).store = p.store ∧ (p.requeueMissed r).demand = p.demand ∧ (p.requeueMissed r).motion = p.motion ∧
    (p.requeueMissed r).slip = p.slip ∧ (p.requeueMissed r).cap = p.cap ∧ (p.requeueMissed r).app =
    p.app ∧ (p.requeueMissed r).thermal = p.thermal ∧ (p.requeueMissed r).ret = p.ret ∧ (p.requeueMissed
    r).flap = p.flap ∧ (p.requeueMissed r).chan = p.chan ∧ (p.requeueMissed r).retRoute = p.retRoute ∧
    (p.requeueMissed r).faults = p.faults ∧ (p.requeueMissed r).flags = p.flags ∧ (p.requeueMissed r).vl
    = p.vl ∧ (p.requeueMissed r).fswClosed = p.fswClosed ∧ (p.requeueMissed r).handed = p.handed := by
  simp only [Part.requeueMissed]
  (repeat' split) <;> simp

@[simp] theorem Part.takeMiss_untouched (p : Part) (e : NodeEntry) (r : Request) :
    (p.takeMiss e r).now = p.now ∧ (p.takeMiss e r).control = p.control ∧ (p.takeMiss e r).store =
    p.store ∧ (p.takeMiss e r).demand = p.demand ∧ (p.takeMiss e r).motion = p.motion ∧ (p.takeMiss e
    r).slip = p.slip ∧ (p.takeMiss e r).cap = p.cap ∧ (p.takeMiss e r).app = p.app ∧ (p.takeMiss e
    r).thermal = p.thermal ∧ (p.takeMiss e r).ret = p.ret ∧ (p.takeMiss e r).flap = p.flap ∧ (p.takeMiss
    e r).chan = p.chan ∧ (p.takeMiss e r).retRoute = p.retRoute ∧ (p.takeMiss e r).vl = p.vl ∧
    (p.takeMiss e r).fswClosed = p.fswClosed := by
  simp only [Part.takeMiss]
  (repeat' split) <;> simp

@[simp] theorem Part.flagAlarm_untouched (p : Part) (old : Alarm) :
    (p.flagAlarm old).now = p.now ∧ (p.flagAlarm old).control = p.control ∧ (p.flagAlarm old).store =
    p.store ∧ (p.flagAlarm old).demand = p.demand ∧ (p.flagAlarm old).motion = p.motion ∧ (p.flagAlarm
    old).slip = p.slip ∧ (p.flagAlarm old).cap = p.cap ∧ (p.flagAlarm old).app = p.app ∧ (p.flagAlarm
    old).thermal = p.thermal ∧ (p.flagAlarm old).ret = p.ret ∧ (p.flagAlarm old).flap = p.flap ∧
    (p.flagAlarm old).chan = p.chan ∧ (p.flagAlarm old).retRoute = p.retRoute ∧ (p.flagAlarm old).link =
    p.link ∧ (p.flagAlarm old).faults = p.faults ∧ (p.flagAlarm old).vl = p.vl ∧ (p.flagAlarm
    old).fswClosed = p.fswClosed ∧ (p.flagAlarm old).handed = p.handed := by
  simp only [Part.flagAlarm]
  (repeat' split) <;> simp

@[simp] theorem Part.handOnPass_untouched (p : Part) :
    p.handOnPass.now = p.now ∧ p.handOnPass.control = p.control ∧ p.handOnPass.store = p.store ∧
    p.handOnPass.demand = p.demand ∧ p.handOnPass.motion = p.motion ∧ p.handOnPass.slip = p.slip ∧
    p.handOnPass.cap = p.cap ∧ p.handOnPass.app = p.app ∧ p.handOnPass.thermal = p.thermal ∧
    p.handOnPass.ret = p.ret ∧ p.handOnPass.flap = p.flap ∧ p.handOnPass.chan = p.chan ∧
    p.handOnPass.retRoute = p.retRoute ∧ p.handOnPass.link = p.link ∧ p.handOnPass.faults = p.faults ∧
    p.handOnPass.flags = p.flags ∧ p.handOnPass.vl = p.vl ∧ p.handOnPass.fswClosed = p.fswClosed := by
  simp only [Part.handOnPass, Part.axles, Axle.all, List.filter]
  (repeat' split) <;> simp

@[simp] theorem Part.runPass_untouched (p : Part) :
    p.runPass.now = p.now ∧ p.runPass.control = p.control ∧ p.runPass.store = p.store ∧ p.runPass.demand
    = p.demand ∧ p.runPass.motion = p.motion ∧ p.runPass.slip = p.slip ∧ p.runPass.cap = p.cap ∧
    p.runPass.thermal = p.thermal ∧ p.runPass.ret = p.ret ∧ p.runPass.flap = p.flap ∧ p.runPass.chan =
    p.chan ∧ p.runPass.retRoute = p.retRoute ∧ p.runPass.link = p.link ∧ p.runPass.faults = p.faults ∧
    p.runPass.vl = p.vl ∧ p.runPass.fswClosed = p.fswClosed := by
  simp only [Part.runPass]
  simp

end Sys2Proof.Machine
end

