-- ==== Sys2Proof/Tests/Slice0.lean ====
section
/-! SUPPORT. Tests of the model on small states: ill-formed commands that the well-formedness check refuses, worked examples of
the manual, and for each statement with hypotheses a state and operands that meet them, each clause at its bounds. -/

namespace Sys2Proof.Tests

open Sys2Proof.Machine Sys2Proof.Machine.Safety

/-! ## Well-formedness: each check refuses a term -/

def axleDesc : AxleDesc := ⟨600, 800, 7000, 30000⟩
def record : ChassisRecord :=
  ⟨3, 1, 1, 1, 500, 41, 10, 24000, 800, 2600, 5, 3,
    [axleDesc, ⟨700, 800, 11500, 36000⟩, ⟨400, 800, 5500, 24000⟩]⟩
def motionRecord : MotionRecord := ⟨⟨2000, 1990, 2000, 65535⟩, 1566, 6, true, 612, 3, 20⟩
def field (kind : RouteKind) (addr : Nat) : RouteField := ⟨some kind, addr⟩

theorem test_wf_accepts :
    (Instr.chassis 1 record).wf = true ∧ (Instr.motion motionRecord).wf = true ∧
      (Instr.settings 1 (List.replicate 12 (39, 65535))).wf = true := by decide
theorem test_wf_refuses_chassis :
    (Instr.chassis 1 { record with axles := [axleDesc] }).wf = false ∧
      (Instr.chassis 1 { record with radius := 65536 }).wf = false ∧
      (Instr.chassis 1 { record with k0 := 256 }).wf = false ∧
      (Instr.chassis 1 { record with axles := [axleDesc, { axleDesc with heatCap := 4294967296 }] }).wf = false := by
  decide
theorem test_wf_refuses_settings :
    (Instr.settings 1 []).wf = false ∧ (Instr.settings 1 (List.replicate 13 (1, 1))).wf = false ∧
      (Instr.settings 1 [(256, 1)]).wf = false ∧ (Instr.settings 1 [(1, 65536)]).wf = false := by decide
theorem test_wf_refuses_tables :
    (Instr.tableOpen 1 256 0).wf = false ∧ (Instr.tableData 1 []).wf = false ∧
      (Instr.tableData 1 [65536]).wf = false ∧ (Instr.tableRead 1 1 0 256).wf = false := by decide
theorem test_wf_refuses_routes_and_masks :
    (Instr.route 1 ⟨field .remote 256, field .unrouted 0, field .unrouted 0, field .unrouted 0⟩ 0).wf = false ∧
      (Instr.route 1 (.replicate (field .unrouted 0)) 256).wf = false ∧
      (Instr.mask 1 (.replicate 256)).wf = false := by decide
theorem test_wf_refuses_temperatures :
    (Instr.seedTemps 1 [20]).wf = false ∧ (Instr.seedTemps 1 [20, 32768]).wf = false ∧
      (Instr.seedTemps 1 [20, -32769]).wf = false := by decide
theorem test_wf_refuses_motion :
    (Instr.motion { motionRecord with engine := 65536 }).wf = false ∧
      (Instr.motion { motionRecord with ambient := 128 }).wf = false ∧
      (Instr.motion { motionRecord with gear := 256 }).wf = false := by decide
theorem test_wf_refuses_demands :
    (Instr.holdSet 1 65536).wf = false ∧ (Instr.assist 1 256 0 0).wf = false ∧
      (Instr.assistCancel 1 256).wf = false ∧ (Instr.assistExpiry 16).wf = false ∧
      (Instr.mass 1 65536).wf = false := by decide
theorem test_wf_refuses_events :
    (Instr.vehicleLinkFrame []).wf = false ∧ (Instr.pollTimerExpiry 0).wf = false ∧
      (Instr.pollTimerExpiry 8).wf = false ∧ (Instr.actuatorAnswer []).wf = false := by decide

/-! ## States -/

def table (size : Nat) (l : List (Nat × Nat)) : Table :=
  ⟨.valid, (l.map fun e => some ⟨e.1, e.2⟩) ++ List.replicate (size - l.length) none⟩
def retarderCurve : Table := table 12
  [(200, 400), (400, 900), (600, 1400), (800, 1800), (1000, 2100), (1500, 2600), (2500, 3200), (3000, 3300),
    (3500, 3300), (4000, 3200), (5000, 3000), (6000, 2800)]
def exhaustCurve : Table := table 8
  [(600, 300), (800, 450), (1000, 600), (1200, 760), (1400, 900), (1800, 1100), (2200, 1180), (2600, 1200)]
def pedalMap : Table := table 9
  [(0, 0), (400, 0), (900, 0), (1500, 0), (2200, 0), (3000, 0), (3900, 0), (4900, 0), (6000, 0)]
def leverMap : Table := table 6 [(0, 0), (500, 0), (1000, 0), (1800, 0), (2600, 0), (3500, 0)]
def gearTable : Table := table 12 [(67, 10), (48, 10), (34, 10), (24, 10), (17, 10), (1, 1)]

/-- A local channel in BACKUP, available. -/
def localChannel : Channel :=
  { Channel.created with
    route := .localStage, state := some .backup, available := true, sampling := some ⟨9995, 5⟩ }
/-- A remote channel in BACKUP at node 3. -/
def remoteChannel : Channel :=
  { Channel.created with route := .remote 3, state := some .backup, available := true, lastSent := some .release }
def node3 : NodeEntry := ⟨3, .axleModule 2, .present, 0, false, 0, ⟨9990, 10⟩, false⟩
def node5 : NodeEntry := ⟨5, .retarderUnit, .present, 0, false, 0, ⟨9999, 10⟩, false⟩

/-- A three-axle coach, described whole and standing by. -/
def coach : Part :=
  let store : TableStore :=
    { State.reset.part.store with
      chassis := some record, retarderCurve := retarderCurve, exhaustCurve := exhaustCurve
      pedalMap := pedalMap, leverMap := leverMap, gearTable := gearTable, gearCount := 6 }
  let road : RoadData := ⟨2000, ⟨some 2000, some 1990, some 2000, none⟩, 20, 9900⟩
  let motion : MotionInput :=
    { State.reset.part.motion with
      freshness := .fresh, timer := some ⟨9900, 300⟩, road := some road
      engine := ⟨1566, .forward 6, true, 612, 3⟩, driveline := .confirmed, matchCount := 3
      previous := some (.forward 6, true) }
  { State.reset.part with
    now := 10000
    control := ⟨.standby, none, none⟩
    store := store
    motion := motion
    demand := { State.reset.part.demand with mass := 24000 }
    chan := ⟨localChannel, localChannel, remoteChannel, .created⟩
    retRoute := some 5
    link := { State.reset.part.link with nodes := [node3, node5] }
    thermal := { State.reset.part.thermal with timer := some ⟨9900, 100⟩ } }

def inMode (m : Mode) : Part := { coach with control := { coach.control with mode := m } }
/-- ACTIVE, with a pass and a rotation due now. -/
def driving : Part :=
  { inMode .active with app := { coach.app with passTimer := some ⟨9950, 50⟩, rotationTimer := some ⟨0, 8000⟩ } }
def handed (l : List Handoff) (p : Part) : Part := { p with handed := l }
def of (p : Part) : State := ⟨p, []⟩
def partOf (o : Host.Outcome State Fault Refusal) : Part :=
  match o with
  | .next s => s.part
  | .fault _ | .refused _ => State.reset.part
def slipping (drive : Nat) (m : SlipMonitor) : Part :=
  { handed [.slipRecord 2000 (some drive) true] driving with slip := m }
def toRecompute (p : Part) : Part := handed [.recompute] p

/-! ## Worked examples of the manual -/

/-- Chapter 1, loading a chassis record: the two typing errors, and the record. -/
theorem test_chassis_example :
    partOf (exec (.chassis 1 { record with na := 4, k1 := 250 }) State.reset) =
        State.reset.part.answer kindChassis 1 (.refused (.badValue 6)) ∧
      partOf (exec (.chassis 1 { record with k1 := 250 }) State.reset) =
        State.reset.part.answer kindChassis 1 (.refused (.badValue 11)) ∧
      (partOf (exec (.chassis 1 record) State.reset)).store.chassis = some record ∧
      (partOf (exec (.chassis 1 record) State.reset)).cap.items.fade = ⟨1000, 1000, 1000, 0⟩ := by decide

/-- Chapter 1, a settings request with dependent clamping. -/
theorem test_settings_example :
    let p := partOf (exec (.settings 1 [(28, 430), (29, 460), (7, 450)]) (of coach))
    [28, 29, 30, 7, 8].map p.setting = [400, 460, 480, 500, 400] ∧
      p.vl = (coach.answer kindSettings 1 (.applied true)).vl := by decide

/-- Chapter 2, pedal and lever forces. -/
theorem test_pedal_example :
    [0, 100, 612, 999, 1000].map
        (fun n => (partOf (exec .speedHoldUpdate (of (handed [.demandRecord n 5 none] coach)))).demand.pedalForce) =
      [0, 320, 2916, 5991, 6000] ∧
    (partOf (exec .speedHoldUpdate (of (handed [.demandRecord 0 5 none] coach)))).demand.leverForce = 3500 := by decide

/-- Chapter 2, a speed-hold sequence: the record with reference 1897. -/
theorem test_hold_example :
    let p := { coach with demand := { coach.demand with hold := ⟨true, 1900, 235, 0⟩ } }
    (partOf (exec .speedHoldUpdate (of (handed [.demandRecord 0 0 (some 1897)] p)))).demand.hold =
      ⟨true, 1900, 234, 204⟩ := by decide

/-- Chapter 4, the exhaust and the retarder capacity of the reference coach. -/
theorem test_capacity_example :
    let motion := { coach.motion with engine := ⟨1570, .forward 6, true, 612, 3⟩ }
    let cap := { coach.cap with items := { coach.cap.items with oilTemp := some 118 } }
    let c := (partOf (exec .capacityRecomputation (of (toRecompute { coach with motion := motion, cap := cap })))).cap.items
    (c.exhaust, c.retarder, c.advisedGear) = (807, 2320, 0) := by decide

/-- Chapter 5, the nominal pass. -/
theorem test_pass_example :
    let tier := fun (x : AxleThermal) t => { x with tier := t }
    let items := { driving.cap.items with
      exhaust := 807, retarder := 2320, service := ⟨4800, 5600, 2880, 0⟩, fade := ⟨1000, 1000, 900, 0⟩ }
    let thermal := driving.thermal.axles
    let p := { driving with
      demand := { driving.demand with total := 4500, lead := .hold }
      cap := { driving.cap with items := items }
      flap := { driving.flap with state := .closed, switchClosed := true, solenoid := true }
      ret := { driving.ret with state := .active }
      thermal := { driving.thermal with axles := ⟨thermal.a0, tier thermal.a1 .warm, tier thermal.a2 .hot, thermal.a3⟩ }
      app := { driving.app with command := 2250, pointer := 2 } }
    let x := (partOf (exec .pass (of p))).app
    (x.target, x.exhaustCounted, x.retarderWant, x.command, x.serviceTotal, x.surplus) = (4500, 807, 2320, 2320, 1373, 0) ∧
      x.shares = ⟨507, 667, 199, 0⟩ ∧ x.demands = ⟨85, 96, 56, 0⟩ ∧ x.pointer = 0 ∧ x.rounds = 1 := by decide

/-- Chapter 6, one update of the reference coach. -/
theorem test_thermal_example :
    let commanded := fun a => { coach.chan.get a with state := some ChannelState.commanded }
    let p := { coach with
      chan := ⟨commanded 0, commanded 1, commanded 2, .created⟩
      app := { coach.app with shares := ⟨507, 667, 199, 0⟩ }
      thermal := { coach.thermal with
        axles := ⟨⟨180000, .normal, false, 0⟩, ⟨300000, .warm, false, 0⟩, ⟨360000, .hot, false, 0⟩, coach.thermal.axles.a3⟩ } }
    let x := (partOf (exec .thermalUpdate (of p))).thermal.axles
    (x.a0.temp, x.a1.temp, x.a2.temp) = (180234, 300189, 359945) ∧ (x.a0.tier, x.a1.tier, x.a2.tier) = (.normal, .warm, .hot) := by
  decide

/-- Chapter 3, a cut, a repeat cut and recovery: the records a to e. -/
theorem test_slip_example :
    let after := fun (drive counted : Nat) (m : SlipMonitor) =>
      let p := slipping drive m
      let cap := { p.cap with items := { p.cap.items with exhaust := 807, retarder := 2320 } }
      (partOf (exec .slipEvaluation (of { p with
        cap := cap, app := { p.app with exhaustCounted := 807, retarderCounted := counted } }))).slip
    after 1820 2320 ⟨0, 20000, 0⟩ = ⟨90, 1563, 0⟩ ∧ after 1830 756 ⟨90, 1563, 0⟩ = ⟨85, 1563, 1⟩ ∧
      after 1835 756 ⟨85, 1563, 1⟩ = ⟨82, 1563, 2⟩ ∧ after 1834 756 ⟨82, 1563, 2⟩ = ⟨83, 781, 0⟩ ∧
      after 1900 756 ⟨83, 781, 0⟩ = ⟨50, 831, 0⟩ := by decide

/-! ## Witnesses: the hypotheses of each statement, met at a state -/

theorem witness_EventsOccurWhenDue :
    (handed [.recompute] coach).handed = .recompute :: [] ∧
      ((coach.handed = [] ∧ coach.dueExpiries = .pollTimerExpiry 3 :: coach.dueExpiries.tail) ∧
        State.reset.part.handed = [] ∧ State.reset.part.dueExpiries = []) ∧
      (timerDue coach.motion.timer 10199 = false ∧ timerDue coach.control.recovery coach.now = false ∧
        timerDue coach.ret.fillTimer coach.now = false ∧ timerDue coach.app.passTimer coach.now = false ∧
        timerDue (some ⟨9901, 100⟩) coach.now = false ∧ (⟨9901, 100⟩ : Timer).due coach.now = false ∧
        coach.waiting .demandRecord = none ∧ coach.waiting .retarderLink = none ∧
        coach.waiting (.channelLink 2) = none) := by decide

theorem witness_RequestFramesRoundTrip :
    (Instr.mass 7 24000).wf = true ∧ encodeFrame (.mass 7 24000) = some (kindMass, 7, [0x5D, 0xC0]) ∧
      (Instr.motion motionRecord).wf = true ∧ (encodeFrame (.motion motionRecord)).isSome = true := by decide

theorem witness_FrameDoesWhatItsRequestDoes :
    (Instr.mass 7 24000).wf = true ∧ encodeFrame (.mass 7 24000) = some (kindMass, 7, [0x5D, 0xC0]) ∧
      (of coach).part.vl.rx = none := by decide

set_option maxRecDepth 4000 in
theorem witness_FaultyFramesAreCountedOrRefused :
    ({ coach.vl with rx := some [] }).rx ≠ none ∧ coach.vl.rx = none ∧ 240 < (241 : Byte).toNat ∧
      ([0x5D, 0xC0] : List Byte).length ≤ 240 ∧
      (0 : Byte) ++ (0 : Byte) ≠ crc16 (byteOf 2 :: kindMass :: 7 :: [0x5D, 0xC0]) ∧
      (0x7F : Byte) ∉ requestKinds ∧ kindMass ∈ requestKinds ∧ lengthAllowed kindMass 3 = false ∧
      ((0 : Byte).toNat < 1 ∨ 8 < (0 : Byte).toNat) ∧ ((9 : Byte).toNat < 1 ∨ 8 < (9 : Byte).toNat) := by decide

def undescribed : Part := { State.reset.part with now := 10 }
theorem witness_ChassisAcceptedOrRefused :
    ([] : List AxleDesc).length < 2 ∧ 4 < (List.replicate 5 axleDesc).length ∧
      (2 ≤ record.axles.length ∧ record.axles.length ≤ 4) ∧ coach.control.mode ≠ .config ∧
      ((inMode .config).control.mode = .config ∧ (inMode .config).store.chassis ≠ none) ∧
      (undescribed.control.mode = .config ∧ undescribed.store.chassis = none) ∧
      (1 < 2 ∧ 4 < 5) ∧ record.axles.length ≠ 2 ∧ record.axles.length = record.axleCount ∧
      ((4, false) ∈ chassisChecks { record with radius := 0 } ∧
        ∀ x ∈ chassisChecks { record with radius := 0 }, x.1 < 4 → x.2 = true) ∧
      ∀ x ∈ chassisChecks record, x.2 = true := by decide

theorem witness_SettingsAppliedInOrder :
    ([] : List (Nat × Nat)).length < 1 ∧ 12 < (List.replicate 13 (1, 1)).length ∧
      (1 ≤ [(1, 20)].length ∧ (List.replicate 12 (1, 1)).length ≤ 12) ∧
      ((inMode .active).control.mode ≠ .config ∧ (inMode .active).control.mode ≠ .standby) ∧
      coach.control.mode = .standby ∧ (inMode .config).control.mode = .config ∧
      ([(39, 5), (40, 1), (0, 1)] = [(39, 5)] ++ (40, 1) :: [(0, 1)] ∧ 39 < 40 ∧ 0 < 1) ∧
      (∀ y ∈ [(1, 20), (39, 5)], 1 ≤ y.1 ∧ y.1 ≤ 39) ∧ coach.store.settings.length = 39 := by decide

theorem witness_TableLoadWritesAtCursor :
    ((inMode .fallback).control.mode ≠ .config ∧ (inMode .fallback).control.mode ≠ .standby) ∧
      (coach.control.mode = .standby ∧ 0 < 1 ∧ 5 < 6) ∧
      (tableOfId 1 = some .retarderCurve ∧ TableId.retarderCurve.slots ≤ 12 ∧ 11 < TableId.retarderCurve.slots) ∧
      (tableOfId 3 = some .pedalMap ∧ (coach.table .pedalMap).state = .valid ∧ 0 < TableId.pedalMap.slots) ∧
      (([] : List Nat).length < 1 ∧ 8 < (List.replicate 9 1).length ∧ (List.replicate 8 1).length ≤ 8) ∧
      coach.store.cursor = none ∧
      (TableId.pedalMap.isMap = true ∧ 4 < [1, 2, 3, 4, 5].length ∧ TableId.gearTable.isMap = false ∧
        [67, 10, 48].length % 2 = 1) ∧
      ([67, 10, 48, 10] = [(⟨67, 10⟩ : Entry), ⟨48, 10⟩].flatMap (fun e => [e.first, e.second]) ∧
        [5, 9] = [(⟨5, 0⟩ : Entry), ⟨9, 0⟩].map (·.first)) ∧
      TableId.gearTable.slots < 11 + 2 ∧ 10 + 2 ≤ TableId.gearTable.slots := by decide

def loading (id : TableId) (k : Nat) : Part := { coach with store := { coach.store with cursor := some ⟨id, k⟩ } }
/-- R19: an unwritten slot is marked and reports zero fields. -/
theorem test_table_read_unwritten :
    (partOf (exec (.tableRead 1 5 5 2) (of coach))).vl.tx = (coach.answer kindTableRead 1 ⟨.done, .table
      { state := .valid, cursor := none, gearCount := some 6
        slots := [⟨true, ⟨1, 1⟩⟩, ⟨false, ⟨0, 0⟩⟩] }⟩).vl.tx := by decide

theorem witness_TableCloseValidates :
    coach.store.cursor = none ∧ (loading .exhaustCurve 8).store.cursor = some ⟨.exhaustCurve, 8⟩ ∧
      firstOffending .exhaustCurve exhaustCurve 8 = none ∧ firstOffending .gearTable gearTable 7 = some 6 ∧
      firstOffending .gearTable gearTable 6 = none ∧ firstOffending .gearTable gearTable 0 = some 0 := by decide

theorem witness_DemandFollowsTheRecordAndForces :
    ((inMode .standingDown).control.mode = .standingDown ∧ coach.control.mode ≠ .standingDown) ∧
      ((handed [.recompute, .demandRecord 999 3 (some 2000)] coach).handed =
          [.recompute] ++ .demandRecord 999 3 (some 2000) :: [] ∧
        ∀ h ∈ [Handoff.recompute], h.lane ≠ .demandRecord) ∧
      ((coach.table .pedalMap).state = .valid ∧ 999 < 1000) := by decide

theorem witness_SpeedHoldSetAndCancelled :
    coach.control.mode ≠ .active ∧ driving.control.mode = .active ∧ driving.demand.hold.on = false := by decide

def assist3 : AssistEntry := ⟨3, 1000, 2400, 500, 10000⟩
def assisted : Part := { driving with demand := { driving.demand with assists := [assist3] } }
theorem witness_AssistEntriesComeAndGo :
    coach.control.mode ≠ .active ∧ (assisted.control.mode = .active ∧ 15 < 16 ∧ 15 ≤ 15) ∧
      (assisted.demand.assists = [] ++ assist3 :: [] ∧ assist3.requester = 3) ∧
      ((∀ y ∈ assisted.demand.assists, y.requester ≠ 4) ∧ assisted.demand.assists.length < 4) ∧
      ((∀ y ∈ List.replicate 4 assist3, y.requester ≠ 4) ∧ 4 ≤ (List.replicate 4 assist3).length) ∧
      assist3.hold ≤ (assisted.now - (assist3.expiry - BitVec.ofNat 32 assist3.hold)).toNat ∧
      ((9999 : Time) - (assist3.expiry - BitVec.ofNat 32 assist3.hold)).toNat < assist3.hold := by decide

theorem witness_MassRecomputesAssists :
    undescribed.store.chassis = none ∧ coach.store.chassis = some record ∧ 5000 ≤ record.grossMass := by decide

theorem witness_MotionRecordIsLimited :
    undescribed.store.chassis = none ∧ coach.store.chassis = some record ∧
      (∃ a : Axle, a.val < 3 ∧ (⟨6001, 0, 0, 0⟩ : Axles Nat).get a ≠ 65535 ∧ 6000 < (⟨6001, 0, 0, 0⟩ : Axles Nat).get a) := by
  decide

theorem witness_MotionRecordIsHandedOn :
    coach.store.chassis = some record ∧
      (∃ a : Axle, a.val < record.axleCount ∧ motionRecord.wheels.get a ≠ 65535) ∧
      ((inMode .standingDown).control.mode = .standingDown ∧ coach.setting idAbandonPedal ≤ min 612 1000) ∧
      (inMode .fallback).control.mode = .fallback := by decide

theorem witness_DrivelineFollowsTheRecords :
    coach.store.chassis = some record ∧ coach.motion.previous = some (.forward 6, true) ∧
      (partOf (exec (.motion motionRecord) (of coach))).motion.driveline = .confirmed ∧
      (partOf (exec (.motion { motionRecord with gear := 0 }) (of coach))).motion.driveline = .decoupled ∧
      (partOf (exec (.motion { motionRecord with gear := 5 }) (of coach))).motion.driveline = .uncertain := by decide

theorem witness_StaleMotionLeavesActive :
    ({ coach.motion with timer := some ⟨9700, 300⟩ }).timer = some ⟨9700, 300⟩ ∧ 300 ≤ (coach.now - 9700).toNat ∧
      driving.control.mode = .active ∧ (inMode .standingDown).control.mode = .standingDown ∧
      (inMode .fallback).control.mode = .fallback := by decide

theorem witness_SlipLimitCutsAndRecovers :
    (slipping 1700 ⟨0, 20000, 0⟩).handed = [] ++ .slipRecord 2000 (some 1700) true :: [] ∧
      ((slipping 1700 ⟨0, 20000, 0⟩).control.mode = .active ∧ 300 ≤ 2000) ∧
      (slipping 1700 ⟨0, 20000, 0⟩).setting idSlipThreshold < 150 ∧
      (∀ h ∈ ([] : List Handoff), h.lane ≠ .slipRecord) ∧
      (partOf (exec .slipEvaluation (of (slipping 1700 ⟨0, 20000, 0⟩)))).slip = ⟨150, 0, 0⟩ ∧
      (partOf (exec .slipEvaluation (of (slipping 1700 ⟨0, 5000, 1⟩)))).slip = ⟨150, 5000, 2⟩ ∧
      (partOf (exec .slipEvaluation (of (slipping 2000 ⟨0, 20000, 2⟩)))).slip = ⟨0, 20000, 0⟩ ∧
      (partOf (exec .slipEvaluation (of (slipping 2000 ⟨0, 19000, 2⟩)))).slip.limit = 20000 := by decide

theorem witness_Capacities :
    ((toRecompute coach).handed = [] ++ .recompute :: [] ∧ ∀ h ∈ ([] : List Handoff), h.lane ≠ .capacity) ∧
      coach.store.chassis.map (·.retarderFitted) = some 1 ∧
      (∀ k < 7, (exhaustCurve.entry k).first < (exhaustCurve.entry (k + 1)).first) ∧
      (∀ k < 11, (retarderCurve.entry k).first < (retarderCurve.entry (k + 1)).first) ∧
      (coach.motion.engine.gear = .forward 6 ∧ 2 ≤ 6 ∧ 6 ≤ coach.store.gearCount) ∧
      (coach.flap.state ≠ .faulted ∧ coach.motion.driveline = .confirmed ∧
        (coach.table .exhaustCurve).state = .valid ∧ (coach.table .gearTable).state = .valid) := by decide

/-- Standing down since `start`, with a pass due now and the retarder in `st`. -/
def ending (start : Time) (st : RetarderState) : Part :=
  { driving with
    control := { driving.control with mode := .standingDown, standDownStart := some start }
    ret := { driving.ret with state := st } }
theorem witness_Pass :
    (driving.app.passTimer = some ⟨9950, 50⟩ ∧ 50 ≤ (driving.now - 9950).toNat) ∧
      ¬ StandDownComplete driving ∧ ¬ StandDownComplete (ending 9999 .drained) ∧
      (¬ StandDownComplete (ending 0 .active) ∧
        (partOf (exec .pass (of (ending 0 .active)))).control.mode = .standingDown) := by decide

/-- `driving` with the service capacities of its three axles and a demand of 900 daN. -/
def braking : Part :=
  { driving with
    cap := { driving.cap with items := { driving.cap.items with service := ⟨4800, 5600, 3200, 0⟩ } }
    demand := { driving.demand with pedalForce := 2600, total := 2600 } }
theorem witness_FirstRoundSharesByWeight :
    (partOf (exec .pass (of braking))).app.method = .proportional ∧
      0 < (partOf (exec .pass (of braking))).app.serviceTotal ∧
      (∃ a : Axle, (partOf (exec .pass (of braking))).app.eligible.get a = true) ∧
      (partOf (exec .pass (of braking))).app.rounds = 1 := by decide

/-- `braking` with a first axle that can give 100 daN alone: its excess is shared again among the two others. -/
def weakAxle : Part :=
  { braking with cap := { braking.cap with items := { braking.cap.items with service := ⟨100, 5600, 3200, 0⟩ } } }
theorem witness_ExcessIsSharedAgain :
    ¬ StandDownComplete weakAxle ∧ (partOf (exec .pass (of weakAxle))).app.rounds = 2 ∧
      (partOf (exec .pass (of weakAxle))).app.shares.a0 = 100 ∧
      (partOf (exec .pass (of weakAxle))).app.shortfall = 0 := by decide

theorem witness_RotationPassesOverHotAxles :
    (driving.app.rotationTimer = some ⟨0, 8000⟩ ∧ 8000 ≤ (driving.now - 0).toNat) ∧
      (partOf (exec .rotationTimerExpiry (of driving))).app.pointer = 1 := by decide

theorem witness_MaskWithdrawsShares :
    undescribed.store.chassis = none ∧ coach.store.chassis ≠ none ∧
      (1 < (⟨0, 2, 0, 0⟩ : Axles Nat).get 1 ∧ ∀ b : Axle, b < 1 → (⟨0, 2, 0, 0⟩ : Axles Nat).get b ≤ 1) ∧
      (coach.axleCount ≤ 3 ∧ (⟨0, 1, 0, 1⟩ : Axles Nat).get 3 = 1) ∧
      (∀ b : Axle, (⟨0, 1, 0, 0⟩ : Axles Nat).get b ≤ 1) ∧
      ∀ b : Axle, coach.axleCount ≤ b.val → (⟨0, 1, 0, 0⟩ : Axles Nat).get b = 0 := by decide

theorem witness_ThermalUpdateHeatsAndCools :
    (coach.thermal.timer = some ⟨9900, 100⟩ ∧ 100 ≤ (coach.now - 9900).toNat) ∧
      (coach.motion.freshness = .fresh ∧ coach.store.chassis = some record ∧ coach.motion.road.isSome = true) ∧
      undescribed.motion.freshness ≠ .fresh ∧
      (coach.setting idWarm < coach.setting idHot ∧ coach.setting idHot < coach.setting idFade) ∧
      ∀ a : Axle, -40000 ≤ (coach.thermal.axles.get a).temp ∧ -40 ≤ coach.ambient := by decide

theorem witness_SeedTempsSetsEveryAxle :
    ([20] : List Int).length < 2 ∧ 4 < (List.replicate 5 (20 : Int)).length ∧
      (inMode .active).control.mode ≠ .config ∧ coach.control.mode = .standby ∧
      ([20, 20] : List Int).length ≠ coach.axleCount ∧ ([-41, 250, 1001] : List Int).length = coach.axleCount ∧
      undescribed.control.mode = .config ∧ undescribed.store.chassis = none := by decide

def retarderIn (st : RetarderState) (mark : Option Time) (l : List Time) (p : Part) : Part :=
  { p with ret := { p.ret with state := st, releaseMark := mark, engagements := l } }
theorem witness_RetarderFollowsTheWant :
    (handed [.retarderWant 500 0] driving).handed = [] ++ .retarderWant 500 0 :: [] ∧
      (∀ h ∈ [Handoff.recompute], h.lane ≠ .retarderWant) ∧
      driving.setting idEngageThreshold ≤ 500 ∧
      (driving.retarderFitted = true ∧ driving.retarderPresent = true ∧ driving.retarderReported = false) ∧
      (∀ st ∈ [RetarderState.drained, .filling, .active, .draining, .faulted],
        (partOf (exec .retarderWant (of (handed [.retarderWant 500 0] (retarderIn st none [] driving))))).ret.state =
          if st = .drained then .filling else st) ∧
      (partOf (exec .retarderWant (of (handed [.retarderWant 0 0] (retarderIn .filling none [] driving))))).ret.state =
        .draining ∧
      (driving.now - (9999 : Time)).toNat < driving.setting idReleaseDelay ∧
      driving.setting idReleaseDelay ≤ (driving.now - (0 : Time)).toNat ∧
      4 ≤ ([9000, 9100, 9200, 9300].filter fun t : Time =>
        decide ((driving.now - t).toNat < driving.setting idEngagementWindow * 1000)).length := by decide

theorem witness_RetarderFollowsItsNode :
    (handed [.recompute, .retarderNodeState .filled] driving).handed =
        [.recompute] ++ .retarderNodeState .filled :: [] ∧
      (∀ h ∈ [Handoff.recompute], h.lane ≠ .retarderLink) ∧
      (handed [.retarderNodeLost] driving).handed = [] ++ .retarderNodeLost :: [] ∧
      2000 ≤ (driving.now - (8000 : Time)).toNat ∧
      ({ driving.ret with fillTimer := some ⟨8000, 2000⟩ }).fillTimer = some ⟨8000, 2000⟩ ∧
      ({ driving.ret with drainTimer := some ⟨8000, 2000⟩ }).drainTimer = some ⟨8000, 2000⟩ := by decide

theorem witness_FlapFollowsTheWant :
    (handed [.exhaustWant .close] driving).handed = [] ++ .exhaustWant .close :: [] ∧
      (driving.flap.state = .opened ∧ driving.setting idFlapDwell ≤ (driving.now - driving.flap.enteredOpen).toNat) ∧
      (driving.now - (9900 : Time)).toNat < driving.setting idFlapDwell ∧
      ({ driving.flap with state := .closed }).state = .closed ∧
      (driving.fswClosed = false ∧ ({ driving with fswClosed := true }).fswClosed = true) ∧
      ∀ h ∈ [Handoff.recompute], h.lane ≠ .exhaustWant := by decide

/-- R135: the pin closes in CLOSING, and an OPEN want is taken before the change is: the flap is OPENING and counted
once the change is taken. -/
theorem test_open_want_before_switch :
    let closing := { driving with flap := { driving.flap with state := .closing, solenoid := true } }
    let wanted := handed [.exhaustWant .open_] (partOf (exec (.flapSwitchChange ⟨true, false⟩) (of closing)))
    let p := partOf (exec (.flapSwitchChange ⟨true, true⟩) (of (partOf (exec .exhaustWant (of wanted)))))
    (p.flap.state, p.flap.switchClosed, p.countedExhaust) = (.opening, true, p.cap.items.exhaust) := by decide

/-- R134: each change is acted on. The pin closes in CLOSING, an OPEN want is taken before that change is, and the pin
then opens: the flap is OPEN. A flicker of a CLOSED flap trips it. -/
theorem test_each_switch_change_is_acted_on :
    let closing := { driving with flap := { driving.flap with state := .closing, solenoid := true } }
    let wanted := handed [.exhaustWant .open_] (partOf (exec (.flapSwitchChange ⟨true, false⟩) (of closing)))
    let p := partOf (exec (.flapSwitchChange ⟨false, true⟩) (of (partOf (exec .exhaustWant (of wanted)))))
    let closed := { driving with
      fswClosed := true, flap := { driving.flap with state := .closed, solenoid := true, switchClosed := true } }
    let q := partOf (exec (.flapSwitchChange ⟨true, true⟩)
      (of (partOf (exec (.flapSwitchChange ⟨false, false⟩) (of closed)))))
    (p.flap.state, p.flap.switchClosed, p.flap.timer) = (.opened, false, none) ∧
      (q.flap.state, q.flap.switchClosed) = (.faulted, true) := by decide

/-- R135: a switch change taken before the want closes the flap, and the OPEN want then opens it. -/
theorem test_switch_before_open_want :
    let closing := { driving with flap := { driving.flap with state := .closing, solenoid := true } }
    let seen := partOf (exec (.flapSwitchChange ⟨true, true⟩) (of closing))
    seen.flap.state = .closed ∧
      (partOf (exec .exhaustWant (of (handed [.exhaustWant .open_] seen)))).flap.state = .opening := by decide

theorem witness_FlapFollowsItsSwitch :
    driving.store.chassis.map (·.exhaustFitted) = some 1 ∧ driving.flap.switchClosed ≠ true ∧
      undescribed.store.chassis.map (·.exhaustFitted) ≠ some 1 ∧ driving.flap.switchClosed = false ∧
      ({ driving.flap with state := .closing, timer := some ⟨9000, 1000⟩ }).timer = some ⟨9000, 1000⟩ ∧
      1000 ≤ (driving.now - (9000 : Time)).toNat := by decide

theorem witness_ChannelTakesTheDemand :
    (handed [.pressureDemand 2 800] driving).handed = [] ++ .pressureDemand 2 800 :: [] ∧
      (∀ h ∈ [Handoff.pressureDemand 1 5], h.lane ≠ .pressure 2) ∧ driving.control.mode = .active ∧
      ((driving.chan.get 0).state = some .backup ∧ (driving.chan.get 0).available = true) ∧
      (∀ addr, (driving.chan.get 0).route ≠ .remote addr) ∧ (driving.chan.get 2).route = .remote 3 ∧
      ¬ (coach.control.mode = .active ∨ coach.control.mode = .standingDown) :=
  ⟨rfl, by decide, rfl, ⟨rfl, rfl⟩, fun _ => nofun, rfl, by decide⟩

theorem witness_LocalSamplesAndTrackingAreJudged :
    ((driving.chan.get 0).route = .localStage ∧ (driving.chan.get 0).sampling = some ⟨9995, 5⟩ ∧
      5 ≤ (driving.now - (9995 : Time)).toNat ∧ (driving.chan.get 0).switched = false) ∧
      ({ driving.chan.get 0 with switched := true }).switched = true ∧
      ((-1 : Int) < 0 ∧ (1200 : Int) < 1201) ∧
      ({ driving.chan.get 2 with state := some .commanded, tracking := some ⟨9800, 200⟩ }).tracking =
        some ⟨9800, 200⟩ ∧ 200 ≤ (driving.now - (9800 : Time)).toNat := by decide

theorem witness_RemoteChannelFollowsItsNode :
    (handed [.remoteMeasurement 2 800] driving).handed = [] ++ .remoteMeasurement 2 800 :: [] ∧
      (driving.chan.get 2).route = .remote 3 ∧ (driving.chan.get 2).state = some .backup ∧
      (handed [.channelPresence 2 false] driving).handed = [] ++ .channelPresence 2 false :: [] ∧
      (handed [.channelPresence 2 true] driving).handed = [] ++ .channelPresence 2 true :: [] ∧
      ({ driving.chan.get 2 with state := some .unreachable, available := false }).available = false ∧
      ({ driving.chan.get 2 with state := some .faulted, available := false }).state = some .faulted ∧
      ∀ h ∈ [Handoff.channelPresence 1 true], h.lane ≠ .channelLink 2 := by decide

def routes (third : RouteField) : Axles RouteField := ⟨field .localStage 0, field .localStage 0, third, field .unrouted 0⟩
theorem witness_RouteResetsWhatChanged :
    ((inMode .active).control.mode ≠ .config ∧ undescribed.store.chassis = none) ∧
      (coach.control.mode = .standby ∧ coach.store.chassis ≠ none ∧ coach.faults.held = none) ∧
      (∀ f ∈ [field .remote 0, field .remote 8], partOf (exec (.route 1 (routes f) 5) (of coach)) =
        coach.answer kindRoute 1 (.refused (.badValue 2))) ∧
      (∀ x ∈ [(field .remote 7, 8), (field .remote 5, 5)],
        partOf (exec (.route 1 (routes x.1) x.2) (of coach)) =
          coach.answer kindRoute 1 (.refused (.badValue 4))) ∧
      (partOf (exec (.route 1 (routes (field .remote 1)) 5) (of coach))).link.nodes.map (·.addr) = [1, 5] := by decide

def holding (waiting : List Nat) (p : Part) : Part :=
  { p with faults := { p.faults with held := some ⟨5, 0x14, waiting, ⟨9990, 20⟩⟩ } }
theorem witness_RouteEndsAHeldClear :
    NodesMatchRoutes coach ∧ QueueAddressed coach ∧
      (partOf (exec (.route 1 (routes (field .remote 1)) 5) (of (holding [3] coach)))).faults.held = none ∧
      (partOf (exec (.route 1 (routes (field .remote 1)) 5) (of (holding [3, 5] coach)))).faults.held =
        some ⟨5, 0x14, [5], ⟨9990, 20⟩⟩ := by decide

def queued : Request := ⟨3, 9990, .axleDemand (.pressure 85)⟩
def waitingLink : Part := { coach with link := { coach.link with queue := [queued, ⟨5, 9999, .poll⟩] } }
theorem witness_RequestsAreMerged :
    (∀ e ∈ waitingLink.link.nodes, e.addr ≠ 4) ∧ (∃ e ∈ waitingLink.link.nodes, e.addr = 3) ∧
      (waitingLink.link.queue = [] ++ queued :: [⟨5, 9999, .poll⟩] ∧ queued.payload ≠ .poll ∧
        ∀ y ∈ [(⟨5, 9999, .poll⟩ : Request)], y.addr = 3 → y.payload = .poll) ∧
      (∀ y ∈ waitingLink.link.queue, y.addr = 5 → y.payload = .poll) ∧
      (∀ y ∈ coach.link.queue, y.addr ≠ 3) ∧ (∃ y ∈ waitingLink.link.queue, y.addr = 5) := by decide

theorem witness_LinkNeverPassesOverStarved :
    coach.link.queue = [] ∧
      (waitingLink.link.phase = .idle ∧ waitingLink.handed = [] ∧ waitingLink.link.queue ≠ []) ∧
      (waitingLink.link.nodes.map (·.addr)).Pairwise (· < ·) ∧
      (∀ r ∈ waitingLink.link.queue, r.addr ≤ 7 ∧ ∃ e ∈ waitingLink.link.nodes, e.addr = r.addr) ∧
      (∃ x ∈ waitingLink.link.queue, waitingLink.setting idStarvation ≤ (waitingLink.now - x.enqueued).toNat) ∧
      waitingLink.setting idArbiterMode ≠ 1 ∧
      settingOf (coach.store.settings.set 35 1) idArbiterMode = 1 := by decide

def inFlight (window : Option Timer) (orphan : Bool) (r : Request) : Part :=
  { coach with link := { coach.link with phase := .inFlight ⟨r, 9998, window, orphan⟩ } }
theorem witness_LinkWindowsAndPolls :
    (inFlight none false queued).link.phase = .inFlight ⟨queued, 9998, none, false⟩ ∧ coach.link.phase = .idle ∧
      ({ coach.link with phase := .abandoned (some ⟨9999, 1⟩) }).phase = .abandoned (some ⟨9999, 1⟩) ∧
      ((some (⟨9999, 1⟩ : Timer)).any fun x => decide (x.interval ≤ (coach.now - x.start).toNat)) = true ∧
      (coach.link.nodes = [] ++ node3 :: [node5] ∧ ∀ x ∈ [node5], x.addr ≠ node3.addr) ∧
      node3.poll.interval ≤ (coach.now - node3.poll.start).toNat ∧
      (coach.now - node5.poll.start).toNat < node5.poll.interval ∧
      ((none : Option Timer).any fun x => decide ((coach.now - x.start).toNat ≤ x.interval)) = false := by decide

theorem witness_AnswersAndMisses :
    ((inFlight (some ⟨9999, 1⟩) false queued).link.phase = .inFlight ⟨queued, 9998, some ⟨9999, 1⟩, false⟩ ∧
        (coach.now - (9999 : Time)).toNat ≤ 1 ∧ 1 ≤ (coach.now - (9999 : Time)).toNat) ∧
      (coach.link.nodes = [] ++ node3 :: [node5] ∧ coach.link.nodes = [node3] ++ node5 :: []) ∧
      (queued.addr = node3.addr ∧ node3.use = .axleModule 2 ∧ node5.use = .retarderUnit) ∧
      (coach.faults.held = none ∧ (coach.chan.get 2).route = .remote node3.addr) ∧
      (inFlight (some ⟨9999, 1⟩) true queued).link.phase = .inFlight ⟨queued, 9998, some ⟨9999, 1⟩, true⟩ := by decide

theorem witness_ModeRequestsAreJudged :
    driving.control.mode = .active ∧ (inMode .fallback).control.mode = .fallback ∧
      (coach.control.mode = .standby ∧ (partOf (exec (.start 1) (of coach))).control.mode = .active) ∧
      partOf (exec (.start 1) (of undescribed)) =
        undescribed.answer kindStart 1 (.refused (.notReady 2 0)) ∧
      ({ (inMode .fallback).control with recovery := some ⟨8000, 2000⟩ }).recovery = some ⟨8000, 2000⟩ ∧
      2000 ≤ (coach.now - (8000 : Time)).toNat := by decide

theorem witness_PassesStopReleasesTheBrakes :
    ({ driving.motion with timer := some ⟨9700, 300⟩ }).timer = some ⟨9700, 300⟩ ∧
      driving.setting idStandDownTime ≤ (driving.now - (0 : Time)).toNat ∧
      (StandDownComplete (ending 0 .drained) ∧ (ending 0 .drained).app.passTimer = some ⟨9950, 50⟩) ∧
      (inMode .standingDown).control.mode = .standingDown := by
  decide

theorem witness_WarmResetKeepsTheDescription :
    coach.faults.held = none ∧ (coach.chan.get 0).route = .localStage ∧ (coach.chan.get 2).route = .remote 3 ∧
      (coach.chan.get 3).route = .unrouted ∧ (coach.chan.get 3).state = none ∧ coach.link.phase = .idle ∧
      (coach.store.chassis.any fun c => decide (c.exhaustFitted ≠ 1)) = false := by decide

theorem witness_ColdResetDiscardsEverything :
    (inFlight (some ⟨9999, 1⟩) false queued).link.phase = .inFlight ⟨queued, 9998, some ⟨9999, 1⟩, false⟩ ∧
      coach.link.phase = .idle ∧
      (partOf (exec .coldReset (of (inFlight (some ⟨9999, 1⟩) false queued)))).link.phase =
        .abandoned (some ⟨0, 0⟩) := by decide

def lost3 (present : Bool) : FaultEntry := ⟨.node 3, .nodeLost, present, 100, 100, 1⟩
theorem witness_FaultTableRecordsOccurrences :
    ([lost3 true] = [] ++ lost3 true :: [] ∧ (lost3 true).source = .node 3 ∧ (lost3 true).code = .nodeLost) ∧
      (lost3 false).present = false ∧
      (∀ x ∈ List.replicate 15 (lost3 true), ¬ (x.source = .flap ∧ x.code = .stuckOpen)) ∧
      (List.replicate 15 (lost3 true)).length < 16 ∧ 16 ≤ (List.replicate 16 (lost3 true)).length ∧
      ∀ x ∈ List.replicate 16 (lost3 true), x.present = true := by decide

def heldClear : HeldClear := ⟨5, 0x10, [5], ⟨9980, 20⟩⟩
theorem witness_ClearsAreHeldOrApplied :
    ({ coach.faults with held := some heldClear }).held = some heldClear ∧
      20 ≤ (coach.now - (9980 : Time)).toNat ∧ coach.faults.held = none ∧
      ((0 : BitVec 16) = 0 ∧ (0x8000 : BitVec 16).getLsbD 15 = true) ∧
      ((0x20 : BitVec 16) ≠ 0 ∧ (0x20 : BitVec 16).getLsbD 15 = false ∧ coach.backingNodes 0x20 = []) ∧
      coach.backingNodes 0x14 = [3, 5] ∧
      ((∃ e ∈ coach.link.nodes, e.addr = 5) ∧ 5 ∈ heldClear.waiting) ∧
      (coach.now - (9981 : Time)).toNat < 20 := by decide

/-- The DEMAND to node 3 in flight at the last instant of its window, while a held clear waits for `l`. -/
def clearing (l : List Nat) : Part := holding l (inFlight (some ⟨9999, 1⟩) false queued)
theorem witness_LastTransactionAppliesTheClear :
    (3 ∈ [3, 5] ∧ (partOf (exec .answerTimeout (of (clearing [3, 5])))).faults.held =
        some ⟨5, 0x14, [5], ⟨9990, 20⟩⟩) ∧
      (partOf (exec .answerTimeout (of (clearing [3])))).faults.held = none := by decide

/-- R149: a clear takes a FAULTED channel whose node is LOST to UNREACHABLE, with nothing measured. -/
theorem test_clear_to_unreachable :
    let p := { coach with
      chan := coach.chan.set 2 { remoteChannel with state := some .faulted, measured := some 700, available := false }
      link := { coach.link with nodes := [{ node3 with presence := .lost }, node5] } }
    let n := (partOf (exec .holdoffExpiry (of { p with
      faults := { p.faults with held := some ⟨5, 0x04, [3], ⟨9980, 20⟩⟩ } }))).chan.get 2
    (n.state, n.measured, n.available) = (some .unreachable, none, false) := by decide

theorem witness_StatusReportClearsTheFlags :
    ({ coach.vl with report := ⟨9900, 100⟩ }).report.interval ≤ (coach.now - (9900 : Time)).toNat ∧
      coach.vl.tx = [] ∧ ({ coach.vl with tx := [.status coach.statusContents] }).tx =
        .status coach.statusContents :: [] := by decide

theorem witness_QueriesAnswerAndChangeNothing :
    coach.store.chassis = some record ∧ undescribed.store.chassis = none ∧ (0 < 1 ∧ 5 < 6) ∧
      (tableOfId 5 = some .gearTable ∧ TableId.gearTable.slots ≤ 12 ∧ 11 < TableId.gearTable.slots ∧
        TableId.gearTable.slots < 5 + 8 ∧ 4 + 8 ≤ TableId.gearTable.slots) := by decide

/-- The laws that the steps keep hold of a described coach standing by, and the next step is answered. -/
theorem witness_SharesAlwaysBalance :
    SharesBalance coach ∧ step (of coach) = .next (of (partOf (step (of coach)))) := ⟨by decide, rfl⟩
theorem witness_PressuresStayWithinPmax : PressureWithinPmax coach ∧ ChannelsHeld coach := by decide
theorem witness_EnduranceBrakesStayReleased :
    EnduranceReleased coach ∧ FlapDriven coach ∧ RetarderTimed coach ∧ coach.passesRun = false := by decide
theorem witness_TimersAndAlarmFollowTheMode : TimersFollowMode coach ∧ AlarmFollowsTiers coach := by decide
theorem witness_TablesAndCountersStayBounded :
    AssistsBounded coach ∧ FaultsBounded coach ∧ EngagementsBounded coach ∧ QueueDistinct waitingLink ∧
      WithinRanges coach ∧ TemperaturesHeld coach := by decide
theorem witness_DescriptionStaysSound :
    SettingsInRange coach ∧ ChassisChecked coach ∧ TablesHeld coach ∧ NodesMatchRoutes coach ∧
      QueueAddressed waitingLink ∧ coach.store.chassis = some record := by decide
theorem witness_ModeChangesAlongItsArrows :
    exec (.start 1) (of coach) = .next (of (partOf (exec (.start 1) (of coach)))) ∧
      (∀ l, Instr.start 1 ≠ .vehicleLinkFrame l ∧ Instr.start 1 ≠ .frameAbandoned l) ∧
      coach.control.mode ≠ (partOf (exec (.start 1) (of coach))).control.mode :=
  ⟨rfl, fun _ => ⟨nofun, nofun⟩, by decide⟩

end Sys2Proof.Tests
end

section
/-! PROOF. When the events of the part occur (R2, log entries 1 and 2): every command's meaning is an operation on the
part; with no command waiting a step takes what comes next of itself; the event of a timer that is not due, or of a
hand-off that is not there, leaves the part as it is. -/

namespace Sys2Proof.Machine

/-! ## Every command answers a next state -/

/-- No arm of `exec` stops the part: each runs its block's operation by `State.onPart`, which keeps the queue. -/
theorem exec_answers_next (c : Instr) (s : State) : ∃ p, exec c s = .next { s with part := p } := by
  cases c <;> exact ⟨_, rfl⟩

/-- A command whose operation leaves the part as it is leaves the state as it is. -/
theorem State.next_of_part_kept {s : State} {p : Part} (h : p = s.part) :
    (.next { s with part := p } : Result) = .next s := by
  rw [h]

/-! ## What comes next of itself (log entry 1) -/

theorem Part.nextEvent_of_handed {p : Part} {h : Handoff} {l : List Handoff} (hl : p.handed = h :: l) :
    p.nextEvent = some h.command := by
  simp only [Part.nextEvent, hl]

theorem Part.nextEvent_of_none_handed {p : Part} (hl : p.handed = []) : p.nextEvent = p.dueExpiries.head? := by
  simp only [Part.nextEvent, hl]

theorem step_of_nextEvent {p : Part} {c : Instr} (h : p.nextEvent = some c) : step ⟨p, []⟩ = exec c ⟨p, []⟩ := by
  simp only [step, h]

theorem step_of_no_nextEvent {p : Part} (h : p.nextEvent = none) : step ⟨p, []⟩ = .next ⟨p.tick, []⟩ := by
  simp only [step, h]

/-! ## An expiry whose timer is stopped or not due (log entry 2) -/

section NotDue

variable {p : Part}

theorem Part.motionTimerExpiry_of_not_due (h : timerDue p.motion.timer p.now = false) : p.motionTimerExpiry = p := by
  simp [Part.motionTimerExpiry, h]

theorem Part.recoveryExpiry_of_not_due (h : timerDue p.control.recovery p.now = false) : p.recoveryExpiry = p := by
  simp [Part.recoveryExpiry, h]

theorem Part.fillTimerExpiry_of_not_due (h : timerDue p.ret.fillTimer p.now = false) : p.fillTimerExpiry = p := by
  simp [Part.fillTimerExpiry, h]

theorem Part.drainTimerExpiry_of_not_due (h : timerDue p.ret.drainTimer p.now = false) : p.drainTimerExpiry = p := by
  simp [Part.drainTimerExpiry, h]

theorem Part.flapTimerExpiry_of_not_due (h : timerDue p.flap.timer p.now = false) : p.flapTimerExpiry = p := by
  simp [Part.flapTimerExpiry, h]

theorem Part.trackingTimerExpiry_of_not_due {a : Axle} (h : timerDue (p.chan.get a).tracking p.now = false) :
    p.trackingTimerExpiry a = p := by
  simp [Part.trackingTimerExpiry, h]

/-- The thermal timer is read by its constructor: it is stopped, or it runs and its interval has not elapsed. -/
theorem Part.thermalUpdate_of_not_due (h : timerDue p.thermal.timer p.now = false) : p.thermalUpdate = p := by
  cases ht : p.thermal.timer with
  | none => simp [Part.thermalUpdate, ht]
  | some t =>
    have notDue : t.due p.now = false := by simpa [timerDue, ht] using h
    simp [Part.thermalUpdate, ht, notDue]

theorem Part.pass_of_not_due (h : timerDue p.app.passTimer p.now = false) : p.pass = p := by
  simp [Part.pass, h]

theorem Part.rotationTimerExpiry_of_not_due (h : timerDue p.app.rotationTimer p.now = false) :
    p.rotationTimerExpiry = p := by
  simp [Part.rotationTimerExpiry, h]

theorem Part.statusReport_of_not_due (h : p.vl.report.due p.now = false) : p.statusReport = p := by
  simp [Part.statusReport, h]

end NotDue

/-! ## A lane in which nothing waits (log entry 2) -/

section NoneWaits

variable {p : Part}

theorem Part.speedHoldUpdate_of_none_waits (h : p.waiting .demandRecord = none) : p.speedHoldUpdate = p := by
  simp only [Part.speedHoldUpdate, h]

theorem Part.slipEvaluation_of_none_waits (h : p.waiting .slipRecord = none) : p.slipEvaluation = p := by
  simp only [Part.slipEvaluation, h]

theorem Part.capacityRecomputation_of_none_waits (h : p.waiting .capacity = none) : p.capacityRecomputation = p := by
  simp only [Part.capacityRecomputation, h]

theorem Part.retarderWantTaken_of_none_waits (h : p.waiting .retarderWant = none) : p.retarderWantTaken = p := by
  simp only [Part.retarderWantTaken, h]

theorem Part.exhaustWantTaken_of_none_waits (h : p.waiting .exhaustWant = none) : p.exhaustWantTaken = p := by
  simp only [Part.exhaustWantTaken, h]

theorem Part.pressureDemand_of_none_waits {a : Axle} (h : p.waiting (.pressure a) = none) :
    p.pressureDemand a = p := by
  simp only [Part.pressureDemand, h]

theorem Part.retarderNodeStateTaken_of_none_waits (h : p.waiting .retarderLink = none) :
    p.retarderNodeStateTaken = p := by
  simp only [Part.retarderNodeStateTaken, h]

theorem Part.retarderNodeLostTaken_of_none_waits (h : p.waiting .retarderLink = none) :
    p.retarderNodeLostTaken = p := by
  simp only [Part.retarderNodeLostTaken, h]

theorem Part.remoteMeasurement_of_none_waits {a : Axle} (h : p.waiting (.channelLink a) = none) :
    p.remoteMeasurement a = p := by
  simp only [Part.remoteMeasurement, h]

theorem Part.channelPresenceChange_of_none_waits {a : Axle} (h : p.waiting (.channelLink a) = none) :
    p.channelPresenceChange a = p := by
  simp only [Part.channelPresenceChange, h]

end NoneWaits

/-! ## The statement -/

/-- Settles O2, from the answer of every arm, from what `nextEvent` takes while the queue is empty, and from the lemma
about each operation whose event is not there. -/
theorem eventsOccurWhenDue : Obligations.EventsOccurWhenDue := by
  refine ⟨exec_answers_next,
    fun p h l handed => step_of_nextEvent (Part.nextEvent_of_handed handed),
    fun p c l noneHanded due => step_of_nextEvent ?firstDue,
    fun p noneHanded noneDue => step_of_no_nextEvent ?nothing,
    fun s a => ⟨?motion, ?recovery, ?fill, ?drain, ?flap, ?tracking, ?thermal, ?pass, ?rotation, ?report,
      ?demandRecord, ?slipRecord, ?capacity, ?retarderWant, ?exhaustWant, ?pressure, ?retarderLink, ?channelLink⟩⟩
  case firstDue => rw [Part.nextEvent_of_none_handed noneHanded, due, List.head?_cons]
  case nothing => rw [Part.nextEvent_of_none_handed noneHanded, noneDue, List.head?_nil]
  case motion => exact fun h => State.next_of_part_kept (Part.motionTimerExpiry_of_not_due h)
  case recovery => exact fun h => State.next_of_part_kept (Part.recoveryExpiry_of_not_due h)
  case fill => exact fun h => State.next_of_part_kept (Part.fillTimerExpiry_of_not_due h)
  case drain => exact fun h => State.next_of_part_kept (Part.drainTimerExpiry_of_not_due h)
  case flap => exact fun h => State.next_of_part_kept (Part.flapTimerExpiry_of_not_due h)
  case tracking => exact fun h => State.next_of_part_kept (Part.trackingTimerExpiry_of_not_due h)
  case thermal => exact fun h => State.next_of_part_kept (Part.thermalUpdate_of_not_due h)
  case pass => exact fun h => State.next_of_part_kept (Part.pass_of_not_due h)
  case rotation => exact fun h => State.next_of_part_kept (Part.rotationTimerExpiry_of_not_due h)
  case report => exact fun h => State.next_of_part_kept (Part.statusReport_of_not_due h)
  case demandRecord => exact fun h => State.next_of_part_kept (Part.speedHoldUpdate_of_none_waits h)
  case slipRecord => exact fun h => State.next_of_part_kept (Part.slipEvaluation_of_none_waits h)
  case capacity => exact fun h => State.next_of_part_kept (Part.capacityRecomputation_of_none_waits h)
  case retarderWant => exact fun h => State.next_of_part_kept (Part.retarderWantTaken_of_none_waits h)
  case exhaustWant => exact fun h => State.next_of_part_kept (Part.exhaustWantTaken_of_none_waits h)
  case pressure => exact fun h => State.next_of_part_kept (Part.pressureDemand_of_none_waits h)
  case retarderLink =>
    exact fun h => ⟨State.next_of_part_kept (Part.retarderNodeStateTaken_of_none_waits h),
      State.next_of_part_kept (Part.retarderNodeLostTaken_of_none_waits h)⟩
  case channelLink =>
    exact fun h => ⟨State.next_of_part_kept (Part.remoteMeasurement_of_none_waits h),
      State.next_of_part_kept (Part.channelPresenceChange_of_none_waits h)⟩

end Sys2Proof.Machine
end

section
/-! PROOF. The Table Store's four table requests (R13 to R20): what TABLE_OPEN, TABLE_DATA and TABLE_CLOSE leave of the
part, and which slot a close finds at fault. Each request's refusals are stated once, in their order, and its effect as
an equation with a named part. -/

namespace Sys2Proof.Machine

/-! ## Requests and their answers -/

/-- A request whose operation gives a part and a reply forms that reply's answer on that part. -/
theorem Part.request_of_eq {p q : Part} {kind tag : Byte} {op : Part → Part × Reply} {r : Reply}
    (h : op p = (q, r)) : p.request kind tag op = q.answer kind tag r := by
  simp only [Part.request, h]

/-- Two outcomes that keep the queue are equal when their parts are. -/
theorem State.next_congr {s : State} {p q : Part} (h : p = q) :
    (.next { s with part := p } : Result) = .next { s with part := q } := by
  rw [h]

/-- Two parts are equal when they agree block by block. -/
theorem Part.eq_of_fields {p q : Part} (now : p.now = q.now := by simp) (control : p.control = q.control := by simp)
    (store : p.store = q.store := by simp) (demand : p.demand = q.demand := by simp)
    (motion : p.motion = q.motion := by simp) (slip : p.slip = q.slip := by simp) (cap : p.cap = q.cap := by simp)
    (app : p.app = q.app := by simp) (thermal : p.thermal = q.thermal := by simp) (ret : p.ret = q.ret := by simp)
    (flap : p.flap = q.flap := by simp) (chan : p.chan = q.chan := by simp)
    (retRoute : p.retRoute = q.retRoute := by simp) (link : p.link = q.link := by simp)
    (faults : p.faults = q.faults := by simp) (flags : p.flags = q.flags := by simp) (vl : p.vl = q.vl := by simp)
    (fswClosed : p.fswClosed = q.fswClosed := by simp) (handed : p.handed = q.handed := by simp) : p = q := by
  cases p
  cases q
  simp only [Part.mk.injEq]
  exact ⟨now, control, store, demand, motion, slip, cap, app, thermal, ret, flap, chan, retRoute, link, faults, flags,
    vl, fswClosed, handed⟩

/-! ## Recomputed totals and forces (R23, R24, R40) -/

theorem Part.totalDemand_congr {p q : Part} (control : q.control = p.control) (demand : q.demand = p.demand) :
    q.totalDemand = p.totalDemand ∧ q.leadingSource = p.leadingSource := by
  cases p
  cases q
  subst control demand
  exact ⟨rfl, rfl⟩

/-- A part that holds a recomputed total holds the total and the leading source that its own items give. -/
theorem Part.demand_of_retotal {p q : Part} (control : q.control = p.control) (demand : q.demand = p.retotal.demand) :
    q.demand = { p.demand with total := q.totalDemand, lead := q.leadingSource } := by
  obtain ⟨total, lead⟩ := Part.totalDemand_congr (p := p.retotal) control demand
  rw [total, lead, demand]
  rfl

theorem Part.pedalForceOf_congr {p q : Part} (store : q.store = p.store) (reading : Nat) :
    q.pedalForceOf reading = p.pedalForceOf reading := by
  cases p
  cases q
  subst store
  rfl

theorem Part.leverForceOf_congr {p q : Part} (store : q.store = p.store) (stage : Nat) :
    q.leverForceOf stage = p.leverForceOf stage := by
  cases p
  cases q
  subst store
  rfl

/-- A part that holds remapped forces holds those that its own maps give, and the total that follows. -/
theorem Part.demand_of_remap {p q : Part} (store : q.store = p.store) (control : q.control = p.control)
    (demand : q.demand = p.remapForces.demand) :
    q.demand = { p.demand with
      pedalForce := q.pedalForceOf p.demand.pedalReading
      leverForce := q.leverForceOf p.demand.leverReading
      total := q.totalDemand
      lead := q.leadingSource } := by
  rw [Part.pedalForceOf_congr store, Part.leverForceOf_congr store]
  exact Part.demand_of_retotal (p := { p with demand := { p.demand with
    pedalForce := p.pedalForceOf p.demand.pedalReading
    leverForce := p.leverForceOf p.demand.leverReading } }) control demand

theorem Part.pedalForceOf_of_not_valid {p : Part} (h : (p.table .pedalMap).state ≠ .valid) (reading : Nat) :
    p.pedalForceOf reading = 0 := by
  simp [Part.pedalForceOf, Part.tableValid, h]

theorem Part.leverForceOf_of_not_valid {p : Part} (h : (p.table .leverMap).state ≠ .valid) (stage : Nat) :
    p.leverForceOf stage = 0 := by
  simp [Part.leverForceOf, Part.tableValid, h]

/-! ## Tables replaced, opened, written and closed -/

theorem Part.table_congr {p q : Part} (store : q.store = p.store) (id : TableId) : q.table id = p.table id := by
  simp only [Part.table, store]

theorem Part.table_setTable (p : Part) (id j : TableId) (t : Table) :
    (p.setTable id t).table j = if j = id then t else p.table j := by
  cases id <;> cases j <;> rfl

@[simp] theorem Part.table_setTable_same (p : Part) (id : TableId) (t : Table) : (p.setTable id t).table id = t := by
  rw [Part.table_setTable, if_pos rfl]

theorem Part.table_setTable_other {id j : TableId} (h : j ≠ id) (p : Part) (t : Table) :
    (p.setTable id t).table j = p.table j := by
  rw [Part.table_setTable, if_neg h]

/-- What replacing a table leaves of the Table Store. -/
@[simp] theorem Part.setTable_store_untouched (p : Part) (id : TableId) (t : Table) :
    (p.setTable id t).store.chassis = p.store.chassis ∧ (p.setTable id t).store.settings = p.store.settings ∧
      (p.setTable id t).store.gearCount = p.store.gearCount ∧ (p.setTable id t).store.cursor = p.store.cursor := by
  cases id <;> exact ⟨rfl, rfl, rfl, rfl⟩

@[simp] theorem Part.table_setCursor (p : Part) (c : Option Cursor) (id : TableId) :
    (p.setCursor c).table id = p.table id := by
  cases id <;> rfl

@[simp] theorem Part.table_setGearCount (p : Part) (n : Nat) (id : TableId) :
    (p.setGearCount n).table id = p.table id := by
  cases id <;> rfl

@[simp] theorem Part.table_tableServiceChanged (p : Part) (changed id : TableId) :
    (p.tableServiceChanged changed).table id = p.table id :=
  Part.table_congr (by simp) id

@[simp] theorem Part.table_answer (p : Part) (kind tag : Byte) (r : Reply) (id : TableId) :
    (p.answer kind tag r).table id = p.table id :=
  Part.table_congr rfl id

/-- Abandoning the open table makes it INVALID, and no other. -/
theorem Part.table_abandonTable (p : Part) (id : TableId) :
    p.abandonTable.table id =
      if p.store.cursor.map (·.table) = some id then { p.table id with state := .invalid } else p.table id := by
  cases hc : p.store.cursor with
  | none => simp [Part.abandonTable, hc]
  | some c =>
    by_cases h : c.table = id
    · subst h
      simp [Part.abandonTable, hc]
    · simp [Part.abandonTable, hc, h, Part.table_setTable_other (Ne.symm h)]

@[simp] theorem Part.abandonTable_cursor (p : Part) : p.abandonTable.store.cursor = none := by
  cases hc : p.store.cursor <;> simp [Part.abandonTable, hc]

@[simp] theorem Part.abandonTable_store_untouched (p : Part) :
    p.abandonTable.store.chassis = p.store.chassis ∧ p.abandonTable.store.settings = p.store.settings ∧
      p.abandonTable.store.gearCount = p.store.gearCount := by
  cases hc : p.store.cursor <;> simp [Part.abandonTable, hc]

/-- The part in which a table is opened: a table open beside it is abandoned (R13). -/
def Part.othersAbandoned (p : Part) (id : TableId) : Part :=
  if p.store.cursor.any (fun c => decide (c.table ≠ id)) then p.abandonTable else p

/-- The part with a table opened, before its consumer acts. -/
def Part.opened (p : Part) (id : TableId) (start : Nat) : Part :=
  let q := ((p.othersAbandoned id).setTable id
    ⟨.loading, (p.table id).slots.take start ++ List.replicate (id.slots - start) none⟩).setCursor (some ⟨id, start⟩)
  if id = .gearTable then q.setGearCount 0 else q

theorem Part.table_othersAbandoned_other {id j : TableId} (h : j ≠ id) (p : Part) :
    (p.othersAbandoned id).table j =
      if p.store.cursor.map (·.table) = some j then { p.table j with state := .invalid } else p.table j := by
  cases hc : p.store.cursor with
  | none => simp [Part.othersAbandoned, hc]
  | some c =>
    by_cases ht : c.table = id
    · have : c.table ≠ j := fun e => h (e.symm.trans ht)
      simp [Part.othersAbandoned, hc, ht, Ne.symm h]
    · simp [Part.othersAbandoned, hc, ht, Part.table_abandonTable]

theorem Part.openTable_eq (p : Part) (id : TableId) (start : Nat) :
    p.openTable id start =
      if (p.table id).state = .valid then (p.opened id start).tableServiceChanged id else p.opened id start := by
  cases hc : p.store.cursor with
  | none => simp [Part.openTable, Part.opened, Part.othersAbandoned, Part.tableValid, hc]
  | some c =>
    by_cases h : c.table = id
    · simp [Part.openTable, Part.opened, Part.othersAbandoned, Part.tableValid, hc, h]
    · simp [Part.openTable, Part.opened, Part.othersAbandoned, Part.tableValid, hc, h, Part.table_abandonTable]

/-- What opening a table leaves of the part, before its consumer acts. -/
@[simp] theorem Part.opened_untouched (p : Part) (id : TableId) (start : Nat) :
    (p.opened id start).now = p.now ∧ (p.opened id start).control = p.control ∧
      (p.opened id start).demand = p.demand ∧ (p.opened id start).motion = p.motion ∧
      (p.opened id start).handed = p.handed ∧ (p.opened id start).store.chassis = p.store.chassis ∧
      (p.opened id start).store.settings = p.store.settings := by
  simp only [Part.opened, Part.othersAbandoned]
  (repeat' split) <;> simp

@[simp] theorem Part.opened_cursor (p : Part) (id : TableId) (start : Nat) :
    (p.opened id start).store.cursor = some ⟨id, start⟩ := by
  simp only [Part.opened]
  split <;> simp

theorem Part.opened_gearCount (p : Part) (id : TableId) (start : Nat) :
    (p.opened id start).store.gearCount = if id = .gearTable then 0 else p.store.gearCount := by
  simp only [Part.opened, Part.othersAbandoned]
  (repeat' split) <;> simp

theorem Part.opened_table_same (p : Part) (id : TableId) (start : Nat) :
    (p.opened id start).table id =
      ⟨.loading, (p.table id).slots.take start ++ List.replicate (id.slots - start) none⟩ := by
  simp only [Part.opened]
  split <;> simp

theorem Part.opened_table_other {id j : TableId} (h : j ≠ id) (p : Part) (start : Nat) :
    (p.opened id start).table j =
      if p.store.cursor.map (·.table) = some j then { p.table j with state := .invalid } else p.table j := by
  rw [← Part.table_othersAbandoned_other h]
  simp only [Part.opened]
  split <;> simp [Part.table_setTable_other h]

theorem Part.openTable_store (p : Part) (id : TableId) (start : Nat) :
    (p.openTable id start).store = (p.opened id start).store := by
  rw [Part.openTable_eq]
  split <;> simp

theorem Part.openTable_of_not_valid {p : Part} {id : TableId} (h : (p.table id).state ≠ .valid) (start : Nat) :
    p.openTable id start = p.opened id start := by
  rw [Part.openTable_eq, if_neg h]

theorem Part.openTable_of_valid {p : Part} {id : TableId} (h : (p.table id).state = .valid) (start : Nat) :
    p.openTable id start = (p.opened id start).tableServiceChanged id := by
  rw [Part.openTable_eq, if_pos h]

/-- The consumer of a map remaps its forces (R23, R24). -/
theorem Part.tableServiceChanged_of_map {id : TableId} (h : id.isMap = true) (p : Part) :
    p.tableServiceChanged id = p.remapForces := by
  cases id with
  | pedalMap | leverMap => rfl
  | retarderCurve | exhaustCurve | gearTable => cases h

/-- The consumer of a curve or of the gear table is the Capacity Unit (R59). -/
theorem Part.tableServiceChanged_of_pairs {id : TableId} (h : id.isMap = false) (p : Part) :
    p.tableServiceChanged id = p.needCapacities := by
  cases id with
  | pedalMap | leverMap => cases h
  | retarderCurve | exhaustCurve | gearTable => rfl

/-! ## TABLE_OPEN (R13) -/

theorem tableOfId_of_outside {n : Nat} (h : n < 1 ∨ 5 < n) : tableOfId n = none := by
  have outside : n = 0 ∨ ∃ m, n = m + 6 := h.imp (by omega) fun h => ⟨n - 6, by omega⟩
  obtain rfl | ⟨m, rfl⟩ := outside <;> rfl

section TableOpen

variable {p : Part} {n k : Nat} {id : TableId}

theorem Part.tableOpen_wrong_mode (hc : p.control.mode ≠ .config) (hs : p.control.mode ≠ .standby) :
    p.tableOpen n k = (p, .refused .mode) := by
  simp [Part.tableOpen, hc, hs]

theorem Part.tableOpen_unknown_table (hm : p.control.mode = .config ∨ p.control.mode = .standby)
    (hn : tableOfId n = none) : p.tableOpen n k = (p, .refused (.badValue 0)) := by
  rcases hm with hm | hm <;> simp [Part.tableOpen, hm, hn]

theorem Part.tableOpen_beyond_slots (hm : p.control.mode = .config ∨ p.control.mode = .standby)
    (hn : tableOfId n = some id) (hk : id.slots ≤ k) : p.tableOpen n k = (p, .refused (.badValue 1)) := by
  rcases hm with hm | hm <;> simp [Part.tableOpen, hm, hn, Nat.not_lt.mpr hk]

theorem Part.tableOpen_opens (hm : p.control.mode = .config ∨ p.control.mode = .standby)
    (hn : tableOfId n = some id) (hk : k < id.slots) : p.tableOpen n k = (p.openTable id k, .done) := by
  rcases hm with hm | hm <;> simp [Part.tableOpen, hm, hn, hk]

end TableOpen

/-! ## TABLE_DATA (R14) -/

theorem pairEntries_flatMap (es : List Entry) : pairEntries (es.flatMap fun e => [e.first, e.second]) = some es := by
  induction es with
  | nil => rfl
  | cons e es ih => simp [pairEntries, ih]

/-- A payload that pairs up has an even number of fields. -/
theorem length_of_pairEntries {fields : List Nat} {es : List Entry} (h : pairEntries fields = some es) :
    fields.length = 2 * es.length := by
  induction fields using pairEntries.induct generalizing es with
  | case1 => simp_all [pairEntries]
  | case2 x y rest ih =>
    simp only [pairEntries, Option.map_eq_some_iff] at h
    obtain ⟨l, hl, rfl⟩ := h
    simp [ih hl, Nat.mul_add]
  | case3 x => simp [pairEntries] at h

theorem map_entry_first {es : List Entry} (h : ∀ e ∈ es, e.second = 0) :
    (es.map (·.first)).map (fun x => (⟨x, 0⟩ : Entry)) = es := by
  have entry : ∀ e ∈ es, (⟨e.first, 0⟩ : Entry) = e := fun e he => by rw [← h e he]
  rw [List.map_map]
  exact (List.map_congr_left entry).trans (List.map_id es)

/-- A map's payload of more than four fields holds too many entries, and an odd one of another table no whole number. -/
theorem entriesOf_eq_none {id : TableId} {fields : List Nat}
    (h : id.isMap = true ∧ 4 < fields.length ∨ id.isMap = false ∧ fields.length % 2 = 1) :
    entriesOf id fields = none := by
  obtain ⟨hmap, long⟩ | ⟨hmap, odd⟩ := h
  · simp [entriesOf, hmap, Nat.not_le.mpr long]
  · cases he : pairEntries fields with
    | none => simp [entriesOf, hmap, he]
    | some es => have := length_of_pairEntries he; omega

theorem entriesOf_of_entries {id : TableId} {fields : List Nat} {es : List Entry}
    (h : id.isMap = true ∧ fields = es.map (·.first) ∧ (∀ e ∈ es, e.second = 0) ∨
      id.isMap = false ∧ fields = es.flatMap fun e => [e.first, e.second])
    (some_ : 1 ≤ fields.length) (four : es.length ≤ 4) : entriesOf id fields = some es := by
  have nonempty : 1 ≤ es.length := by
    by_contra none_
    obtain rfl : es = [] := List.length_eq_zero_iff.mp (by omega)
    obtain ⟨-, rfl, -⟩ | ⟨-, rfl⟩ := h <;> exact absurd some_ (by decide)
  obtain ⟨hmap, rfl, second⟩ | ⟨hmap, rfl⟩ := h
  · simp only [entriesOf, hmap, if_true, map_entry_first second, if_pos (And.intro nonempty four)]
  · simp [entriesOf, hmap, pairEntries_flatMap, nonempty, four]

/-- The part with entries written into the open table from the cursor upward. -/
def Part.written (p : Part) (c : Cursor) (es : List Entry) : Part :=
  (p.setTable c.table { p.table c.table with slots := writeSlots (p.table c.table).slots c.index es }).setCursor
    (some ⟨c.table, c.index + es.length⟩)

section TableData

variable {p : Part} {fields : List Nat} {c : Cursor} {es : List Entry}

theorem Part.tableData_bad_length (h : fields.length < 1 ∨ 8 < fields.length) :
    p.tableData fields = (p, .refused .badLength) := by
  simp only [Part.tableData, if_pos h]

theorem Part.tableData_none_open (h1 : 1 ≤ fields.length) (h8 : fields.length ≤ 8) (hc : p.store.cursor = none) :
    p.tableData fields = (p, .refused .noTableOpen) := by
  have inBounds : ¬(fields.length < 1 ∨ 8 < fields.length) := by omega
  simp only [Part.tableData, if_neg inBounds, hc]

/-- TABLE_DATA with a table open, past the length check of the kind code table. -/
theorem Part.tableData_of_open (h1 : 1 ≤ fields.length) (h8 : fields.length ≤ 8) (hc : p.store.cursor = some c) :
    p.tableData fields =
      match entriesOf c.table fields with
      | none => (p, .refused .badLength)
      | some es =>
        if c.table.slots < c.index + es.length then (p, .refused .overrun) else (p.written c es, .done) := by
  have inBounds : ¬(fields.length < 1 ∨ 8 < fields.length) := by omega
  simp only [Part.tableData, if_neg inBounds, hc]
  rfl

theorem Part.tableData_no_entries (h1 : 1 ≤ fields.length) (h8 : fields.length ≤ 8) (hc : p.store.cursor = some c)
    (he : entriesOf c.table fields = none) : p.tableData fields = (p, .refused .badLength) := by
  rw [Part.tableData_of_open h1 h8 hc, he]

theorem Part.tableData_overruns (h1 : 1 ≤ fields.length) (h8 : fields.length ≤ 8) (hc : p.store.cursor = some c)
    (he : entriesOf c.table fields = some es) (overruns : c.table.slots < c.index + es.length) :
    p.tableData fields = (p, .refused .overrun) := by
  simp only [Part.tableData_of_open h1 h8 hc, he, if_pos overruns]

theorem Part.tableData_writes (h1 : 1 ≤ fields.length) (h8 : fields.length ≤ 8) (hc : p.store.cursor = some c)
    (he : entriesOf c.table fields = some es) (fits : c.index + es.length ≤ c.table.slots) :
    p.tableData fields = (p.written c es, .done) := by
  simp only [Part.tableData_of_open h1 h8 hc, he, if_neg (Nat.not_lt.mpr fits)]

end TableData

@[simp] theorem Part.written_untouched (p : Part) (c : Cursor) (es : List Entry) :
    (p.written c es).now = p.now ∧ (p.written c es).control = p.control ∧ (p.written c es).demand = p.demand ∧
      (p.written c es).motion = p.motion ∧ (p.written c es).slip = p.slip ∧ (p.written c es).cap = p.cap ∧
      (p.written c es).app = p.app ∧ (p.written c es).thermal = p.thermal ∧ (p.written c es).ret = p.ret ∧
      (p.written c es).flap = p.flap ∧ (p.written c es).chan = p.chan ∧ (p.written c es).retRoute = p.retRoute ∧
      (p.written c es).link = p.link ∧ (p.written c es).faults = p.faults ∧ (p.written c es).flags = p.flags ∧
      (p.written c es).vl = p.vl ∧ (p.written c es).fswClosed = p.fswClosed ∧
      (p.written c es).handed = p.handed ∧ (p.written c es).store.chassis = p.store.chassis ∧
      (p.written c es).store.settings = p.store.settings ∧
      (p.written c es).store.gearCount = p.store.gearCount ∧
      (p.written c es).store.cursor = some ⟨c.table, c.index + es.length⟩ := by
  simp [Part.written]

theorem Part.written_table_same (p : Part) (c : Cursor) (es : List Entry) :
    (p.written c es).table c.table =
      { p.table c.table with slots := writeSlots (p.table c.table).slots c.index es } := by
  simp [Part.written]

theorem Part.written_table_other {c : Cursor} {j : TableId} (h : j ≠ c.table) (p : Part) (es : List Entry) :
    (p.written c es).table j = p.table j := by
  simp [Part.written, Part.table_setTable_other h]

/-! ## TABLE_CLOSE (R15) -/

/-- The part with the open table closed in a state, before anything follows from it. -/
def Part.closed (p : Part) (c : Cursor) (st : TableState) : Part :=
  (p.setTable c.table { p.table c.table with state := st }).setCursor none

/-- The part with a table that has passed, before its consumer acts: the gear count is the cursor (R18). -/
def Part.passed (p : Part) (c : Cursor) : Part :=
  if c.table = .gearTable then (p.closed c .valid).setGearCount c.index else p.closed c .valid

@[simp] theorem Part.closed_untouched (p : Part) (c : Cursor) (st : TableState) :
    (p.closed c st).now = p.now ∧ (p.closed c st).control = p.control ∧ (p.closed c st).demand = p.demand ∧
      (p.closed c st).motion = p.motion ∧ (p.closed c st).slip = p.slip ∧ (p.closed c st).cap = p.cap ∧
      (p.closed c st).app = p.app ∧ (p.closed c st).thermal = p.thermal ∧ (p.closed c st).ret = p.ret ∧
      (p.closed c st).flap = p.flap ∧ (p.closed c st).chan = p.chan ∧ (p.closed c st).retRoute = p.retRoute ∧
      (p.closed c st).link = p.link ∧ (p.closed c st).faults = p.faults ∧ (p.closed c st).flags = p.flags ∧
      (p.closed c st).vl = p.vl ∧ (p.closed c st).fswClosed = p.fswClosed ∧ (p.closed c st).handed = p.handed ∧
      (p.closed c st).store.chassis = p.store.chassis ∧ (p.closed c st).store.settings = p.store.settings ∧
      (p.closed c st).store.gearCount = p.store.gearCount ∧ (p.closed c st).store.cursor = none := by
  simp [Part.closed]

theorem Part.closed_table_same (p : Part) (c : Cursor) (st : TableState) :
    (p.closed c st).table c.table = { p.table c.table with state := st } := by
  simp [Part.closed]

theorem Part.closed_table_other {c : Cursor} {j : TableId} (h : j ≠ c.table) (p : Part) (st : TableState) :
    (p.closed c st).table j = p.table j := by
  simp [Part.closed, Part.table_setTable_other h]

@[simp] theorem Part.passed_untouched (p : Part) (c : Cursor) :
    (p.passed c).now = p.now ∧ (p.passed c).control = p.control ∧ (p.passed c).demand = p.demand ∧
      (p.passed c).motion = p.motion ∧ (p.passed c).slip = p.slip ∧ (p.passed c).cap = p.cap ∧
      (p.passed c).app = p.app ∧ (p.passed c).thermal = p.thermal ∧ (p.passed c).ret = p.ret ∧
      (p.passed c).flap = p.flap ∧ (p.passed c).chan = p.chan ∧ (p.passed c).retRoute = p.retRoute ∧
      (p.passed c).link = p.link ∧ (p.passed c).faults = p.faults ∧ (p.passed c).flags = p.flags ∧
      (p.passed c).vl = p.vl ∧ (p.passed c).fswClosed = p.fswClosed ∧ (p.passed c).handed = p.handed ∧
      (p.passed c).store.chassis = p.store.chassis ∧ (p.passed c).store.settings = p.store.settings ∧
      (p.passed c).store.cursor = none := by
  simp only [Part.passed]
  split <;> simp

theorem Part.passed_gearCount (p : Part) (c : Cursor) :
    (p.passed c).store.gearCount = if c.table = .gearTable then c.index else p.store.gearCount := by
  simp only [Part.passed]
  split <;> simp

theorem Part.passed_table (p : Part) (c : Cursor) (j : TableId) :
    (p.passed c).table j = (p.closed c .valid).table j := by
  simp only [Part.passed]
  split <;> simp

section TableClose

variable {p : Part} {c : Cursor} {k : Nat}

theorem Part.tableClose_none_open (hc : p.store.cursor = none) : p.tableClose = (p, .refused .noTableOpen) := by
  simp only [Part.tableClose, hc]

theorem Part.tableClose_offending (hc : p.store.cursor = some c)
    (hk : firstOffending c.table (p.table c.table) c.index = some k) :
    p.tableClose = (p.closed c .invalid, .refused (.badValue k)) := by
  simp only [Part.tableClose, hc, hk]
  rfl

theorem Part.tableClose_passing (hc : p.store.cursor = some c)
    (hk : firstOffending c.table (p.table c.table) c.index = none) :
    p.tableClose = ((p.passed c).tableServiceChanged c.table, .done) := by
  simp only [Part.tableClose, hc, hk]
  rfl

end TableClose

/-! ## What an accepted TABLE_OPEN, TABLE_DATA or TABLE_CLOSE leaves -/

section Accepted

variable {p q : Part} {id : TableId} {k : Nat}

/-- The Demand Arbiter acts exactly when a map leaves VALID (R20). -/
theorem Part.openTable_demand_kept (h : (p.table id).state ≠ .valid ∨ id.isMap = false) (k : Nat) :
    (p.openTable id k).demand = p.demand := by
  by_cases hv : (p.table id).state = .valid
  · have hmap : id.isMap = false := h.resolve_left (not_not.mpr hv)
    simp [Part.openTable_of_valid hv, Part.tableServiceChanged_of_pairs hmap]
  · simp [Part.openTable_of_not_valid hv]

/-- A map that leaves VALID has its forces remapped, by the map as it then stands. -/
theorem Part.openTable_demand_remapped (hv : (p.table id).state = .valid) (hmap : id.isMap = true)
    (store : q.store = (p.openTable id k).store) (control : q.control = p.control)
    (demand : q.demand = (p.openTable id k).demand) : q.demand = { p.demand with
      pedalForce := q.pedalForceOf p.demand.pedalReading
      leverForce := q.leverForceOf p.demand.leverReading
      total := q.totalDemand
      lead := q.leadingSource } := by
  rw [Part.openTable_of_valid hv, Part.tableServiceChanged_of_map hmap] at store demand
  simpa using Part.demand_of_remap (p := p.opened id k) (by simpa using store) (by simpa using control) demand

/-- The Capacity Unit is handed an event exactly when a table of its own leaves VALID (R20, R59). -/
theorem Part.openTable_handed (p : Part) (id : TableId) (k : Nat) : (p.openTable id k).handed = p.handed ++
    (if (p.table id).state = .valid ∧ id.isMap = false then [.recompute] else []) := by
  by_cases hv : (p.table id).state = .valid
  · cases hmap : id.isMap with
    | false => simp [Part.openTable_of_valid hv, Part.tableServiceChanged_of_pairs hmap, hv]
    | true => simp [Part.openTable_of_valid hv, Part.tableServiceChanged_of_map hmap]
  · simp [Part.openTable_of_not_valid hv, hv]

end Accepted

/-- Settles O8, from the equation of each outcome of the two requests and the tables `opened` and `written` leave. -/
theorem tableLoadWritesAtCursor : Obligations.TableLoadWritesAtCursor := by
  refine ⟨fun s tag n k => ⟨?mode, fun hm => ⟨?unknown, fun id hn => ⟨?beyond, fun hk => ?opens⟩⟩⟩,
    fun s tag fields es => ⟨?badLength, fun h1 h8 => ⟨?noneOpen, fun c hc => ⟨?noEntries, fun he four =>
      have entries := entriesOf_of_entries he h1 four
      ⟨?overruns, fun fits => ?writes⟩⟩⟩⟩⟩
  case mode => exact fun hc hs => State.next_congr (Part.request_of_eq (Part.tableOpen_wrong_mode hc hs))
  case unknown =>
    exact fun hn => State.next_congr (Part.request_of_eq (Part.tableOpen_unknown_table hm (tableOfId_of_outside hn)))
  case beyond => exact fun hk => State.next_congr (Part.request_of_eq (Part.tableOpen_beyond_slots hm hn hk))
  case opens =>
    have opened : (s.part.openTable id k).store = _ := s.part.openTable_store id k
    have table := fun j => Part.table_congr opened j
    refine ⟨_, State.next_congr (Part.request_of_eq (Part.tableOpen_opens hm hn hk)), Part.eq_of_fields, ?_, ?_, ?_, ?_,
      ?_, ?_, ?_, ?_, ?_, ?_, ?_⟩
    · simp [table, Part.opened_table_same]
    · simp [opened]
    · intro other h
      simp [table, Part.opened_table_other h]
    · simp [opened, Part.opened_gearCount]
    · simp [opened]
    · simp [opened]
    · rintro hv rfl
      rw [Part.answer_demand, Part.openTable_demand_remapped hv rfl rfl (by simp) rfl]
      exact Part.pedalForceOf_of_not_valid (by simp [table, Part.opened_table_same]) _
    · rintro hv rfl
      rw [Part.answer_demand, Part.openTable_demand_remapped hv rfl rfl (by simp) rfl]
      exact Part.leverForceOf_of_not_valid (by simp [table, Part.opened_table_same]) _
    · exact fun hv hmap => Part.openTable_demand_remapped hv hmap rfl (by simp) rfl
    · exact fun h => Part.openTable_demand_kept h k
    · exact s.part.openTable_handed id k
  case badLength => exact fun h => State.next_congr (Part.request_of_eq (Part.tableData_bad_length h))
  case noneOpen => exact fun hc => State.next_congr (Part.request_of_eq (Part.tableData_none_open h1 h8 hc))
  case noEntries =>
    exact fun h => State.next_congr (Part.request_of_eq (Part.tableData_no_entries h1 h8 hc (entriesOf_eq_none h)))
  case overruns => exact fun h => State.next_congr (Part.request_of_eq (Part.tableData_overruns h1 h8 hc entries h))
  case writes =>
    refine ⟨_, State.next_congr (Part.request_of_eq (Part.tableData_writes h1 h8 hc entries fits)), Part.eq_of_fields,
      ?_, ?_, ?_, ?_, ?_, ?_⟩
    · simp [Part.written_table_same, writeSlots]
    · simp
    · intro other h
      simp [Part.written_table_other h]
    · simp
    · simp
    · simp

/-! ## The first offending index (R16 to R18) -/

/-- The first failing slot is the lowest below the bound at which the check's condition fails. -/
theorem firstFailing_lowest {bound : Nat} {check : Nat → Bool} {ok : Nat → Prop} (h : ∀ k, check k = true ↔ ok k) :
    (firstFailing bound check = none ↔ ∀ k < bound, ok k) ∧
      ∀ k < bound, (firstFailing bound check = some k ↔ ¬ ok k ∧ ∀ j < k, ok j) := by
  refine ⟨?_, fun k hk => ?_⟩
  · simp [firstFailing, h]
  · simp [firstFailing, List.find?_range_eq_some, ← h, hk]

theorem Table.written_iff (t : Table) (k : Nat) : t.written k = true ↔ (t.slots[k]?.join).isSome = true := by
  rw [Table.written, List.getD_eq_getElem?_getD]
  cases t.slots[k]? <;> rfl

/-- A slot of a curve passes by R16: the first field rises from slot to slot, and is above 0 at slot 0 where the curve
asks for it. -/
theorem curveSlotOk_iff (t : Table) (maxFirst maxSecond : Nat) (positive : Bool) (k : Nat) :
    curveSlotOk t maxFirst maxSecond positive k = true ↔
      ((t.slots[k]?.join).isSome = true ∧ (t.entry k).first ≤ maxFirst ∧ (t.entry k).second ≤ maxSecond ∧
        (1 ≤ k → (t.entry (k - 1)).first < (t.entry k).first)) ∧
      (positive = true → k = 0 → 0 < (t.entry 0).first) := by
  cases k with
  | zero => cases positive <;> simp [curveSlotOk, Table.written_iff, and_assoc]
  | succ k => simp [curveSlotOk, Table.written_iff, and_assoc]

/-- A slot of a map passes by R17: the force is 0 at slot 0, and does not fall from slot to slot. -/
theorem mapSlotOk_iff (t : Table) (k : Nat) :
    mapSlotOk t k = true ↔
      (t.slots[k]?.join).isSome = true ∧ (t.entry k).first ≤ 20000 ∧ (k = 0 → (t.entry 0).first = 0) ∧
        (1 ≤ k → (t.entry (k - 1)).first ≤ (t.entry k).first) := by
  cases k with
  | zero => simp [mapSlotOk, Table.written_iff, and_assoc]
  | succ k => simp [mapSlotOk, Table.written_iff, and_assoc]

theorem inRange_iff {lo hi v : Nat} : inRange lo hi v = true ↔ lo ≤ v ∧ v ≤ hi := by
  simp [inRange]

/-- A slot of the gear table passes by R18: a ratio within its bounds, and below that of the slot before it. -/
theorem gearSlotOk_iff (t : Table) (k : Nat) :
    gearSlotOk t k = true ↔
      (t.slots[k]?.join).isSome = true ∧ 1 ≤ (t.entry k).first ∧ (t.entry k).first ≤ 4095 ∧
        1 ≤ (t.entry k).second ∧ (t.entry k).second ≤ 4095 ∧ (t.entry k).second ≤ 2 * (t.entry k).first ∧
        (t.entry k).first ≤ 15 * (t.entry k).second ∧
        (1 ≤ k → (t.entry k).first * (t.entry (k - 1)).second < (t.entry (k - 1)).first * (t.entry k).second) := by
  cases k with
  | zero => simp [gearSlotOk, Table.written_iff, inRange_iff, and_assoc]
  | succ k => simp [gearSlotOk, Table.written_iff, inRange_iff, and_assoc]

/-- Settles O9, from the two outcomes of a close, and from the lowest failing slot of a kind together with what its
check asks of one slot. -/
theorem tableCloseValidates : Obligations.TableCloseValidates := by
  refine ⟨fun s tag => ⟨?noneOpen, fun c hc => ?closes⟩, fun t cursor =>
    ⟨?retarder, ?exhaust, ?pedal, ?lever, ?noGear, ?gears⟩⟩
  case noneOpen => exact fun hc => State.next_congr (Part.request_of_eq (Part.tableClose_none_open hc))
  case closes =>
    cases hk : firstOffending c.table (s.part.table c.table) c.index with
    | some k =>
      refine ⟨_, State.next_congr (Part.request_of_eq (Part.tableClose_offending hc hk)), Part.eq_of_fields, by simp,
        by simp, by simp, fun other h => ?_, fun j hj => ?_, fun h => (nomatch hk.symm.trans h)⟩
      · simp [Part.closed_table_other h]
      · obtain rfl : k = j := Option.some.inj (hk.symm.trans hj)
        simp [Part.closed_table_same]
    | none =>
      refine ⟨_, State.next_congr (Part.request_of_eq (Part.tableClose_passing hc hk)), Part.eq_of_fields, by simp,
        by simp, by simp, fun other h => ?_, fun j h => (nomatch hk.symm.trans h), fun _ =>
        ⟨?_, ?_, by simp, fun hmap => ?_, fun hmap => ?_⟩⟩
      · simp [Part.passed_table, Part.closed_table_other h]
      · simp [Part.passed_table, Part.closed_table_same]
      · simp [Part.passed_gearCount]
      · simp [Part.tableServiceChanged_of_pairs hmap]
      · rw [Part.tableServiceChanged_of_map hmap]
        refine ⟨by simp, ?_⟩
        simpa using Part.demand_of_remap (p := s.part.passed c)
          (q := (s.part.passed c).remapForces.answer kindTableClose tag .done) (by simp) (by simp) rfl
  case retarder => exact firstFailing_lowest fun k => (curveSlotOk_iff t 6000 20000 true k).trans (by simp)
  case exhaust => exact firstFailing_lowest fun k => (curveSlotOk_iff t 4000 3000 false k).trans (by simp)
  case pedal => exact firstFailing_lowest (mapSlotOk_iff t)
  case lever => exact firstFailing_lowest (mapSlotOk_iff t)
  case noGear => exact fun h => if_pos h
  case gears =>
    intro some_
    rw [firstOffending, if_neg (Nat.one_le_iff_ne_zero.mp some_)]
    exact firstFailing_lowest (gearSlotOk_iff t)

end Sys2Proof.Machine
end

section
/-! PROOF. SETTINGS (R8, R9): storing one pair moves the settings whose range depends on it and no others; the request
is refused in the order of R8 or applied pair by pair. -/

namespace Sys2Proof.Machine

/-! ## Reading and storing settings -/

section Settings

variable {values : List Nat} {id j : Nat}

@[simp] theorem length_setSetting (values : List Nat) (id v : Nat) :
    (setSetting values id v).length = values.length := by
  simp [setSetting]

theorem settingOf_setSetting (len : values.length = 39) (low : 1 ≤ id) (high : id ≤ 39) (lowj : 1 ≤ j) (v : Nat) :
    settingOf (setSetting values id v) j = if j = id then v else settingOf values j := by
  have inside : id - 1 < values.length := by omega
  by_cases h : j = id
  · simp [settingOf, setSetting, h, inside]
  · have apart : id - 1 ≠ j - 1 := by omega
    simp [settingOf, setSetting, h, List.getElem?_set_ne apart]

@[simp] theorem length_lowerTo (values : List Nat) (id bound : Nat) :
    (lowerTo values id bound).1.length = values.length := by
  unfold lowerTo
  split <;> simp

@[simp] theorem length_raiseTo (values : List Nat) (id bound : Nat) :
    (raiseTo values id bound).1.length = values.length := by
  unfold raiseTo
  split <;> simp

theorem settingOf_lowerTo (len : values.length = 39) (low : 1 ≤ id) (high : id ≤ 39) (lowj : 1 ≤ j) (bound : Nat) :
    settingOf (lowerTo values id bound).1 j =
      if j = id then min (settingOf values id) bound else settingOf values j := by
  unfold lowerTo
  split
  · rw [settingOf_setSetting len low high lowj, Nat.min_eq_right (by omega)]
  · split
    · next same => rw [same, Nat.min_eq_left (by omega)]
    · rfl

theorem settingOf_raiseTo (len : values.length = 39) (low : 1 ≤ id) (high : id ≤ 39) (lowj : 1 ≤ j) (bound : Nat) :
    settingOf (raiseTo values id bound).1 j =
      if j = id then max (settingOf values id) bound else settingOf values j := by
  unfold raiseTo
  split
  · rw [settingOf_setSetting len low high lowj, Nat.max_eq_right (by omega)]
  · split
    · next same => rw [same, Nat.max_eq_left (by omega)]
    · rfl

theorem lowerTo_moved (values : List Nat) (id bound : Nat) :
    (lowerTo values id bound).2 = decide (bound < settingOf values id) := by
  unfold lowerTo
  split <;> simp_all

theorem raiseTo_moved (values : List Nat) (id bound : Nat) :
    (raiseTo values id bound).2 = decide (settingOf values id < bound) := by
  unfold raiseTo
  split <;> simp_all

end Settings

/-! ## The dependent settings (R9) -/

/-- What a setting becomes when a setting is stored as `st`: the settings whose range depends on it are moved to their
bound. -/
def movedTo (values : List Nat) (id st j : Nat) : Nat :=
  if id = 7 ∧ j = 8 then min (settingOf values 8) (st - 100)
  else if id = 17 ∧ j = 18 then max (settingOf values 18) (st + 10)
  else if id = 28 ∧ j = 29 then max (settingOf values 29) (st + 20)
  else if id = 28 ∧ j = 30 then
    if settingOf values 29 < st + 20 then max (settingOf values 30) (st + 40) else settingOf values 30
  else if id = 29 ∧ j = 30 then max (settingOf values 30) (st + 20)
  else settingOf values j

@[simp] theorem length_recheckDependents (values : List Nat) (id : Nat) :
    (recheckDependents values id).1.length = values.length := by
  unfold recheckDependents
  dsimp only
  (repeat' split) <;> simp

/-- The settings on which the range of another depends: those whose storing moves others (R9). -/
def movers : List Nat := [7, 17, 28, 29]

theorem recheckDependents_of_not_mover {id : Nat} (h : id ∉ movers) (values : List Nat) :
    recheckDependents values id = (values, false) := by
  simp only [movers, List.mem_cons, List.not_mem_nil, or_false, not_or] at h
  simp [recheckDependents, h]

theorem movedTo_of_not_mover {id : Nat} (h : id ∉ movers) (values : List Nat) (st j : Nat) :
    movedTo values id st j = settingOf values j := by
  simp only [movers, List.mem_cons, List.not_mem_nil, or_false, not_or] at h
  simp [movedTo, h]

/-- The re-check after the warm threshold is stored moves the hot threshold, and the fade threshold after it. -/
theorem recheckDependents_warm (values : List Nat) :
    recheckDependents values 28 =
      if settingOf values 29 < settingOf values 28 + 20 then
        ((raiseTo (raiseTo values 29 (settingOf values 28 + 20)).1 30
          (settingOf (raiseTo values 29 (settingOf values 28 + 20)).1 29 + 20)).1, true)
      else (values, false) := by
  by_cases h : settingOf values 29 < settingOf values 28 + 20 <;> simp [recheckDependents, raiseTo, h]

/-- The re-check after a setting is stored reads the stored value, and moves the dependent settings alone. -/
theorem settingOf_recheckDependents {values : List Nat} (len : values.length = 39) {id j : Nat} (low : 1 ≤ id)
    (high : id ≤ 39) (lowj : 1 ≤ j) (st : Nat) :
    settingOf (recheckDependents (setSetting values id st) id).1 j =
      if j = id then st else movedTo values id st j := by
  have len' : (setSetting values id st).length = 39 := by simpa using len
  have stored := fun k (hk : 1 ≤ k) => settingOf_setSetting len low high hk st
  by_cases mover : id ∈ movers
  · simp only [movers, List.mem_cons, List.not_mem_nil, or_false] at mover
    obtain rfl | rfl | rfl | rfl := mover
    · show settingOf (lowerTo _ 8 (settingOf _ 7 - 100)).1 j = _
      rw [settingOf_lowerTo len' (by decide) (by decide) lowj]
      grind [movedTo]
    · show settingOf (raiseTo _ 18 (settingOf _ 17 + 10)).1 j = _
      rw [settingOf_raiseTo len' (by decide) (by decide) lowj]
      grind [movedTo]
    · rw [recheckDependents_warm]
      split
      · rw [settingOf_raiseTo (by simpa using len) (by decide) (by decide) lowj,
          settingOf_raiseTo len' (by decide) (by decide) (by decide),
          settingOf_raiseTo len' (by decide) (by decide) (by decide),
          settingOf_raiseTo len' (by decide) (by decide) lowj]
        grind [movedTo]
      · grind [movedTo]
    · show settingOf (raiseTo _ 30 (settingOf _ 29 + 20)).1 j = _
      rw [settingOf_raiseTo len' (by decide) (by decide) lowj]
      grind [movedTo]
  · rw [recheckDependents_of_not_mover mover, movedTo_of_not_mover mover]
    exact stored j lowj

/-- The re-check says that it moved a setting exactly when one other than the stored one reads differently. -/
theorem recheckDependents_moved {values : List Nat} (len : values.length = 39) {id : Nat} (low : 1 ≤ id)
    (high : id ≤ 39) (st : Nat) :
    (recheckDependents (setSetting values id st) id).2 = true ↔
      ∃ j < 40, 1 ≤ j ∧ j ≠ id ∧ movedTo values id st j ≠ settingOf values j := by
  have stored := fun k (hk : 1 ≤ k) => settingOf_setSetting len low high hk st
  by_cases mover : id ∈ movers
  · simp only [movers, List.mem_cons, List.not_mem_nil, or_false] at mover
    obtain rfl | rfl | rfl | rfl := mover
    · show (lowerTo _ 8 (settingOf _ 7 - 100)).2 = true ↔ _
      rw [lowerTo_moved, stored 7 (by decide), stored 8 (by decide)]
      grind [movedTo]
    · show (raiseTo _ 18 (settingOf _ 17 + 10)).2 = true ↔ _
      rw [raiseTo_moved, stored 17 (by decide), stored 18 (by decide)]
      grind [movedTo]
    · rw [recheckDependents_warm, stored 28 (by decide), stored 29 (by decide)]
      grind [movedTo]
    · show (raiseTo _ 30 (settingOf _ 29 + 20)).2 = true ↔ _
      rw [raiseTo_moved, stored 29 (by decide), stored 30 (by decide)]
      grind [movedTo]
  · simp [recheckDependents_of_not_mover mover, movedTo_of_not_mover mover]

/-! ## One pair and all pairs of SETTINGS (R9) -/

/-- The value that is stored when a value is sent: limited to the range of the setting as it stands. -/
def storedFor (values : List Nat) (id v : Nat) : Nat :=
  min (max v (settingRange values id).1) (settingRange values id).2

@[simp] theorem length_applySetting (values : List Nat) (id v : Nat) :
    (applySetting values id v).1.length = values.length := by
  simp [applySetting]

theorem settingOf_applySetting {values : List Nat} (len : values.length = 39) {id j : Nat} (low : 1 ≤ id)
    (high : id ≤ 39) (lowj : 1 ≤ j) (v : Nat) :
    settingOf (applySetting values id v).1 j =
      if j = id then storedFor values id v else movedTo values id (storedFor values id v) j :=
  settingOf_recheckDependents len low high lowj _

theorem applySetting_clamped {values : List Nat} (len : values.length = 39) {id : Nat} (low : 1 ≤ id)
    (high : id ≤ 39) (v : Nat) :
    (applySetting values id v).2 = true ↔ storedFor values id v ≠ v ∨
      ∃ j < 40, 1 ≤ j ∧ j ≠ id ∧ movedTo values id (storedFor values id v) j ≠ settingOf values j := by
  rw [← recheckDependents_moved len low high]
  simp [applySetting, storedFor, or_comm]

/-- The settings after pairs have been applied one by one, in order. -/
def settingsAfter (values : List Nat) (pairs : List (Nat × Nat)) : List Nat :=
  pairs.foldl (fun v y => (applySetting v y.1 y.2).1) values

theorem applySettings_values (values : List Nat) (pairs : List (Nat × Nat)) :
    (applySettings values pairs).1 = settingsAfter values pairs := by
  induction pairs generalizing values with
  | nil => rfl
  | cons y rest ih => exact ih _

/-- A request counts as clamped when some pair does, as the settings stand at it. -/
theorem applySettings_clamped (values : List Nat) (pairs : List (Nat × Nat)) :
    (applySettings values pairs).2 = true ↔ ∃ k < pairs.length,
      (applySetting (settingsAfter values (pairs.take k))
        (pairs.getD k (0, 0)).1 (pairs.getD k (0, 0)).2).2 = true := by
  induction pairs generalizing values with
  | nil => simp [applySettings]
  | cons y rest ih =>
    have later : (applySettings values (y :: rest)).2 = true ↔ (applySetting values y.1 y.2).2 = true ∨
        (applySettings (applySetting values y.1 y.2).1 rest).2 = true := by
      simp [applySettings]
    rw [later, ih, List.length_cons, Nat.exists_lt_succ_left]
    rfl

/-! ## SETTINGS (R8) -/

section SettingsRequest

variable {p : Part} {pairs : List (Nat × Nat)}

theorem Part.settingsRequest_bad_length (h : pairs.length < 1 ∨ 12 < pairs.length) :
    p.settingsRequest pairs = (p, .refused .badLength) := by
  rw [Part.settingsRequest, if_pos h]

theorem Part.settingsRequest_wrong_mode (h1 : 1 ≤ pairs.length) (h12 : pairs.length ≤ 12)
    (hc : p.control.mode ≠ .config) (hs : p.control.mode ≠ .standby) :
    p.settingsRequest pairs = (p, .refused .mode) := by
  have inBounds : ¬(pairs.length < 1 ∨ 12 < pairs.length) := by omega
  rw [Part.settingsRequest, if_neg inBounds, if_pos ⟨hc, hs⟩]

/-- SETTINGS of an acceptable length in CONFIG or STANDBY: the first pair of an unknown id, or all pairs applied. -/
theorem Part.settingsRequest_of_mode (h1 : 1 ≤ pairs.length) (h12 : pairs.length ≤ 12)
    (hm : p.control.mode = .config ∨ p.control.mode = .standby) :
    p.settingsRequest pairs =
      match pairs.findIdx? fun x => !inRange 1 39 x.1 with
      | some k => (p, .refused (.badValue k))
      | none => ({ p with store := { p.store with settings := (applySettings p.store.settings pairs).1 } },
          .applied (applySettings p.store.settings pairs).2) := by
  have inBounds : ¬(pairs.length < 1 ∨ 12 < pairs.length) := by omega
  have inMode : ¬(p.control.mode ≠ .config ∧ p.control.mode ≠ .standby) := by tauto
  unfold Part.settingsRequest
  exact (if_neg inBounds).trans (if_neg inMode)

theorem Part.settingsRequest_unknown_id {l r : List (Nat × Nat)} {x : Nat × Nat} (h1 : 1 ≤ pairs.length)
    (h12 : pairs.length ≤ 12) (hm : p.control.mode = .config ∨ p.control.mode = .standby) (split : pairs = l ++ x :: r)
    (hx : x.1 < 1 ∨ 39 < x.1) (known : ∀ y ∈ l, 1 ≤ y.1 ∧ y.1 ≤ 39) :
    p.settingsRequest pairs = (p, .refused (.badValue l.length)) := by
  have first : pairs.findIdx? (fun x => !inRange 1 39 x.1) = some l.length := by
    have unknown : (!inRange 1 39 x.1) = true := by
      rw [Bool.not_eq_true', ← Bool.not_eq_true, inRange_iff]
      omega
    have none_ : l.findIdx? (fun x => !inRange 1 39 x.1) = none := by
      simpa [List.findIdx?_eq_none_iff, inRange_iff] using known
    simp [split, List.findIdx?_append, none_, List.findIdx?_cons, unknown]
  rw [Part.settingsRequest_of_mode h1 h12 hm, first]

theorem Part.settingsRequest_applied (h1 : 1 ≤ pairs.length) (h12 : pairs.length ≤ 12)
    (hm : p.control.mode = .config ∨ p.control.mode = .standby) (known : ∀ y ∈ pairs, 1 ≤ y.1 ∧ y.1 ≤ 39) :
    p.settingsRequest pairs =
      ({ p with store := { p.store with settings := settingsAfter p.store.settings pairs } },
        .applied (applySettings p.store.settings pairs).2) := by
  have none_ : pairs.findIdx? (fun x => !inRange 1 39 x.1) = none := by
    simpa [List.findIdx?_eq_none_iff, inRange_iff] using known
  rw [Part.settingsRequest_of_mode h1 h12 hm, none_, applySettings_values]

end SettingsRequest

/-- Settles O7, from the outcome of each check of the request and from what every setting holds after one pair. -/
theorem settingsAppliedInOrder : Obligations.SettingsAppliedInOrder := by
  refine ⟨fun s tag ps l r x => ⟨?badLength, fun h1 h12 => ⟨?mode, fun hm => ⟨?unknown, fun known => ?applied⟩⟩⟩,
    fun values id v len low high => ⟨?stored, ?moved, ?clamped⟩⟩
  case badLength => exact fun h => State.next_congr (Part.request_of_eq (Part.settingsRequest_bad_length h))
  case mode =>
    exact fun hc hs => State.next_congr (Part.request_of_eq (Part.settingsRequest_wrong_mode h1 h12 hc hs))
  case unknown =>
    exact fun hs hx hl => State.next_congr (Part.request_of_eq (Part.settingsRequest_unknown_id h1 h12 hm hs hx hl))
  case applied =>
    refine ⟨_, State.next_congr (Part.request_of_eq (Part.settingsRequest_applied h1 h12 hm known)), rfl, rfl, ?_⟩
    have clamped := applySettings_clamped s.part.store.settings ps
    refine congrArg (fun r => (s.part.answer kindSettings tag r).vl) ?_
    by_cases h : (applySettings s.part.store.settings ps).2 = true
    · exact (congrArg Reply.applied h).trans (if_pos (clamped.mp h)).symm
    · exact (congrArg Reply.applied (Bool.eq_false_of_not_eq_true h)).trans (if_neg (mt clamped.mpr h)).symm
  case stored => simp [settingOf_applySetting len low high low, storedFor]
  case moved =>
    intro j _ lowj other
    rw [settingOf_applySetting len low high lowj, if_neg other]
    rfl
  case clamped =>
    rw [applySetting_clamped len low high]
    refine or_congr Iff.rfl (exists_congr fun j => and_congr_right fun _ => and_congr_right fun lowj =>
      and_congr_right fun other => ?_)
    rw [settingOf_applySetting len low high lowj, if_neg other]

end Sys2Proof.Machine
end

section
/-! PROOF. CHASSIS (R3 to R6): the checks of a record in ascending order of their fields, the outcome of each check of
the request, and what acceptance does to every block. -/

namespace Sys2Proof.Machine

/-! ## The checks of a chassis record (R4) -/

/-- The checks of per-axle entries from position n on have field indices from 16 + 4n on, each above those before. -/
theorem axleChecks_ascending (l : List AxleDesc) (n : Nat) :
    ((l.zipIdx n).flatMap fun x => axleChecks x.2 x.1).Pairwise (fun x y => x.1 < y.1) ∧
      ∀ x ∈ (l.zipIdx n).flatMap fun x => axleChecks x.2 x.1, 16 + 4 * n ≤ x.1 := by
  induction l generalizing n with
  | nil => simp
  | cons d l ih =>
    obtain ⟨ascending, above⟩ := ih (n + 1)
    simp only [List.zipIdx_cons, List.flatMap_cons]
    refine ⟨List.pairwise_append.mpr ⟨by simp [axleChecks], ascending, fun x hx y hy => ?_⟩, fun x hx => ?_⟩
    · have := above y hy
      simp only [axleChecks, List.mem_cons, List.not_mem_nil, or_false] at hx
      obtain rfl | rfl | rfl | rfl := hx <;> simp only <;> omega
    · obtain hx | hx := List.mem_append.mp hx
      · simp only [axleChecks, List.mem_cons, List.not_mem_nil, or_false] at hx
        obtain rfl | rfl | rfl | rfl := hx <;> simp only <;> omega
      · have := above x hx
        omega

/-- The checks of a chassis record stand in ascending field index (R4). -/
theorem chassisChecks_ascending (c : ChassisRecord) : (chassisChecks c).Pairwise fun x y => x.1 < y.1 := by
  obtain ⟨ascending, above⟩ := axleChecks_ascending c.axles 0
  refine List.pairwise_append.mpr ⟨by simp, ascending, fun x hx y hy => ?_⟩
  have := above y hy
  simp only [List.mem_cons, List.not_mem_nil, or_false] at hx
  obtain rfl | rfl | rfl | rfl | rfl | rfl | rfl | rfl | rfl | rfl | rfl | rfl := hx <;> simp only <;> omega

theorem chassisFault_eq_none {c : ChassisRecord} : chassisFault c = none ↔ ∀ x ∈ chassisChecks c, x.2 = true := by
  simp [chassisFault]

/-- The lowest field that fails is the fault of the record. -/
theorem chassisFault_eq_some {c : ChassisRecord} {k : Nat} (fails : (k, false) ∈ chassisChecks c)
    (lower : ∀ x ∈ chassisChecks c, x.1 < k → x.2 = true) : chassisFault c = some k := by
  obtain ⟨before, after, split⟩ := List.append_of_mem fails
  have passes : ∀ x ∈ before, x.2 = true := fun x hx => by
    have ascending := chassisChecks_ascending c
    rw [split, List.pairwise_append] at ascending
    exact lower x (by simp [split, hx]) (ascending.2.2 x hx (k, false) (by simp))
  have none_ : before.find? (fun x => !x.2) = none := by simpa using passes
  simp [chassisFault, split, none_]

/-! ## CHASSIS (R3) -/

section ChassisRequest

variable {p : Part} {c : ChassisRecord}

theorem Part.chassisRequest_bad_length (h : c.axles.length < 2 ∨ 4 < c.axles.length) :
    p.chassisRequest c = (p, .refused .badLength) := by
  rw [Part.chassisRequest, if_pos h]

theorem Part.chassisRequest_wrong_mode (h2 : 2 ≤ c.axles.length) (h4 : c.axles.length ≤ 4)
    (hm : p.control.mode ≠ .config) : p.chassisRequest c = (p, .refused .mode) := by
  have inBounds : ¬(c.axles.length < 2 ∨ 4 < c.axles.length) := by omega
  rw [Part.chassisRequest, if_neg inBounds, if_pos hm]

theorem Part.chassisRequest_already_set (h2 : 2 ≤ c.axles.length) (h4 : c.axles.length ≤ 4)
    (hm : p.control.mode = .config) (set : p.store.chassis ≠ none) :
    p.chassisRequest c = (p, .refused .alreadySet) := by
  have inBounds : ¬(c.axles.length < 2 ∨ 4 < c.axles.length) := by omega
  rw [Part.chassisRequest, if_neg inBounds, if_neg (not_not.mpr hm), if_pos (Option.isSome_iff_ne_none.mpr set)]

/-- CHASSIS in CONFIG without a record: the axle count, the length it calls for, and the checks of R4. -/
theorem Part.chassisRequest_of_unset (h2 : 2 ≤ c.axles.length) (h4 : c.axles.length ≤ 4)
    (hm : p.control.mode = .config) (unset : p.store.chassis = none) :
    p.chassisRequest c =
      if ¬(2 ≤ c.axleCount ∧ c.axleCount ≤ 4) then (p, .refused (.badValue 0))
      else if c.axles.length ≠ c.axleCount then (p, .refused .badLength)
      else
        match chassisFault c with
        | some k => (p, .refused (.badValue k))
        | none => (p.acceptChassis c, .done) := by
  have inBounds : ¬(c.axles.length < 2 ∨ 4 < c.axles.length) := by omega
  have count : (!inRange 2 4 c.axleCount) = true ↔ ¬(2 ≤ c.axleCount ∧ c.axleCount ≤ 4) := by
    rw [← inRange_iff]
    simp
  simp only [Part.chassisRequest, if_neg inBounds, hm, unset, count]
  rfl

theorem Part.chassisRequest_bad_count (h2 : 2 ≤ c.axles.length) (h4 : c.axles.length ≤ 4)
    (hm : p.control.mode = .config) (unset : p.store.chassis = none) (count : c.axleCount < 2 ∨ 4 < c.axleCount) :
    p.chassisRequest c = (p, .refused (.badValue 0)) := by
  rw [Part.chassisRequest_of_unset h2 h4 hm unset, if_pos (by omega)]

theorem Part.chassisRequest_wrong_length (h2 : 2 ≤ c.axles.length) (h4 : c.axles.length ≤ 4)
    (hm : p.control.mode = .config) (unset : p.store.chassis = none) (low : 2 ≤ c.axleCount) (high : c.axleCount ≤ 4)
    (len : c.axles.length ≠ c.axleCount) : p.chassisRequest c = (p, .refused .badLength) := by
  rw [Part.chassisRequest_of_unset h2 h4 hm unset, if_neg (by omega), if_pos len]

theorem Part.chassisRequest_bad_field {k : Nat} (h2 : 2 ≤ c.axles.length) (h4 : c.axles.length ≤ 4)
    (hm : p.control.mode = .config) (unset : p.store.chassis = none) (len : c.axles.length = c.axleCount)
    (fault : chassisFault c = some k) : p.chassisRequest c = (p, .refused (.badValue k)) := by
  rw [Part.chassisRequest_of_unset h2 h4 hm unset, if_neg (by omega), if_neg (not_not.mpr len), fault]

theorem Part.chassisRequest_accepted (h2 : 2 ≤ c.axles.length) (h4 : c.axles.length ≤ 4)
    (hm : p.control.mode = .config) (unset : p.store.chassis = none) (len : c.axles.length = c.axleCount)
    (sound : chassisFault c = none) : p.chassisRequest c = (p.acceptChassis c, .done) := by
  rw [Part.chassisRequest_of_unset h2 h4 hm unset, if_neg (by omega), if_neg (not_not.mpr len), sound]

end ChassisRequest

/-! ## The acceptance of the record (R5) -/

@[simp] theorem Part.startThermal_untouched (p : Part) :
    p.startThermal.now = p.now ∧ p.startThermal.control = p.control ∧ p.startThermal.store = p.store ∧
      p.startThermal.demand = p.demand ∧ p.startThermal.motion = p.motion ∧ p.startThermal.slip = p.slip ∧
      p.startThermal.cap = p.cap ∧ p.startThermal.app = p.app ∧ p.startThermal.ret = p.ret ∧
      p.startThermal.flap = p.flap ∧ p.startThermal.chan = p.chan ∧ p.startThermal.retRoute = p.retRoute ∧
      p.startThermal.link = p.link ∧ p.startThermal.faults = p.faults ∧ p.startThermal.flags = p.flags ∧
      p.startThermal.vl = p.vl ∧ p.startThermal.fswClosed = p.fswClosed ∧ p.startThermal.handed = p.handed := by
  simp [Part.startThermal]

/-- The start of the estimate (R102): every axle of the coach at 200 °C in NORMAL, and the thermal timer started. -/
theorem Part.startThermal_thermal (p : Part) :
    (∀ a, p.hasAxle a = true → p.startThermal.thermal.axles.get a = ⟨200000, .normal, false, 0⟩) ∧
      p.startThermal.thermal.timer = some ⟨p.now, 100⟩ ∧
      p.startThermal.thermal.ambientUsed = p.thermal.ambientUsed ∧
      p.startThermal.thermal.running = p.thermal.running := by
  refine ⟨fun a ha => ?_, rfl, rfl, rfl⟩
  simp [Part.startThermal, ha]

/-- Only the fade factors are published at the acceptance (R69). -/
theorem Part.startFade_cap (p : Part) : p.startFade.cap =
    { p.cap with items := { p.cap.items with fade := p.startFade.cap.items.fade } } := rfl

/-- The coach mass set (R36): every assist force, the total and the leading source follow. -/
theorem Part.setMass_demand {p q : Part} {kg : Nat} (control : q.control = p.control)
    (demand : q.demand = (p.setMass kg).demand) : q.demand = { p.demand with
      mass := kg
      assists := p.demand.assists.map fun e => { e with force := min ((kg * e.decel + 9999) / 10000) 20000 }
      total := q.totalDemand
      lead := q.leadingSource } :=
  Part.demand_of_retotal
    (p := { p with demand := { p.demand with
      mass := kg, assists := p.demand.assists.map fun e => { e with force := assistForceOf kg e.decel } } })
    control demand

/-- Flap Control at the acceptance (R131): OPENING with its timer started when a fitted flap shows closed, and else OPEN
with its timer stopped, entered now when the exhaust is fitted. -/
theorem Part.flapAtAcceptance_flap (p : Part) :
    p.flapAtAcceptance.flap.state = (if p.exhaustFitted = true ∧ p.fswClosed = true then .opening else .opened) ∧
      p.flapAtAcceptance.flap.timer = (if p.exhaustFitted = true ∧ p.fswClosed = true
        then some ⟨p.now, p.setting idFlapTimeout⟩ else none) ∧
      (p.exhaustFitted = true → p.fswClosed = false → p.flapAtAcceptance.flap.enteredOpen = p.now) := by
  have changed : ∀ (q : Part) f, (q.changeFlap f).flap = f := fun q f => by
    unfold Part.changeFlap
    split <;> rfl
  cases hf : p.exhaustFitted <;> cases hs : p.fswClosed <;>
    simp [Part.flapAtAcceptance, Part.judgeFlap, Part.flapOpening, Part.flapOpened, Part.startTimer, Part.setting,
      changed, hf, hs]

/-- The part with the record recorded and its Channel Units created, before the other blocks act (R5, R139). -/
def Part.described (p : Part) (c : ChassisRecord) : Part :=
  { p with store := { p.store with chassis := some c }, chan := .replicate .created }

theorem Part.acceptChassis_eq (p : Part) (c : ChassisRecord) :
    p.acceptChassis c =
      (((p.described c).startThermal.startFade.setMass c.grossMass).flapAtAcceptance).needCapacities := rfl

theorem Part.exhaustFitted_of_chassis {p : Part} {c : ChassisRecord} (h : p.store.chassis = some c) :
    p.exhaustFitted = true ↔ c.exhaustFitted = 1 := by
  simp [Part.exhaustFitted, h]

theorem Part.hasAxle_of_chassis {p : Part} {c : ChassisRecord} (h : p.store.chassis = some c) (a : Axle) :
    p.hasAxle a = true ↔ a.val < c.axleCount := by
  simp [Part.hasAxle, Part.axleCount, h]

@[simp] theorem Part.described_untouched (p : Part) (c : ChassisRecord) :
    (p.described c).now = p.now ∧ (p.described c).control = p.control ∧ (p.described c).demand = p.demand ∧
      (p.described c).motion = p.motion ∧ (p.described c).slip = p.slip ∧ (p.described c).cap = p.cap ∧
      (p.described c).app = p.app ∧ (p.described c).thermal = p.thermal ∧ (p.described c).ret = p.ret ∧
      (p.described c).flap = p.flap ∧ (p.described c).retRoute = p.retRoute ∧ (p.described c).link = p.link ∧
      (p.described c).faults = p.faults ∧ (p.described c).flags = p.flags ∧ (p.described c).vl = p.vl ∧
      (p.described c).fswClosed = p.fswClosed ∧ (p.described c).handed = p.handed :=
  ⟨rfl, rfl, rfl, rfl, rfl, rfl, rfl, rfl, rfl, rfl, rfl, rfl, rfl, rfl, rfl, rfl, rfl⟩

@[simp] theorem Part.described_store (p : Part) (c : ChassisRecord) :
    (p.described c).store = { p.store with chassis := some c } := rfl

@[simp] theorem Part.described_chan (p : Part) (c : ChassisRecord) :
    (p.described c).chan = .replicate .created := rfl

@[simp] theorem Part.acceptChassis_untouched (p : Part) (c : ChassisRecord) :
    (p.acceptChassis c).now = p.now ∧ (p.acceptChassis c).control = p.control ∧
      (p.acceptChassis c).store = { p.store with chassis := some c } ∧ (p.acceptChassis c).motion = p.motion ∧
      (p.acceptChassis c).slip = p.slip ∧ (p.acceptChassis c).app = p.app ∧ (p.acceptChassis c).ret = p.ret ∧
      (p.acceptChassis c).chan = .replicate .created ∧ (p.acceptChassis c).retRoute = p.retRoute ∧
      (p.acceptChassis c).link = p.link ∧ (p.acceptChassis c).faults = p.faults ∧
      (p.acceptChassis c).flags = p.flags ∧ (p.acceptChassis c).vl = p.vl ∧
      (p.acceptChassis c).fswClosed = p.fswClosed := by
  simp [Part.acceptChassis_eq]

theorem Part.acceptChassis_cap (p : Part) (c : ChassisRecord) : (p.acceptChassis c).cap =
    { p.cap with items := { p.cap.items with fade := (p.acceptChassis c).cap.items.fade } } := by
  simp only [Part.acceptChassis_eq, Part.needCapacities_cap, Part.flapAtAcceptance_untouched, Part.setMass_untouched]
  rw [Part.startFade_cap]
  simp

/-- Every axle of the coach starts at 200 °C in NORMAL (R102) with a fade factor of 1000 (R69). -/
theorem Part.acceptChassis_axle (p : Part) {c : ChassisRecord} {a : Axle} (ha : a.val < c.axleCount) :
    (p.acceptChassis c).thermal.axles.get a = ⟨200000, .normal, false, 0⟩ ∧
      (p.acceptChassis c).cap.items.fade.get a = 1000 := by
  have before : (p.described c).hasAxle a = true := (Part.hasAxle_of_chassis rfl a).mpr ha
  have started : (p.described c).startThermal.hasAxle a = true := (Part.hasAxle_of_chassis (by simp) a).mpr ha
  obtain ⟨temps, -⟩ := (p.described c).startThermal_thermal
  simp [Part.acceptChassis_eq, temps a before, started]

theorem Part.acceptChassis_thermal (p : Part) (c : ChassisRecord) :
    (p.acceptChassis c).thermal.timer = some ⟨p.now, 100⟩ ∧
      (p.acceptChassis c).thermal.ambientUsed = p.thermal.ambientUsed ∧
      (p.acceptChassis c).thermal.running = p.thermal.running := by
  obtain ⟨-, timer, ambient, running⟩ := (p.described c).startThermal_thermal
  simp [Part.acceptChassis_eq, timer, ambient, running]

theorem Part.acceptChassis_demand {p q : Part} {c : ChassisRecord} (control : q.control = p.control)
    (demand : q.demand = (p.acceptChassis c).demand) : q.demand = { p.demand with
      mass := c.grossMass
      assists := p.demand.assists.map fun e => { e with force := min ((c.grossMass * e.decel + 9999) / 10000) 20000 }
      total := q.totalDemand
      lead := q.leadingSource } := by
  simpa using Part.setMass_demand (p := (p.described c).startThermal.startFade) (q := q) (kg := c.grossMass)
    (by simpa using control) (by simpa [Part.acceptChassis_eq] using demand)

theorem Part.acceptChassis_flap (p : Part) (c : ChassisRecord) :
    (p.acceptChassis c).flap.state = (if c.exhaustFitted = 1 ∧ p.fswClosed = true then .opening else .opened) ∧
      (p.acceptChassis c).flap.timer = (if c.exhaustFitted = 1 ∧ p.fswClosed = true
        then some ⟨p.now, p.setting idFlapTimeout⟩ else none) ∧
      (c.exhaustFitted = 1 → p.fswClosed = false → (p.acceptChassis c).flap.enteredOpen = p.now) := by
  have flap := ((p.described c).startThermal.startFade.setMass c.grossMass).flapAtAcceptance_flap
  have fitted := Part.exhaustFitted_of_chassis
    (p := (p.described c).startThermal.startFade.setMass c.grossMass) (c := c) (by simp)
  simpa [fitted, Part.acceptChassis_eq, Part.setting] using flap

theorem Part.recompute_mem_acceptChassis (p : Part) (c : ChassisRecord) :
    Handoff.recompute ∈ (p.acceptChassis c).handed := by
  simp [Part.acceptChassis_eq]

/-- Settles O6, from the outcome of each check of the request and the lemmas about `acceptChassis`, block by block. -/
theorem chassisAcceptedOrRefused : Obligations.ChassisAcceptedOrRefused := by
  refine fun s tag c k => ⟨?badLength, fun h2 h4 => ⟨?mode, ?alreadySet, fun hm unset => ⟨?badCount, ?wrongLength,
    ?badField, fun len checks => ?accepted⟩⟩⟩
  case badLength => exact fun h => State.next_congr (Part.request_of_eq (Part.chassisRequest_bad_length h))
  case mode => exact fun hm => State.next_congr (Part.request_of_eq (Part.chassisRequest_wrong_mode h2 h4 hm))
  case alreadySet =>
    exact fun hm set => State.next_congr (Part.request_of_eq (Part.chassisRequest_already_set h2 h4 hm set))
  case badCount =>
    exact fun count => State.next_congr (Part.request_of_eq (Part.chassisRequest_bad_count h2 h4 hm unset count))
  case wrongLength =>
    exact fun low high len =>
      State.next_congr (Part.request_of_eq (Part.chassisRequest_wrong_length h2 h4 hm unset low high len))
  case badField =>
    exact fun len fails lower => State.next_congr (Part.request_of_eq
      (Part.chassisRequest_bad_field h2 h4 hm unset len (chassisFault_eq_some fails lower)))
  case accepted =>
    have accepted := Part.chassisRequest_accepted h2 h4 hm unset len (chassisFault_eq_none.mpr checks)
    obtain ⟨timer, ambient, running⟩ := s.part.acceptChassis_thermal c
    obtain ⟨state, flapTimer, entered⟩ := s.part.acceptChassis_flap c
    exact ⟨_, State.next_congr (Part.request_of_eq accepted),
      Part.eq_of_fields (cap := s.part.acceptChassis_cap c),
      Part.acceptChassis_demand (by simp) rfl,
      fun a ha => s.part.acceptChassis_axle ha,
      timer, ambient, running, state, flapTimer, entered,
      s.part.recompute_mem_acceptChassis c⟩

end Sys2Proof.Machine
end

section
/-! PROOF. What keeps the laws of the Table Store: a SETTINGS request keeps every setting within its range (R8, R9), and
the table requests keep the open table the one that is LOADING (R12 to R15). -/

namespace Sys2Proof.Machine

open Safety

/-! ## The settings stay in their ranges (R7, R9) -/

/-- The settings whose range depends on another, and so can move when it is stored (R9). -/
def movables : List Nat := [8, 18, 29, 30]

/-- A row of the table whose range depends on no other setting has its fixed range. -/
theorem settingRange_of_fixed {row : SettingRow} (hrow : row ∈ settingRows) (fixed : row.id ∉ movables)
    (values : List Nat) : settingRange values row.id = (row.lo, row.hi) := by
  have found : ∀ r ∈ settingRows, settingRows.find? (·.id == r.id) = some r := by decide
  simp only [movables, List.mem_cons, List.not_mem_nil, or_false, not_or] at fixed
  simp [settingRange, found row hrow, fixed]

theorem movedTo_of_fixed {j : Nat} (fixed : j ∉ movables) (values : List Nat) (id st : Nat) :
    movedTo values id st j = settingOf values j := by
  simp only [movables, List.mem_cons, List.not_mem_nil, or_false, not_or] at fixed
  simp [movedTo, fixed]

/-- A settings record in which every setting lies in its range as the others stand (R7). -/
def InRanges (values : List Nat) : Prop :=
  values.length = 39 ∧ ∀ r ∈ settingRows, (settingRange values r.id).1 ≤ settingOf values r.id ∧
    settingOf values r.id ≤ (settingRange values r.id).2

theorem exists_row {id : Nat} (low : 1 ≤ id) (high : id ≤ 39) : ∃ r ∈ settingRows, r.id = id := by
  have rows : ∀ k < 40, 1 ≤ k → ∃ r ∈ settingRows, r.id = k := by decide
  exact rows id (by omega) low

theorem InRanges.bounds {values : List Nat} (h : InRanges values) {id : Nat} (low : 1 ≤ id) (high : id ≤ 39) :
    (settingRange values id).1 ≤ settingOf values id ∧ settingOf values id ≤ (settingRange values id).2 := by
  obtain ⟨r, hr, rfl⟩ := exists_row low high
  exact h.2 r hr

theorem InRanges.storedFor_mem {values : List Nat} (h : InRanges values) {id : Nat} (low : 1 ≤ id) (high : id ≤ 39)
    (v : Nat) : (settingRange values id).1 ≤ storedFor values id v ∧
      storedFor values id v ≤ (settingRange values id).2 := by
  have := h.bounds low high
  unfold storedFor
  omega

theorem settingRange_onRatio (values : List Nat) : settingRange values 7 = (500, 1000) := rfl
theorem settingRange_offRatio (values : List Nat) :
    settingRange values 8 = (100, min 900 (settingOf values 7 - 100)) := rfl
theorem settingRange_derateStart (values : List Nat) : settingRange values 17 = (80, 140) := rfl
theorem settingRange_cutout (values : List Nat) : settingRange values 18 = (settingOf values 17 + 10, 160) := rfl
theorem settingRange_warm (values : List Nat) : settingRange values 28 = (150, 400) := rfl
theorem settingRange_hot (values : List Nat) : settingRange values 29 = (settingOf values 28 + 20, 500) := rfl
theorem settingRange_fade (values : List Nat) : settingRange values 30 = (settingOf values 29 + 20, 700) := rfl

/-- One pair keeps the settings in their ranges: the stored one is limited, and those that depend on it are moved. -/
theorem InRanges.applySetting {values : List Nat} (h : InRanges values) {id : Nat} (low : 1 ≤ id) (high : id ≤ 39)
    (v : Nat) : InRanges (applySetting values id v).1 := by
  refine ⟨by simpa using h.1, fun row hrow => ?_⟩
  obtain ⟨rowLow, rowHigh⟩ : 1 ≤ row.id ∧ row.id ≤ 39 := by
    revert row
    decide
  have reads := fun (j : Nat) (hj : 1 ≤ j) => settingOf_applySetting h.1 low high hj v
  have stored := h.storedFor_mem low high v
  have before := h.bounds rowLow rowHigh
  by_cases fixed : row.id ∈ movables
  · have base := fun (j : Nat) (hj : 1 ≤ j) (hj' : j ≤ 39) => h.bounds hj hj'
    simp only [movables, List.mem_cons, List.not_mem_nil, or_false] at fixed
    obtain same | same | same | same := fixed <;> rw [same] at before ⊢
    · have onRatio := base 7 (by decide) (by decide)
      grind [movedTo, settingRange_onRatio, settingRange_offRatio]
    · have derateStart := base 17 (by decide) (by decide)
      grind [movedTo, settingRange_derateStart, settingRange_cutout]
    · have warm := base 28 (by decide) (by decide)
      grind [movedTo, settingRange_warm, settingRange_hot]
    · have warm := base 28 (by decide) (by decide)
      have hot := base 29 (by decide) (by decide)
      grind [movedTo, settingRange_warm, settingRange_hot, settingRange_fade]
  · rw [settingRange_of_fixed hrow fixed] at before ⊢
    rw [reads row.id rowLow]
    split
    · next same =>
      rw [← same, settingRange_of_fixed hrow fixed] at stored
      rwa [← same]
    · rwa [movedTo_of_fixed fixed]

theorem InRanges.settingsAfter {values : List Nat} (h : InRanges values) {pairs : List (Nat × Nat)}
    (known : ∀ y ∈ pairs, 1 ≤ y.1 ∧ y.1 ≤ 39) : InRanges (settingsAfter values pairs) := by
  induction pairs generalizing values with
  | nil => exact h
  | cons y rest ih =>
    obtain ⟨low, high⟩ := known y (List.mem_cons_self ..)
    exact ih (h.applySetting low high y.2) fun z hz => known z (List.mem_cons_of_mem _ hz)

/-! ## The tables stay held (R12) -/

theorem mem_allTables (id : TableId) : id ∈ allTables := by
  cases id <;> decide

/-- The law of R12 for every table id, with the open table named. -/
theorem tablesHeld_iff {p : Part} : TablesHeld p ↔
    (∀ id, (p.table id).slots.length = id.slots ∧
      ((p.table id).state = .loading ↔ p.store.cursor.map (·.table) = some id)) ∧
    (∀ c, p.store.cursor = some c → ∀ e ∈ (p.table c.table).slots.drop c.index, e = none) ∧
    ((p.table .gearTable).state ≠ .valid → p.store.gearCount = 0) ∧ p.store.gearCount ≤ 12 := by
  refine and_congr ⟨fun h id => h id (mem_allTables id), fun h id _ => h id⟩ (and_congr ?_ Iff.rfl)
  simp only [Option.mem_toList]

theorem tablesHeld_congr {p q : Part} (store : q.store = p.store) (h : TablesHeld p) : TablesHeld q := by
  rw [tablesHeld_iff] at h ⊢
  simpa only [Part.table_congr store, store] using h

section TablesHeldKept

variable {p : Part} {c : Cursor} {id : TableId} {start : Nat} {es : List Entry}

/-- While a table is open it is LOADING, and no other is. -/
theorem loading_iff_open (h : TablesHeld p) (hc : p.store.cursor = some c) (id : TableId) :
    (p.table id).state = .loading ↔ c.table = id := by
  obtain ⟨states, -⟩ := tablesHeld_iff.mp h
  simpa [hc] using (states id).2

/-- The gear count is 0 while the gear table is open. -/
theorem gearCount_of_open (h : TablesHeld p) (hc : p.store.cursor = some c) (gear : c.table = .gearTable) :
    p.store.gearCount = 0 := by
  obtain ⟨-, -, count, -⟩ := tablesHeld_iff.mp h
  have loading := (loading_iff_open h hc .gearTable).mpr gear
  exact count (by simp [loading])

theorem tablesHeld_closed_invalid (h : TablesHeld p) (hc : p.store.cursor = some c) :
    TablesHeld (p.closed c .invalid) := by
  obtain ⟨states, -, count, bound⟩ := tablesHeld_iff.mp h
  refine tablesHeld_iff.mpr ⟨fun id => ?_, by simp, fun notValid => ?_, by simpa using bound⟩
  · by_cases same : id = c.table
    · subst same
      simp [Part.closed_table_same, states]
    · simp [Part.closed_table_other same, states, hc, Ne.symm same]
  · by_cases gear : c.table = .gearTable
    · simpa using gearCount_of_open h hc gear
    · rw [Part.closed_table_other (Ne.symm gear)] at notValid
      simpa using count notValid

/-- A gear table that passes has every slot below the cursor written, so that the cursor lies within its slots. -/
theorem cursor_le_of_gears_pass {t : Table} {k : Nat} (h : firstOffending .gearTable t k = none) :
    k ≤ t.slots.length := by
  by_contra beyond
  rw [firstOffending, if_neg (by omega)] at h
  obtain ⟨written, -⟩ := (firstFailing_lowest (gearSlotOk_iff t)).1.mp h t.slots.length (by omega)
  simp at written

theorem tablesHeld_passed (h : TablesHeld p) (hc : p.store.cursor = some c)
    (pass : firstOffending c.table (p.table c.table) c.index = none) : TablesHeld (p.passed c) := by
  obtain ⟨states, -, count, bound⟩ := tablesHeld_iff.mp h
  refine tablesHeld_iff.mpr ⟨fun id => ?_, by simp, fun notValid => ?_, ?_⟩
  · by_cases same : id = c.table
    · subst same
      simp [Part.passed_table, Part.closed_table_same, states]
    · simp [Part.passed_table, Part.closed_table_other same, states, hc, Ne.symm same]
  · by_cases gear : c.table = .gearTable
    · rw [Part.passed_table, ← gear, Part.closed_table_same] at notValid
      exact absurd rfl notValid
    · rw [Part.passed_table, Part.closed_table_other (Ne.symm gear)] at notValid
      rw [Part.passed_gearCount, if_neg gear, count notValid]
  · rw [Part.passed_gearCount]
    split
    · next gear =>
      rw [gear] at pass
      exact (cursor_le_of_gears_pass pass).trans_eq (states .gearTable).1
    · exact bound

theorem tablesHeld_abandonTable (h : TablesHeld p) : TablesHeld p.abandonTable := by
  cases hc : p.store.cursor with
  | none =>
    have kept : p.abandonTable = p := by simp only [Part.abandonTable, hc]
    rwa [kept]
  | some c =>
    have closed : p.abandonTable = p.closed c .invalid := by
      simp only [Part.abandonTable, hc]
      rfl
    rw [closed]
    exact tablesHeld_closed_invalid h hc

theorem tablesHeld_opened (h : TablesHeld p) (hs : start < id.slots) : TablesHeld (p.opened id start) := by
  obtain ⟨states, -, count, bound⟩ := tablesHeld_iff.mp h
  have len : start ≤ (p.table id).slots.length := by
    rw [(states id).1]
    omega
  refine tablesHeld_iff.mpr ⟨fun j => ?_, fun c hc e he => ?_, fun notValid => ?_, ?_⟩
  · by_cases same : j = id
    · subst same
      simp only [Part.opened_table_same, Part.opened_cursor, List.length_append, List.length_take,
        List.length_replicate, Nat.min_eq_left len]
      exact ⟨by omega, by simp⟩
    · rw [Part.opened_table_other same, Part.opened_cursor]
      split
      · simp [states, Ne.symm same]
      · next notOpen => simp [states, notOpen, Ne.symm same]
  · obtain rfl : ⟨id, start⟩ = c := by simpa using hc
    rw [Part.opened_table_same, List.drop_left' (by simpa using len)] at he
    exact List.eq_of_mem_replicate he
  · rw [Part.opened_gearCount]
    split
    · rfl
    · next other =>
      rw [Part.opened_table_other (Ne.symm other)] at notValid
      split at notValid
      · next isOpen => exact count (by simp [(states .gearTable).2.mpr isOpen])
      · exact count notValid
  · rw [Part.opened_gearCount]
    split
    · exact Nat.zero_le _
    · exact bound

theorem tablesHeld_written (h : TablesHeld p) (hc : p.store.cursor = some c)
    (fits : c.index + es.length ≤ c.table.slots) : TablesHeld (p.written c es) := by
  obtain ⟨states, unwritten, count, bound⟩ := tablesHeld_iff.mp h
  have len := (states c.table).1
  have start : ((p.table c.table).slots.take c.index ++ es.map some).length = c.index + es.length := by
    simp [len]
    omega
  refine tablesHeld_iff.mpr ⟨fun id => ?_, fun d hd e he => ?_, fun notValid => ?_, by simpa using bound⟩
  · by_cases same : id = c.table
    · subst same
      rw [Part.written_table_same]
      refine ⟨?_, by simp [states, hc]⟩
      rw [writeSlots, List.length_append, start, List.length_drop, len]
      omega
    · simp [Part.written_table_other same, states, hc]
  · obtain rfl : ⟨c.table, c.index + es.length⟩ = d := by simpa using hd
    rw [Part.written_table_same, writeSlots, List.drop_left' start, ← List.drop_drop] at he
    exact unwritten c hc e (List.mem_of_mem_drop he)
  · by_cases gear : c.table = .gearTable
    · simpa using gearCount_of_open h hc gear
    · rw [Part.written_table_other (Ne.symm gear)] at notValid
      simpa using count notValid

end TablesHeldKept

end Sys2Proof.Machine
end

section
/-! PROOF. What the blocks other than the Table Store leave of the coach description: its tables and record, the routes,
the addresses and uses of the node table, and queued requests for its addresses (R3, R155 to R157). One lemma per
operation, in the order of the model. -/

namespace Sys2Proof.Machine

open Safety

/-! ## What keeps the coach description -/

/-- What an operation that loads no table, stores no setting, accepts no record and applies no ROUTE leaves of the coach
description: the Table Store, the routes, the addresses and uses of the node table, and queued requests that are for an
address of it. -/
structure DescriptionKept (p q : Part) : Prop where
  store : q.store = p.store
  retRoute : q.retRoute = p.retRoute
  routes : q.chan.map (·.route) = p.chan.map (·.route)
  nodes : q.link.nodes.map (fun e => (e.addr, e.use)) = p.link.nodes.map fun e => (e.addr, e.use)
  queue : QueueAddressed p → QueueAddressed q

/-- Whether the node table holds an address is told by its addresses and uses. -/
theorem exists_node_congr {l m : List NodeEntry}
    (h : m.map (fun e => (e.addr, e.use)) = l.map fun e => (e.addr, e.use)) (x : Nat) :
    (∃ e ∈ m, e.addr = x) ↔ ∃ e ∈ l, e.addr = x := by
  have addrs : m.map (·.addr) = l.map (·.addr) := by
    simpa [Function.comp_def] using congrArg (List.map Prod.fst) h
  simp only [← List.mem_map, addrs]

theorem Part.node_mem {p : Part} {x : Nat} {e : NodeEntry} (h : p.node x = some e) :
    e ∈ p.link.nodes ∧ e.addr = x :=
  ⟨List.mem_of_find?_eq_some h, by simpa using List.find?_some h⟩

theorem mem_placeRequest {queue : List Request} {now : Time} {addr : Nat} {payload : Payload} {r : Request}
    (h : r ∈ placeRequest queue now addr payload) : (∃ old ∈ queue, old.addr = r.addr) ∨ r.addr = addr := by
  have appended : ∀ new : Request, new.addr = addr → r ∈ queue ++ [new] →
      (∃ old ∈ queue, old.addr = r.addr) ∨ r.addr = addr := fun new hn hr => by
    obtain hr | hr := List.mem_append.mp hr
    · exact .inl ⟨r, hr, rfl⟩
    · obtain rfl := List.mem_singleton.mp hr
      exact .inr hn
  unfold placeRequest at h
  split at h
  · split at h
    · obtain ⟨old, hold, rfl⟩ := List.mem_map.mp h
      refine .inl ⟨old, hold, ?_⟩
      split <;> rfl
    · exact appended _ rfl h
  · split at h
    · exact .inl ⟨r, h, rfl⟩
    · exact appended _ rfl h

@[simp] theorem Channel.released_route (c : Channel) (st : ChannelState) : (c.released st).route = c.route := by
  unfold Channel.released
  split <;> rfl

namespace DescriptionKept

variable {p q r : Part}

theorem refl (p : Part) : DescriptionKept p p := ⟨rfl, rfl, rfl, rfl, id⟩

theorem trans (h : DescriptionKept p q) (h' : DescriptionKept q r) : DescriptionKept p r :=
  ⟨h'.store.trans h.store, h'.retRoute.trans h.retRoute, h'.routes.trans h.routes, h'.nodes.trans h.nodes,
    fun hq => h'.queue (h.queue hq)⟩

/-- An operation that touches neither the Table Store nor the routes nor the link controller. -/
theorem untouched (h : DescriptionKept p q)
    (same : r.store = q.store ∧ r.chan = q.chan ∧ r.retRoute = q.retRoute ∧ r.link = q.link) :
    DescriptionKept p r := by
  obtain ⟨store, chan, retRoute, link⟩ := same
  exact h.trans ⟨store, retRoute, by rw [chan], by rw [link], by simp only [QueueAddressed, link, imp_self]⟩

theorem needCapacities (h : DescriptionKept p q) : DescriptionKept p q.needCapacities := h.untouched (by simp)

theorem handOn (h : DescriptionKept p q) (x : Handoff) : DescriptionKept p (q.handOn x) := h.untouched (by simp)

theorem taken (h : DescriptionKept p q) (l : Lane) : DescriptionKept p (q.taken l) := h.untouched (by simp)

theorem faultOccurs (h : DescriptionKept p q) (src : Source) (code : FaultCode) :
    DescriptionKept p (q.faultOccurs src code) := h.untouched (by simp)

theorem faultEnds (h : DescriptionKept p q) (src : Source) (code : FaultCode) :
    DescriptionKept p (q.faultEnds src code) := h.untouched (by simp)

theorem answer (h : DescriptionKept p q) (kind tag : Byte) (r : Reply) :
    DescriptionKept p (q.answer kind tag r) := h.untouched (by simp)

theorem ite {c : Prop} [Decidable c] (h : DescriptionKept p q) (h' : DescriptionKept p r) :
    DescriptionKept p (if c then q else r) := by
  split
  · exact h
  · exact h'

theorem foldl {α : Type} {f : Part → α → Part}
    (step : ∀ (q : Part) (a : α), DescriptionKept p q → DescriptionKept p (f q a)) (h : DescriptionKept p q)
    (l : List α) : DescriptionKept p (l.foldl f q) := by
  induction l generalizing q with
  | nil => exact h
  | cons a l ih => exact ih (step q a h)

/-- A change of the link controller that keeps the node table's addresses and uses, and queues requests only for
addresses that had one queued or are in the table. -/
theorem linkChanged (h : DescriptionKept p q)
    (same : r.store = q.store ∧ r.chan = q.chan ∧ r.retRoute = q.retRoute)
    (nodes : r.link.nodes.map (fun e => (e.addr, e.use)) = q.link.nodes.map fun e => (e.addr, e.use))
    (queue : ∀ x ∈ r.link.queue, (∃ old ∈ q.link.queue, old.addr = x.addr) ∨ ∃ e ∈ q.link.nodes, e.addr = x.addr) :
    DescriptionKept p r := by
  obtain ⟨store, chan, retRoute⟩ := same
  refine h.trans ⟨store, retRoute, by rw [chan], nodes, fun addressed x hx => (exists_node_congr nodes x.addr).mpr ?_⟩
  obtain ⟨old, hold, same⟩ | inTable := queue x hx
  · rw [← same]
    exact addressed old hold
  · exact inTable

theorem setChannel (h : DescriptionKept p q) {a : Axle} {c : Channel} (route : c.route = (q.chan.get a).route) :
    DescriptionKept p (q.setChannel a c) := by
  refine h.trans ⟨rfl, rfl, Axles.ext_get fun b => ?_, rfl, id⟩
  by_cases same : b = a
  · simp [same, route]
  · simp [same]

/-! ### The request queue -/

theorem chooseNext (h : DescriptionKept p q) : DescriptionKept p q.chooseNext := by
  have begun : ∀ r, DescriptionKept p (q.beginTransaction r) := fun r =>
    h.linkChanged (by simp) rfl fun r' hr => .inl ⟨r', List.mem_of_mem_erase hr, rfl⟩
  unfold Part.chooseNext
  split
  · split
    · exact h
    · split
      · exact begun _
      · exact h
  · exact h
  · exact h

theorem post (h : DescriptionKept p q) (addr : Nat) (payload : Payload) : DescriptionKept p (q.post addr payload) := by
  unfold Part.post
  split
  · next e he =>
    refine DescriptionKept.chooseNext (h.linkChanged (by simp) rfl fun r hr => ?_)
    obtain old | rfl := mem_placeRequest hr
    · exact .inl old
    · exact .inr ⟨e, Part.node_mem he⟩
  · exact h

/-! ### The Channel Units -/

theorem postTarget (h : DescriptionKept p q) (a : Axle) : DescriptionKept p (q.postTarget a) := by
  unfold Part.postTarget
  dsimp only
  split
  · exact h.ite ((h.setChannel (by simp)).post _ _)
  · exact h
  · exact h

theorem releaseChannel (h : DescriptionKept p q) (a : Axle) (st : ChannelState) :
    DescriptionKept p (q.releaseChannel a st) :=
  (h.setChannel (by simp)).postTarget a

theorem withdrawShare (h : DescriptionKept p q) (a : Axle) : DescriptionKept p (q.withdrawShare a) :=
  h.untouched (by simp)

theorem judgeChannel (h : DescriptionKept p q) (a : Axle) : DescriptionKept p (q.judgeChannel a) := by
  have released : DescriptionKept p
      (if !q.channelAvailable a && decide ((q.chan.get a).state = some .commanded)
        then q.releaseChannel a .backup else q) := (h.releaseChannel a .backup).ite h
  have judged := fun c (route : c.route = _) => (released.setChannel (a := a) (c := c) route).needCapacities
  exact released.ite ((judged _ (by simp)).ite ((judged _ (by simp)).withdrawShare a))

theorem stopChannels (h : DescriptionKept p q) : DescriptionKept p q.stopChannels :=
  h.foldl (fun _ a h => (h.releaseChannel a .backup).ite h) _

theorem takeDemand (h : DescriptionKept p q) (a : Axle) (kPa : Nat) : DescriptionKept p (q.takeDemand a kPa) :=
  h.ite (((h.setChannel (by simp)).postTarget a).ite (((h.setChannel (by simp)).postTarget a).ite h))

theorem trackPressure (h : DescriptionKept p q) (a : Axle) (kPa : Nat) :
    DescriptionKept p (q.trackPressure a kPa) := by
  unfold Part.trackPressure
  dsimp only
  refine DescriptionKept.ite (DescriptionKept.ite ?_ (h.setChannel (by simp))) h
  split
  · exact h
  · exact h.setChannel (by simp)

theorem judgeSample (h : DescriptionKept p q) (a : Axle) (kPa : Int) : DescriptionKept p (q.judgeSample a kPa) :=
  DescriptionKept.ite
    (((((h.setChannel (by simp)).faultEnds _ _).ite (h.setChannel (by simp))).judgeChannel a).trackPressure a _)
    (((h.setChannel (by simp)).ite ((h.setChannel (by simp)).faultOccurs _ _)).judgeChannel a)

theorem localSample (h : DescriptionKept p q) (a : Axle) (kPa : Int) : DescriptionKept p (q.localSample a kPa) :=
  DescriptionKept.ite ((h.setChannel (by simp)).ite ((h.setChannel (by simp)).judgeSample a kPa)) h

theorem takeMeasurement (h : DescriptionKept p q) (a : Axle) (kPa : Nat) :
    DescriptionKept p (q.takeMeasurement a kPa) :=
  (h.setChannel (by simp)).trackPressure a kPa

theorem channelLost (h : DescriptionKept p q) (a : Axle) : DescriptionKept p (q.channelLost a) :=
  DescriptionKept.ite (((h.setChannel (by simp)).postTarget a).judgeChannel a) (h.judgeChannel a)

theorem channelFound (h : DescriptionKept p q) (a : Axle) : DescriptionKept p (q.channelFound a) :=
  DescriptionKept.ite ((h.setChannel (by simp)).judgeChannel a) (h.judgeChannel a)

theorem readmitChannel (h : DescriptionKept p q) (a : Axle) : DescriptionKept p (q.readmitChannel a) := by
  unfold Part.readmitChannel
  dsimp only
  refine DescriptionKept.ite ((DescriptionKept.postTarget (h.setChannel ?_) a).judgeChannel a) h
  simp only [apply_ite Channel.route, Channel.unreachable_route, Channel.released_route, ite_self]

theorem trackingTimerExpiry (h : DescriptionKept p q) (a : Axle) : DescriptionKept p (q.trackingTimerExpiry a) :=
  DescriptionKept.ite ((((h.setChannel (by simp)).faultOccurs _ _).releaseChannel a _).judgeChannel a) h

theorem pressureDemand (h : DescriptionKept p q) (a : Axle) : DescriptionKept p (q.pressureDemand a) := by
  unfold Part.pressureDemand
  split
  · exact (h.taken _).takeDemand a _
  · exact h

theorem remoteMeasurement (h : DescriptionKept p q) (a : Axle) : DescriptionKept p (q.remoteMeasurement a) := by
  unfold Part.remoteMeasurement
  split
  · exact (h.taken _).takeMeasurement a _
  · exact h

theorem channelPresenceChange (h : DescriptionKept p q) (a : Axle) :
    DescriptionKept p (q.channelPresenceChange a) := by
  unfold Part.channelPresenceChange
  split
  · exact ((h.taken _).channelFound a).chooseNext
  · exact ((h.taken _).channelLost a).chooseNext
  · exact h

/-! ### Retarder Control -/

theorem sendRetarder (h : DescriptionKept p q) (t : RetarderTarget) : DescriptionKept p (q.sendRetarder t) := by
  have sent : DescriptionKept p { q with ret := { q.ret with lastSent := t } } := h.untouched (by simp)
  unfold Part.sendRetarder Part.postRetarder
  split
  · exact sent.post _ _
  · exact sent

theorem retargetRetarder (h : DescriptionKept p q) : DescriptionKept p q.retargetRetarder :=
  h.ite (h.sendRetarder _)

theorem enterRetarder (h : DescriptionKept p q) (st : RetarderState) : DescriptionKept p (q.enterRetarder st) :=
  DescriptionKept.retargetRetarder (h.untouched (by simp))

theorem drainRetarder (h : DescriptionKept p q) : DescriptionKept p q.drainRetarder :=
  DescriptionKept.sendRetarder (h.untouched (by simp)) _

theorem considerEngage (h : DescriptionKept p q) : DescriptionKept p q.considerEngage := by
  have pruned : DescriptionKept p { q with ret := { q.ret with engagements := q.prunedEngagements } } :=
    h.untouched (by simp)
  exact h.ite (h.ite ((DescriptionKept.retargetRetarder (h.untouched (by simp))).ite
    (pruned.ite (h.untouched (by simp)))))

theorem judgeRelease (h : DescriptionKept p q) (want command : Nat) :
    DescriptionKept p (q.judgeRelease want command) := by
  unfold Part.judgeRelease
  split
  · split
    · exact h.untouched (by simp)
    · exact h.drainRetarder.ite h
  · exact h.untouched (by simp)

theorem takeWant (h : DescriptionKept p q) (want command : Nat) : DescriptionKept p (q.takeWant want command) := by
  have recorded : DescriptionKept p { q with ret := { q.ret with handedCommand := command } } := h.untouched (by simp)
  have retargeted := recorded.retargetRetarder.ite recorded (c := q.ret.state = .active)
  unfold Part.takeWant
  dsimp only
  split
  · exact retargeted.considerEngage.ite retargeted
  · split
    · exact retargeted.drainRetarder.ite retargeted
    · exact retargeted.drainRetarder
    · exact retargeted
    · exact retargeted
    · exact retargeted
  · exact retargeted.judgeRelease want command
  · exact retargeted
  · exact retargeted

theorem retarderWantTaken (h : DescriptionKept p q) : DescriptionKept p q.retarderWantTaken := by
  unfold Part.retarderWantTaken
  split
  · exact (h.taken _).takeWant _ _
  · exact h

theorem takeNodeState (h : DescriptionKept p q) (st : NodeState) : DescriptionKept p (q.takeNodeState st) := by
  unfold Part.takeNodeState
  split
  · exact h.enterRetarder _
  iterate 3 exact h
  iterate 2 exact h.drainRetarder
  iterate 2 exact h
  · exact h.enterRetarder _
  iterate 3 exact h
  iterate 3 exact h.drainRetarder
  iterate 2 exact h

theorem retarderNodeStateTaken (h : DescriptionKept p q) : DescriptionKept p q.retarderNodeStateTaken := by
  unfold Part.retarderNodeStateTaken
  split
  · exact (h.taken _).takeNodeState _
  · exact h

theorem loseRetarder (h : DescriptionKept p q) : DescriptionKept p q.loseRetarder := by
  unfold Part.loseRetarder
  split
  · exact h.enterRetarder _
  · exact h.enterRetarder _
  · exact h.enterRetarder _
  · exact h
  · exact h

theorem retarderNodeLostTaken (h : DescriptionKept p q) : DescriptionKept p q.retarderNodeLostTaken := by
  unfold Part.retarderNodeLostTaken
  split
  · exact (h.taken _).loseRetarder.chooseNext
  · exact h

theorem fillTimerExpiry (h : DescriptionKept p q) : DescriptionKept p q.fillTimerExpiry :=
  ((h.faultOccurs _ _).enterRetarder _).ite h

theorem drainTimerExpiry (h : DescriptionKept p q) : DescriptionKept p q.drainTimerExpiry :=
  ((h.faultOccurs _ _).enterRetarder _).ite h

theorem readmitRetarder (h : DescriptionKept p q) : DescriptionKept p q.readmitRetarder :=
  ((h.enterRetarder _).ite h.drainRetarder).ite h

theorem stopRetarder (h : DescriptionKept p q) : DescriptionKept p q.stopRetarder := by
  have handed : DescriptionKept p { q with ret := { q.ret with handedCommand := 0 } } := h.untouched (by simp)
  unfold Part.stopRetarder
  dsimp only
  split
  · exact handed.drainRetarder
  · exact handed.drainRetarder
  · exact handed
  · exact handed
  · exact handed

/-! ### Mode Control -/

theorem stopPasses (h : DescriptionKept p q) : DescriptionKept p q.stopPasses :=
  (DescriptionKept.stopRetarder (h.untouched (by simp))).stopChannels

theorem actOnModeChange (h : DescriptionKept p q) (old : Mode) : DescriptionKept p (q.actOnModeChange old) := by
  unfold Part.actOnModeChange
  split
  · exact DescriptionKept.ite (h.untouched (by simp)) (h.untouched (by simp))
  · exact h.untouched (by simp)
  · exact h.stopPasses.untouched (by simp)
  · exact h.ite (h.stopPasses.untouched (by simp))
  · exact h.stopPasses.untouched (by simp)

theorem changeMode (h : DescriptionKept p q) (new : Mode) : DescriptionKept p (q.changeMode new) :=
  h.ite (DescriptionKept.actOnModeChange (h.untouched (by simp)) _).needCapacities

theorem start (h : DescriptionKept p q) : DescriptionKept p q.start.1 := by
  unfold Part.start
  split
  · exact h
  · exact h
  · exact h
  · split
    · exact h
    · split
      · exact h.changeMode _
      · exact h
  · split
    · exact h
    · split
      · exact h.changeMode _
      · exact h

theorem standDown (h : DescriptionKept p q) : DescriptionKept p q.standDown.1 := by
  unfold Part.standDown
  split
  · exact DescriptionKept.changeMode (h.untouched (by simp)) _
  · exact h
  · exact h.changeMode _
  · exact h
  · exact h

theorem modeOnStale (h : DescriptionKept p q) : DescriptionKept p q.modeOnStale := by
  unfold Part.modeOnStale
  split
  · exact DescriptionKept.changeMode (h.untouched (by simp)) _
  · exact h.changeMode _
  · exact h.untouched (by simp)
  · exact h
  · exact h

theorem modeOnFreshAgain (h : DescriptionKept p q) : DescriptionKept p q.modeOnFreshAgain :=
  DescriptionKept.ite (h.untouched (by simp)) h

theorem modeOnValidRecord (h : DescriptionKept p q) (pedal : Nat) : DescriptionKept p (q.modeOnValidRecord pedal) :=
  (DescriptionKept.changeMode (h.untouched (by simp)) _).ite h

theorem recoveryExpiry (h : DescriptionKept p q) : DescriptionKept p q.recoveryExpiry :=
  (DescriptionKept.changeMode (h.untouched (by simp)) _).ite h

theorem judgeStandDown (h : DescriptionKept p q) : DescriptionKept p q.judgeStandDown := by
  unfold Part.judgeStandDown
  split
  · exact (h.changeMode _).ite h
  · exact h

theorem pass (h : DescriptionKept p q) : DescriptionKept p q.pass :=
  (DescriptionKept.judgeStandDown (h.untouched (by simp))).ite h

/-! ### Motion Input -/

theorem motionTimerExpiry (h : DescriptionKept p q) : DescriptionKept p q.motionTimerExpiry := by
  have stale : DescriptionKept p { q with motion := { q.motion with
    freshness := .stale, timer := none, stalePresent := true } } := h.untouched (by simp)
  exact (stale.ite (stale.faultOccurs _ _)).modeOnStale.ite h

theorem judgeSpeedMissing (h : DescriptionKept p q) (wheels : Axles (Option Nat)) (a : Axle) :
    DescriptionKept p (q.judgeSpeedMissing wheels a) := by
  unfold Part.judgeSpeedMissing
  dsimp only
  split
  · exact DescriptionKept.faultOccurs (h.untouched (by simp)) _ _
  · exact DescriptionKept.faultEnds (h.untouched (by simp)) _ _
  · exact h
  · exact h

theorem takeValid (h : DescriptionKept p q) (l : LimitedRecord) (v : Nat) : DescriptionKept p (q.takeValid l v) := by
  have published : DescriptionKept p (((q.publishRoad l v).refresh.handOn
      (.slipRecord v ((q.publishRoad l v).refresh.driveSpeed l.wheels)
        (!((q.publishRoad l v).refresh.nonDrivenSpeeds l.wheels).isEmpty))).needCapacities) :=
    h.untouched (by simp [Part.publishRoad])
  exact (published.modeOnFreshAgain.ite published).modeOnValidRecord _

theorem publishEngine (h : DescriptionKept p q) (l : LimitedRecord) : DescriptionKept p (q.publishEngine l) :=
  h.untouched ⟨rfl, rfl, rfl, rfl⟩

theorem driveCheck (h : DescriptionKept p q) (reference : Option Nat) (engine : Nat) (gear : Gear) (clutch : Bool) :
    DescriptionKept p (q.driveCheck reference engine gear clutch) := h.untouched (by simp)

theorem takeMotion (h : DescriptionKept p q) (record : MotionRecord) : DescriptionKept p (q.takeMotion record) := by
  have counted : DescriptionKept p q.countClamped := h.untouched (by simp)
  unfold Part.takeMotion
  split
  · exact counted
  · have judged := DescriptionKept.foldl (fun _ a h => h.judgeSpeedMissing (q.limitRecord record).wheels a)
      (counted.ite h (c := (q.limitRecord record).changed))
    dsimp only
    split
    · exact ((((judged _).publishEngine _).driveCheck _ _ _ _).handOn _).takeValid _ _
    · exact (((judged _).publishEngine _).driveCheck _ _ _ _).handOn _

/-! ### Clears -/

theorem readmitNamed (h : DescriptionKept p q) (mask : BitVec 16) : DescriptionKept p (q.readmitNamed mask) := by
  have retarder := h.readmitRetarder.ite h (c := maskNames mask .retarder)
  have flap : ∀ {r}, DescriptionKept p r → DescriptionKept p r.readmitFlap := fun h => h.untouched (by simp)
  exact ((flap retarder).ite retarder).foldl (fun _ a h => (h.readmitChannel a).ite h) _

theorem applyClear (h : DescriptionKept p q) (mask : BitVec 16) : DescriptionKept p (q.applyClear mask) := by
  have cleared : DescriptionKept p { q with faults := { q.faults with
    entries := q.faults.entries.filter fun e => !e.clearedBy mask } } := h.untouched (by simp)
  exact (DescriptionKept.ite (cleared.untouched (by simp)) cleared).readmitNamed mask

theorem applyHeld (h : DescriptionKept p q) (c : HeldClear) : DescriptionKept p (q.applyHeld c) :=
  (DescriptionKept.applyClear (h.untouched (by simp)) _).answer _ _ _

theorem noLongerWaiting (h : DescriptionKept p q) (gone : Nat → Bool) :
    DescriptionKept p (q.noLongerWaiting gone) := by
  unfold Part.noLongerWaiting
  split
  · exact (h.applyHeld _).ite (h.untouched (by simp))
  · exact h

theorem clearFaults (h : DescriptionKept p q) (tag : Byte) (mask : BitVec 16) :
    DescriptionKept p (q.clearFaults tag mask) := by
  unfold Part.clearFaults
  dsimp only
  (repeat' split)
  · exact h.answer _ _ _
  · exact h.answer _ _ _
  · exact (h.applyClear mask).answer _ _ _
  · exact DescriptionKept.foldl (fun _ addr h => h.post addr .poll) (h.untouched (by simp)) _

theorem holdoffExpiry (h : DescriptionKept p q) : DescriptionKept p q.holdoffExpiry := by
  unfold Part.holdoffExpiry
  split
  · exact (h.applyHeld _).ite h
  · exact h

/-! ### Transactions of the actuator link -/

/-- A change of an entry of the node table that keeps its address and its use. -/
theorem setNode (h : DescriptionKept p q) (addr : Nat) {f : NodeEntry → NodeEntry}
    (key : ∀ e, ((f e).addr, (f e).use) = (e.addr, e.use)) :
    DescriptionKept p (q.setNode addr f) := by
  refine h.linkChanged (by simp) ?_ fun r hr => .inl ⟨r, hr, rfl⟩
  simp only [Part.setNode, List.map_map]
  refine List.map_congr_left fun e _ => ?_
  simp only [Function.comp_apply]
  split
  · exact key e
  · rfl

theorem handPresence (h : DescriptionKept p q) (use : NodeUse) (present : Bool) :
    DescriptionKept p (q.handPresence use present) := h.untouched (by simp)

theorem handReported (h : DescriptionKept p q) (use : NodeUse) : DescriptionKept p (q.handReported use) := by
  unfold Part.handReported
  split
  · exact h.judgeChannel _
  · exact h.needCapacities

theorem endTransaction (h : DescriptionKept p q) : DescriptionKept p q.endTransaction :=
  h.linkChanged (by simp) rfl fun r hr => .inl ⟨r, hr, rfl⟩

theorem afterTransaction (h : DescriptionKept p q) (addr : Nat) : DescriptionKept p (q.afterTransaction addr) :=
  ((h.noLongerWaiting _).ite h).chooseNext

theorem judgeFaultCode (h : DescriptionKept p q) (e : NodeEntry) (code : Nat) :
    DescriptionKept p (q.judgeFaultCode e code) := by
  have reported : DescriptionKept p (q.setNode e.addr fun e => { e with reported := true, faultCode := code }) :=
    h.setNode _ fun _ => rfl
  have ended : DescriptionKept p (q.setNode e.addr fun e => { e with reported := false }) := h.setNode _ fun _ => rfl
  unfold Part.judgeFaultCode
  exact DescriptionKept.ite (((ended.faultEnds _ _).handReported _).ite h)
    (reported.ite ((reported.faultOccurs _ _).handReported _))

theorem handPayload (h : DescriptionKept p q) (e : NodeEntry) (ans : NodeAnswer) :
    DescriptionKept p (q.handPayload e ans) := h.untouched (by simp)

theorem takeGoodAnswer (h : DescriptionKept p q) (e : NodeEntry) (ans : NodeAnswer) :
    DescriptionKept p (q.takeGoodAnswer e ans) := by
  have answered : DescriptionKept p (q.setNode e.addr fun e =>
    { e with misses := 0, poll := ⟨q.now, q.setting idPollInterval⟩, presence := .present, lostPresent := false }) :=
    h.setNode _ fun _ => rfl
  have found := (answered.faultEnds (.node e.addr) .nodeLost).ite answered (c := e.lostPresent)
  exact ((found.ite (found.handPresence _ _)).judgeFaultCode _ _).handPayload _ _

theorem requeueMissed (h : DescriptionKept p q) {r : Request} (node : ∃ e ∈ q.link.nodes, e.addr = r.addr) :
    DescriptionKept p (q.requeueMissed r) := by
  refine DescriptionKept.ite (h.linkChanged (by simp) rfl fun x hx => ?_) h
  obtain hx | hx := List.mem_append.mp hx
  · exact .inl ⟨x, hx, rfl⟩
  · obtain rfl := List.mem_singleton.mp hx
    exact .inr node

theorem takeMiss (h : DescriptionKept p q) {e : NodeEntry} {r : Request} (node : q.node r.addr = some e) :
    DescriptionKept p (q.takeMiss e r) := by
  have counted : DescriptionKept q (q.setNode e.addr fun x => { x with misses := min (e.misses + 1) 3 }) :=
    (DescriptionKept.refl q).setNode _ fun _ => rfl
  have known := (exists_node_congr counted.nodes r.addr).mpr ⟨e, Part.node_mem node⟩
  have requeued := h.trans (counted.requeueMissed known)
  have lost : DescriptionKept p (((q.setNode e.addr fun x => { x with misses := min (e.misses + 1) 3 }).requeueMissed
    r).setNode e.addr fun e => { e with presence := .lost, lostPresent := true }) := requeued.setNode _ fun _ => rfl
  exact DescriptionKept.ite ((lost.ite (lost.faultOccurs _ _)).handPresence _ _) requeued

theorem completeTransaction (h : DescriptionKept p q) (t : Transaction) (received : Option (List Byte)) :
    DescriptionKept p (q.completeTransaction t received) := by
  have ended := h.endTransaction
  unfold Part.completeTransaction
  dsimp only
  split
  · exact ended.chooseNext
  · split
    · exact ended.chooseNext
    · next e node =>
      refine DescriptionKept.afterTransaction ?_ _
      split
      · exact ended.takeGoodAnswer _ _
      · exact ended.takeMiss node

theorem actuatorAnswer (h : DescriptionKept p q) (received : List Byte) :
    DescriptionKept p (q.actuatorAnswer received) := by
  unfold Part.actuatorAnswer
  split
  · split
    · exact (h.completeTransaction _ _).ite h
    · exact h
  · exact h
  · exact h

theorem answerTimeout (h : DescriptionKept p q) : DescriptionKept p q.answerTimeout := by
  unfold Part.answerTimeout
  split
  · exact (h.completeTransaction _ _).ite h
  · exact h
  · exact h

theorem commandFrameSent (h : DescriptionKept p q) : DescriptionKept p q.commandFrameSent := by
  unfold Part.commandFrameSent
  split
  · exact DescriptionKept.ite (h.linkChanged (by simp) rfl fun r hr => .inl ⟨r, hr, rfl⟩) h
  · exact DescriptionKept.ite (h.linkChanged (by simp) rfl fun r hr => .inl ⟨r, hr, rfl⟩) h
  · exact h

theorem abandonedWindowEnd (h : DescriptionKept p q) : DescriptionKept p q.abandonedWindowEnd := by
  unfold Part.abandonedWindowEnd
  split
  · exact h.endTransaction.chooseNext.ite h
  · exact h
  · exact h

theorem pollTimerExpiry (h : DescriptionKept p q) (addr : Nat) : DescriptionKept p (q.pollTimerExpiry addr) := by
  unfold Part.pollTimerExpiry
  split
  · have restarted : DescriptionKept p (q.setNode addr fun e => { e with poll := ⟨q.now, q.setting idPollInterval⟩ }) :=
      h.setNode _ fun _ => rfl
    exact (restarted.post _ _).ite h
  · exact h

end DescriptionKept

end Sys2Proof.Machine
end

section
/-! PROOF. What the requests, the events of the other blocks and the vehicle link leave of the coach description. -/

namespace Sys2Proof.Machine.DescriptionKept

variable {p q r : Part}

/-! ### Requests of the Apportioner, the Thermal Model and the Demand Arbiter -/

theorem maskChange (h : DescriptionKept p q) (flags : Axles Nat) : DescriptionKept p (q.setMask flags).1 := by
  unfold Part.setMask
  dsimp only
  (repeat' split)
  · exact h
  · exact h
  · exact h
  · exact DescriptionKept.foldl (fun _ a h => (h.withdrawShare a).ite h)
      (DescriptionKept.needCapacities (h.untouched (by simp))) _

theorem informTierChange (h : DescriptionKept p q) : DescriptionKept p q.informTierChange :=
  h.needCapacities.untouched (by simp [Part.informTierChange])

theorem seedTemps (h : DescriptionKept p q) (temps : List Int) : DescriptionKept p (q.seedTemps temps).1 := by
  have seeded : DescriptionKept p { q with thermal := { q.thermal with axles := .ofFn (q.seededAxle temps) } } :=
    h.untouched (by simp)
  unfold Part.seedTemps
  dsimp only
  (repeat' split)
  · exact h
  · exact h
  · exact h
  · exact h
  · exact seeded.informTierChange
  · exact seeded

theorem holdSet (h : DescriptionKept p q) (setpoint : Nat) : DescriptionKept p (q.holdSet setpoint).1 := by
  unfold Part.holdSet
  split
  · exact h
  · exact h.untouched (by simp)

theorem holdCancel (h : DescriptionKept p q) : DescriptionKept p q.holdCancel.1 :=
  h.untouched (by simp [Part.holdCancel, Part.cancelHold])

theorem setAssists (h : DescriptionKept p q) (l : List AssistEntry) : DescriptionKept p (q.setAssists l) :=
  h.untouched (by simp)

theorem assist (h : DescriptionKept p q) (requester decel hold : Nat) :
    DescriptionKept p (q.assist requester decel hold).1 := by
  unfold Part.assist
  dsimp only
  (repeat' split)
  · exact h
  · exact h
  · exact h.setAssists _
  · exact h
  · exact h.setAssists _

theorem assistCancel (h : DescriptionKept p q) (requester : Nat) :
    DescriptionKept p (q.assistCancel requester).1 := by
  unfold Part.assistCancel
  (repeat' split)
  · exact h
  · exact h.setAssists _
  · exact h

theorem mass (h : DescriptionKept p q) (kg : Nat) : DescriptionKept p (q.mass kg).1 := by
  unfold Part.mass
  split
  · exact h
  · exact h.untouched (by simp)

theorem tableRead (h : DescriptionKept p q) (n first count : Nat) :
    DescriptionKept p (q.tableRead n first count).1 := by
  unfold Part.tableRead
  (repeat' split) <;> exact h

/-! ### Hand-offs taken and timers that expire -/

theorem speedHoldUpdate (h : DescriptionKept p q) : DescriptionKept p q.speedHoldUpdate := by
  unfold Part.speedHoldUpdate
  split
  · exact h.untouched (by simp)
  · exact h

theorem slipEvaluation (h : DescriptionKept p q) : DescriptionKept p q.slipEvaluation := by
  unfold Part.slipEvaluation
  split
  · exact h.untouched (by simp)
  · exact h

theorem capacityRecomputation (h : DescriptionKept p q) : DescriptionKept p q.capacityRecomputation := by
  unfold Part.capacityRecomputation
  split
  · exact h.untouched (by simp)
  · exact h

theorem assistExpiry (h : DescriptionKept p q) (requester : Nat) : DescriptionKept p (q.assistExpiry requester) :=
  (h.setAssists _).ite h

theorem statusReport (h : DescriptionKept p q) : DescriptionKept p q.statusReport :=
  DescriptionKept.ite (h.untouched (by simp [Part.clearReported])) h

theorem rotationTimerExpiry (h : DescriptionKept p q) : DescriptionKept p q.rotationTimerExpiry :=
  DescriptionKept.ite (h.untouched (by simp [Part.startRotationTimer])) h

theorem thermalUpdate (h : DescriptionKept p q) : DescriptionKept p q.thermalUpdate := by
  unfold Part.thermalUpdate
  split
  · exact DescriptionKept.ite (DescriptionKept.ite (DescriptionKept.informTierChange (h.untouched (by simp)))
      (h.untouched (by simp))) h
  · exact h

theorem exhaustWantTaken (h : DescriptionKept p q) : DescriptionKept p q.exhaustWantTaken := by
  unfold Part.exhaustWantTaken
  split
  · exact h.untouched (by simp)
  · exact h.untouched (by simp)
  · exact h

theorem takeWaitingSwitch (h : DescriptionKept p q) : DescriptionKept p q.takeWaitingSwitch := h.untouched (by simp)

theorem flapSwitchChange (h : DescriptionKept p q) (e : SwitchEvent) : DescriptionKept p (q.flapSwitchChange e) := by
  have levelled : DescriptionKept p
      (if e.closed = q.fswClosed then q else { q.takeWaitingSwitch with fswClosed := e.closed }) :=
    h.ite (h.takeWaitingSwitch.untouched (by simp))
  exact levelled.takeWaitingSwitch.ite levelled

theorem flapTimerExpiry (h : DescriptionKept p q) : DescriptionKept p q.flapTimerExpiry := by
  have stopped : DescriptionKept p (q.setFlap { q.flap with timer := none }) := h.untouched (by simp)
  unfold Part.flapTimerExpiry
  split
  · split
    · split
      · exact h.untouched (by simp)
      · exact h.untouched (by simp)
      · exact stopped
      · exact stopped
      · exact stopped
    · exact stopped
  · exact h

/-! ### The vehicle link -/

theorem transmitFrameSent (h : DescriptionKept p q) : DescriptionKept p q.transmitFrameSent :=
  h.untouched ⟨rfl, rfl, rfl, rfl⟩

theorem setReceive (h : DescriptionKept p q) (rx : Option (List Byte)) : DescriptionKept p (q.setReceive rx) :=
  h.untouched (by simp)

theorem abandonFrame (h : DescriptionKept p q) : DescriptionKept p q.abandonFrame := h.untouched (by simp)

theorem huntByte (h : DescriptionKept p q) (b : Byte) : DescriptionKept p (q.huntByte b) := (h.setReceive _).ite h

theorem tick (h : DescriptionKept p q) : DescriptionKept p q.tick := h.untouched (by simp)

end Sys2Proof.Machine.DescriptionKept
end

section
/-! PROOF. Every step keeps the coach description sound, and the chassis record until a cold reset (R3 to R9, R12,
R155 to R157). -/

namespace Sys2Proof.Machine

open Safety

/-! ## A sound coach description -/

/-- The laws of the coach description (R3, R7, R9, R12, R155 to R157). -/
structure DescriptionSound (p : Part) : Prop where
  settings : SettingsInRange p
  chassis : ChassisChecked p
  tables : TablesHeld p
  nodes : NodesMatchRoutes p
  queue : QueueAddressed p

/-- What every operation but a cold reset does to the coach description: it stays sound, and an accepted record
stands (R5). -/
structure Carries (p q : Part) : Prop where
  sound : DescriptionSound p → DescriptionSound q
  record : ∀ x, p.store.chassis = some x → q.store.chassis = some x

theorem nodesMatchRoutes_congr {p q : Part} (chassis : q.store.chassis = none → p.store.chassis = none)
    (routes : q.chan.map (·.route) = p.chan.map (·.route)) (retRoute : q.retRoute = p.retRoute)
    (nodes : q.link.nodes.map (fun e => (e.addr, e.use)) = p.link.nodes.map fun e => (e.addr, e.use))
    (h : NodesMatchRoutes p) : NodesMatchRoutes q := by
  obtain ⟨table, empty⟩ := h
  refine ⟨by rw [nodes, table, routes, retRoute], fun none_ => ?_⟩
  obtain ⟨unrouted, nil⟩ := empty (chassis none_)
  refine ⟨retRoute.trans unrouted, ?_⟩
  rw [nil, List.map_nil, List.map_eq_nil_iff] at nodes
  exact nodes

theorem DescriptionKept.carries {p q : Part} (h : DescriptionKept p q) : Carries p q where
  sound s :=
    { settings := by simpa only [SettingsInRange, h.store] using s.settings
      chassis := by simpa only [ChassisChecked, h.store] using s.chassis
      tables := tablesHeld_congr h.store s.tables
      nodes := nodesMatchRoutes_congr (fun none_ => h.store ▸ none_) h.routes h.retRoute h.nodes s.nodes
      queue := h.queue s.queue }
  record x hx := by rw [h.store, hx]

namespace Carries

variable {p q r : Part}

theorem refl (p : Part) : Carries p p := ⟨id, fun _ => id⟩

theorem trans (h : Carries p q) (h' : Carries q r) : Carries p r :=
  ⟨fun s => h'.sound (h.sound s), fun x hx => h'.record x (h.record x hx)⟩

theorem kept (h : Carries p q) (h' : DescriptionKept q r) : Carries p r := h.trans h'.carries

/-- An operation that leaves the routes, the node table and the queue alone: the laws of the Table Store remain. -/
theorem ofStore (record : ∀ x, p.store.chassis = some x → q.store.chassis = some x)
    (settings : SettingsInRange p → SettingsInRange q) (chassis : ChassisChecked p → ChassisChecked q)
    (tables : TablesHeld p → TablesHeld q)
    (same : q.chan = p.chan ∧ q.retRoute = p.retRoute ∧ q.link = p.link) : Carries p q := by
  obtain ⟨chan, retRoute, link⟩ := same
  have none_ : q.store.chassis = none → p.store.chassis = none := fun h =>
    Option.eq_none_iff_forall_not_mem.mpr fun x hx => nomatch h.symm.trans (record x hx)
  exact
    { sound := fun s =>
        { settings := settings s.settings
          chassis := chassis s.chassis
          tables := tables s.tables
          nodes := nodesMatchRoutes_congr none_ (by rw [chan]) retRoute (by rw [link]) s.nodes
          queue := by simpa only [QueueAddressed, link] using s.queue }
      record }

/-- An operation on the tables alone. -/
theorem ofTables (tables : TablesHeld p → TablesHeld q)
    (same : q.store.chassis = p.store.chassis ∧ q.store.settings = p.store.settings ∧ q.chan = p.chan ∧
      q.retRoute = p.retRoute ∧ q.link = p.link) : Carries p q := by
  obtain ⟨chassis, settings, rest⟩ := same
  exact ofStore (fun x hx => chassis.trans hx) (by simp only [SettingsInRange, settings, imp_self])
    (by simp only [ChassisChecked, chassis, imp_self]) tables rest

end Carries

/-! ## The requests of the Table Store -/

theorem carries_settingsRequest (p : Part) (pairs : List (Nat × Nat)) : Carries p (p.settingsRequest pairs).1 := by
  by_cases len : pairs.length < 1 ∨ 12 < pairs.length
  · rw [Part.settingsRequest_bad_length len]
    exact .refl p
  · obtain ⟨h1, h12⟩ : 1 ≤ pairs.length ∧ pairs.length ≤ 12 := by omega
    by_cases mode : p.control.mode = .config ∨ p.control.mode = .standby
    · by_cases known : ∀ y ∈ pairs, 1 ≤ y.1 ∧ y.1 ≤ 39
      · rw [Part.settingsRequest_applied h1 h12 mode known]
        exact .ofStore (fun _ => id) (fun h => InRanges.settingsAfter h known) id id ⟨rfl, rfl, rfl⟩
      · rw [Part.settingsRequest_of_mode h1 h12 mode]
        split
        · exact .refl p
        · next none_ =>
          refine absurd ?_ known
          simpa [List.findIdx?_eq_none_iff, inRange_iff] using none_
    · obtain ⟨config, standby⟩ := not_or.mp mode
      rw [Part.settingsRequest_wrong_mode h1 h12 config standby]
      exact .refl p

theorem carries_tableOpen (p : Part) (n start : Nat) : Carries p (p.tableOpen n start).1 := by
  unfold Part.tableOpen
  split
  · exact .refl p
  · split
    · exact .refl p
    · next id _ =>
      split
      · next fits =>
        have store := p.openTable_store id start
        refine .ofTables (fun h => tablesHeld_congr store (tablesHeld_opened h fits)) ?_
        simp [store]
      · exact .refl p

theorem carries_tableData (p : Part) (fields : List Nat) : Carries p (p.tableData fields).1 := by
  by_cases len : fields.length < 1 ∨ 8 < fields.length
  · rw [Part.tableData_bad_length len]
    exact .refl p
  · obtain ⟨h1, h8⟩ : 1 ≤ fields.length ∧ fields.length ≤ 8 := by omega
    cases hc : p.store.cursor with
    | none =>
      rw [Part.tableData_none_open h1 h8 hc]
      exact .refl p
    | some c =>
      cases he : entriesOf c.table fields with
      | none =>
        rw [Part.tableData_no_entries h1 h8 hc he]
        exact .refl p
      | some es =>
        by_cases fits : c.index + es.length ≤ c.table.slots
        · rw [Part.tableData_writes h1 h8 hc he fits]
          exact .ofTables (fun h => tablesHeld_written h hc fits) (by simp)
        · rw [Part.tableData_overruns h1 h8 hc he (by omega)]
          exact .refl p

theorem carries_tableClose (p : Part) : Carries p p.tableClose.1 := by
  cases hc : p.store.cursor with
  | none =>
    rw [Part.tableClose_none_open hc]
    exact .refl p
  | some c =>
    cases hk : firstOffending c.table (p.table c.table) c.index with
    | some k =>
      rw [Part.tableClose_offending hc hk]
      exact .ofTables (fun h => tablesHeld_closed_invalid h hc) (by simp)
    | none =>
      rw [Part.tableClose_passing hc hk]
      have passed : Carries p (p.passed c) := .ofTables (fun h => tablesHeld_passed h hc hk) (by simp)
      exact passed.kept ((DescriptionKept.refl _).untouched (by simp))

/-- With no axle and no retarder routed, no address has a use. -/
theorem useOf_unrouted (x : Nat) : useOf ((Axles.replicate Channel.created).map (·.route)) none x = none :=
  rfl

/-- The record that passed the checks is accepted while nothing is routed: the node table is empty before and after. -/
theorem carries_acceptChassis {p : Part} {c : ChassisRecord} (unset : p.store.chassis = none)
    (checks : chassisFault c = none) (len : c.axles.length = c.axleCount) : Carries p (p.acceptChassis c) where
  sound s := by
    obtain ⟨unrouted, nil⟩ := s.nodes.2 unset
    have noUse := funext useOf_unrouted
    exact
      { settings := by simpa [SettingsInRange] using s.settings
        chassis := by simp [ChassisChecked, checks, len]
        tables := tablesHeld_congr (p := { p with store := { p.store with chassis := some c } }) (by simp) s.tables
        nodes := by simp [NodesMatchRoutes, unrouted, nil, noUse]
        queue := by simpa [QueueAddressed] using s.queue }
  record x hx := nomatch unset.symm.trans hx

theorem carries_chassisRequest (p : Part) (c : ChassisRecord) : Carries p (p.chassisRequest c).1 := by
  by_cases inBounds : c.axles.length < 2 ∨ 4 < c.axles.length
  · rw [Part.chassisRequest_bad_length inBounds]
    exact .refl p
  · obtain ⟨h2, h4⟩ : 2 ≤ c.axles.length ∧ c.axles.length ≤ 4 := by omega
    by_cases mode : p.control.mode = .config
    · by_cases unset : p.store.chassis = none
      · rw [Part.chassisRequest_of_unset h2 h4 mode unset]
        split
        · exact .refl p
        · split
          · exact .refl p
          · next len =>
            split
            · exact .refl p
            · next checks => exact carries_acceptChassis unset checks (not_not.mp len)
      · rw [Part.chassisRequest_already_set h2 h4 mode unset]
        exact .refl p
    · rw [Part.chassisRequest_wrong_mode h2 h4 mode]
      exact .refl p

/-! ## The warm reset (R21, R153, R165, R177) -/

@[simp] theorem Channel.warm_route (c : Channel) : c.warm.route = c.route := by
  unfold Channel.warm
  split <;> simp [*]

theorem carries_abandonTable (p : Part) : Carries p p.abandonTable :=
  .ofTables tablesHeld_abandonTable (by simp)

namespace DescriptionKept

variable {p q : Part}

theorem discardLanes (h : DescriptionKept p q) (gone : Lane → Bool) : DescriptionKept p (q.discardLanes gone) :=
  h.untouched (by simp)

theorem warmDemand (h : DescriptionKept p q) : DescriptionKept p q.warmDemand := h.untouched ⟨rfl, rfl, rfl, rfl⟩

theorem warmMotion (h : DescriptionKept p q) : DescriptionKept p q.warmMotion := h.untouched ⟨rfl, rfl, rfl, rfl⟩

theorem warmShares (h : DescriptionKept p q) : DescriptionKept p q.warmShares := h.untouched ⟨rfl, rfl, rfl, rfl⟩

theorem warmThermal (h : DescriptionKept p q) : DescriptionKept p q.warmThermal := h.untouched ⟨rfl, rfl, rfl, rfl⟩

theorem warmRetarder (h : DescriptionKept p q) : DescriptionKept p q.warmRetarder := h.untouched ⟨rfl, rfl, rfl, rfl⟩

theorem flapAtWarmReset (h : DescriptionKept p q) : DescriptionKept p q.flapAtWarmReset := h.untouched (by simp)

theorem warmChannels (h : DescriptionKept p q) : DescriptionKept p q.warmChannels :=
  h.trans ⟨rfl, rfl, Axles.ext_get fun a => by simp [Part.warmChannels], rfl, id⟩

/-- The warm reset keeps every entry of the node table, and empties the queue. -/
theorem warmLink (h : DescriptionKept p q) : DescriptionKept p q.warmLink :=
  h.linkChanged ⟨rfl, rfl, rfl⟩ (by simp [Part.warmLink]) (by simp [Part.warmLink])

theorem warmClear (h : DescriptionKept p q) : DescriptionKept p q.warmClear := h.untouched ⟨rfl, rfl, rfl, rfl⟩

theorem warmMode (h : DescriptionKept p q) : DescriptionKept p q.warmMode :=
  DescriptionKept.ite (h.untouched ⟨rfl, rfl, rfl, rfl⟩) (h.untouched ⟨rfl, rfl, rfl, rfl⟩)

theorem retotal (h : DescriptionKept p q) : DescriptionKept p q.retotal := h.untouched (by simp)

theorem judgeAlarm (h : DescriptionKept p q) : DescriptionKept p q.judgeAlarm := h.untouched (by simp)

theorem warmPosts (h : DescriptionKept p q) : DescriptionKept p q.warmPosts :=
  (h.sendRetarder _).foldl (fun _ a h => h.postTarget a) _

end DescriptionKept

/-- The open table is abandoned; nothing else of the warm reset touches the coach description. -/
theorem carries_resetWarm (p : Part) (tag : Byte) : Carries p (p.resetWarm tag) := by
  have answered : Carries p (p.answer kindResetWarm tag .done) := ((DescriptionKept.refl p).answer _ _ _).carries
  have blocks := (DescriptionKept.refl (p.answer kindResetWarm tag .done).abandonTable).warmDemand.warmMotion.warmShares
  have reset := blocks.warmThermal.warmRetarder.flapAtWarmReset.warmChannels.warmLink.warmClear
  have judged := (reset.discardLanes fun l => l.ofPass || l.ofLink).warmMode.retotal.judgeAlarm.foldl
    (fun _ a h => h.judgeChannel a) Axle.all
  exact (answered.trans (carries_abandonTable _)).kept judged.needCapacities.warmPosts

end Sys2Proof.Machine
end

section
/-! PROOF. ROUTE (R140, R141, R156): the routes become those asked for, the node table holds an entry for each of them,
and a queued request whose node left the table goes with it. -/

namespace Sys2Proof.Machine

open Safety

/-! ## The changed channels are reset (R141) -/

@[simp] theorem Part.resetChannel_untouched (p : Part) (a : Axle) (x : Route) :
    (p.resetChannel a x).store = p.store ∧ (p.resetChannel a x).retRoute = p.retRoute ∧
      (p.resetChannel a x).link = p.link := by
  unfold Part.resetChannel
  dsimp only
  split <;> simp

theorem Part.resetChannel_route (p : Part) (a b : Axle) (x : Route) :
    ((p.resetChannel a x).chan.get b).route = if b = a then x else (p.chan.get b).route := by
  unfold Part.resetChannel
  dsimp only
  by_cases same : b = a <;> split <;> simp [same]

/-- The part with the channels of a list reset to the routes asked for. -/
def Part.channelsReset (p : Part) (l : List Axle) (routes : Axles Route) : Part :=
  l.foldl (fun p a => p.resetChannel a (routes.get a)) p

@[simp] theorem Part.channelsReset_untouched (p : Part) (l : List Axle) (routes : Axles Route) :
    (p.channelsReset l routes).store = p.store ∧ (p.channelsReset l routes).retRoute = p.retRoute ∧
      (p.channelsReset l routes).link = p.link := by
  induction l generalizing p with
  | nil => exact ⟨rfl, rfl, rfl⟩
  | cons a l ih =>
    obtain ⟨store, retRoute, link⟩ := ih (p.resetChannel a (routes.get a))
    exact ⟨store.trans (by simp), retRoute.trans (by simp), link.trans (by simp)⟩

theorem Part.channelsReset_route (p : Part) (l : List Axle) (routes : Axles Route) (b : Axle) :
    ((p.channelsReset l routes).chan.get b).route = if b ∈ l then routes.get b else (p.chan.get b).route := by
  induction l generalizing p with
  | nil => rfl
  | cons a l ih =>
    refine (ih (p.resetChannel a (routes.get a))).trans ?_
    by_cases same : b = a
    · simp [Part.resetChannel_route, same]
    · simp [Part.resetChannel_route, same]

/-- Once the changed channels are reset, the routes are those asked for. -/
theorem Part.channelsReset_changed_routes (p : Part) (routes : Axles Route) :
    (p.channelsReset (p.changedAxles routes) routes).chan.map (·.route) = routes := by
  refine Axles.ext_get fun b => ?_
  rw [Axles.get_map, Part.channelsReset_route]
  split
  · rfl
  · next unchanged => simpa [Part.changedAxles, Axles.mem_all] using unchanged

/-! ## The node table is compared with the routes (R156) -/

theorem Part.removeNode_untouched (p : Part) (e : NodeEntry) :
    (p.removeNode e).store = p.store ∧ (p.removeNode e).chan = p.chan ∧ (p.removeNode e).retRoute = p.retRoute ∧
      (p.removeNode e).link.queue = p.link.queue.filter fun r => r.addr != e.addr := by
  unfold Part.removeNode
  dsimp only
  split <;> split <;> simp

/-- The part with the entries of a list removed from the node table. -/
def Part.nodesRemoved (p : Part) (gone : List NodeEntry) : Part := gone.foldl Part.removeNode p

theorem Part.nodesRemoved_untouched (p : Part) (gone : List NodeEntry) :
    (p.nodesRemoved gone).store = p.store ∧ (p.nodesRemoved gone).chan = p.chan ∧
      (p.nodesRemoved gone).retRoute = p.retRoute := by
  induction gone generalizing p with
  | nil => exact ⟨rfl, rfl, rfl⟩
  | cons e gone ih =>
    obtain ⟨store, chan, retRoute⟩ := ih (p.removeNode e)
    obtain ⟨store', chan', retRoute', -⟩ := p.removeNode_untouched e
    exact ⟨store.trans store', chan.trans chan', retRoute.trans retRoute'⟩

/-- A queued request survives when its address is none of those removed. -/
theorem Part.mem_nodesRemoved_queue {p : Part} {gone : List NodeEntry} {r : Request} :
    r ∈ (p.nodesRemoved gone).link.queue ↔ r ∈ p.link.queue ∧ ∀ e ∈ gone, r.addr ≠ e.addr := by
  induction gone generalizing p with
  | nil => simp [Part.nodesRemoved]
  | cons e gone ih =>
    have later : r ∈ ((p.removeNode e).nodesRemoved gone).link.queue ↔ _ := ih
    obtain ⟨-, -, -, queue⟩ := p.removeNode_untouched e
    rw [queue, List.mem_filter, bne_iff_ne, and_assoc] at later
    rw [List.forall_mem_cons]
    exact later

theorem Part.updateNodes_untouched (p : Part) (routes : Axles Route) (retarder : Option Nat) :
    (p.updateNodes routes retarder).store = p.store ∧ (p.updateNodes routes retarder).chan = p.chan ∧
      (p.updateNodes routes retarder).retRoute = p.retRoute :=
  p.nodesRemoved_untouched _

/-- An entry that is kept has the address's new use. -/
theorem Part.keptNode_key {p : Part} {routes : Axles Route} {retarder : Option Nat} {x : Nat} {u : NodeUse}
    (use : useOf routes retarder x = some u) (keeps : p.keepsNode routes retarder x = true) :
    (((p.node x).getD (p.newNode x u)).addr, ((p.node x).getD (p.newNode x u)).use) = (x, u) := by
  cases hn : p.node x with
  | none => rfl
  | some e =>
    obtain ⟨-, addr⟩ := Part.node_mem hn
    simp only [Part.keepsNode, hn, use, decide_eq_true_eq] at keeps
    rw [Option.getD_some, addr, keeps]

/-- The node table holds one entry for each routed address, with its use, in address order (R156). -/
theorem Part.updateNodes_table (p : Part) (routes : Axles Route) (retarder : Option Nat) :
    (p.updateNodes routes retarder).link.nodes.map (fun e => (e.addr, e.use)) =
      allAddrs.filterMap fun x => (useOf routes retarder x).map fun u => (x, u) := by
  refine List.map_filterMap.trans (List.filterMap_congr fun x _ => ?_)
  cases use : useOf routes retarder x with
  | none => rfl
  | some u =>
    rw [Option.map_some, Option.map_some]
    split
    · next keeps => exact congrArg some (Part.keptNode_key use keeps)
    · rfl

/-- An address whose entry is not kept has its entry removed, and what was queued for it with it. -/
theorem Part.keepsNode_of_mem_queue {p : Part} {routes : Axles Route} {retarder : Option Nat} {r : Request}
    (addressed : QueueAddressed p) (hr : r ∈ (p.updateNodes routes retarder).link.queue) :
    p.keepsNode routes retarder r.addr = true := by
  obtain ⟨queued, notGone⟩ := Part.mem_nodesRemoved_queue.mp hr
  obtain ⟨e, he, same⟩ := addressed r queued
  by_contra lost
  refine notGone e (List.mem_filter.mpr ⟨he, ?_⟩) same.symm
  rw [same, Bool.not_eq_true', ← Bool.not_eq_true]
  exact lost

theorem Part.updateNodes_queueAddressed {p : Part} {routes : Axles Route} {retarder : Option Nat}
    (addressed : QueueAddressed p) (inTable : ∀ e ∈ p.link.nodes, e.addr ∈ allAddrs) :
    QueueAddressed (p.updateNodes routes retarder) := by
  intro r hr
  have keeps := Part.keepsNode_of_mem_queue addressed hr
  unfold Part.keepsNode at keeps
  split at keeps
  · next e u node use =>
    obtain ⟨he, addr⟩ := Part.node_mem node
    have entered : (r.addr, u) ∈ (p.updateNodes routes retarder).link.nodes.map fun e => (e.addr, e.use) := by
      rw [Part.updateNodes_table]
      exact List.mem_filterMap.mpr ⟨r.addr, addr ▸ inTable e he, by rw [use, Option.map_some]⟩
    obtain ⟨e', he', key⟩ := List.mem_map.mp entered
    exact ⟨e', he', congrArg Prod.fst key⟩
  · cases keeps
  · cases keeps

/-! ## A ROUTE is applied -/

theorem DescriptionKept.rerouteRetarder {p q : Part} (h : DescriptionKept p q) (old : Option Nat) :
    DescriptionKept p (q.rerouteRetarder old) :=
  h.ite (DescriptionKept.loseRetarder (h.untouched (by simp))).needCapacities

/-- The part once its routes and its node table are those of a ROUTE, before the other blocks act (R141). -/
def Part.routed (p : Part) (routes : Axles Route) (retarder : Option Nat) : Part :=
  { p.channelsReset (p.changedAxles routes) routes with retRoute := retarder }.updateNodes routes retarder

theorem applyRoute_kept (p : Part) (routes : Axles Route) (retarder : Option Nat) :
    DescriptionKept (p.routed routes retarder) (p.applyRoute routes retarder) := by
  have judged := (DescriptionKept.refl (p.routed routes retarder)).foldl (fun _ a h => h.judgeChannel a)
    (p.changedAxles routes)
  have posted := judged.foldl (fun _ a h => h.postTarget a) (p.changedAxles routes)
  have rerouted := (posted.rerouteRetarder p.retRoute).chooseNext
  exact (rerouted.noLongerWaiting _).ite rerouted

theorem carries_routed {p : Part} (set : p.store.chassis ≠ none) (routes : Axles Route) (retarder : Option Nat) :
    Carries p (p.routed routes retarder) := by
  obtain ⟨resetStore, -, resetLink⟩ := p.channelsReset_untouched (p.changedAxles routes) routes
  obtain ⟨store, chan, retRoute⟩ :=
    { p.channelsReset (p.changedAxles routes) routes with retRoute := retarder }.updateNodes_untouched routes retarder
  have storeKept : (p.routed routes retarder).store = p.store := store.trans resetStore
  have routesAre : (p.routed routes retarder).chan.map (·.route) = routes :=
    (congrArg (Axles.map (·.route)) chan).trans (p.channelsReset_changed_routes routes)
  have retarderIs : (p.routed routes retarder).retRoute = retarder := retRoute
  refine ⟨fun s => ?_, fun x hx => by rw [storeKept, hx]⟩
  have inTable : ∀ e ∈ p.link.nodes, e.addr ∈ allAddrs := fun e he => by
    have key := List.mem_map_of_mem (f := fun e : NodeEntry => (e.addr, e.use)) he
    rw [s.nodes.1, List.mem_filterMap] at key
    obtain ⟨x, hx, use⟩ := key
    obtain ⟨u, -, key⟩ := Option.map_eq_some_iff.mp use
    obtain rfl : x = e.addr := congrArg Prod.fst key
    exact hx
  exact
    { settings := by simpa only [SettingsInRange, storeKept] using s.settings
      chassis := by simpa only [ChassisChecked, storeKept] using s.chassis
      tables := tablesHeld_congr storeKept s.tables
      nodes := ⟨by rw [routesAre, retarderIs]; exact Part.updateNodes_table .., fun none_ =>
        absurd (storeKept ▸ none_) set⟩
      queue := Part.updateNodes_queueAddressed (by simpa only [QueueAddressed, resetLink] using s.queue)
        (by simpa only [resetLink] using inTable) }

theorem carries_routeRequest (p : Part) (fields : Axles RouteField) (retarder : Nat) :
    Carries p (p.routeRequest fields retarder).1 := by
  unfold Part.routeRequest
  split
  · exact .refl p
  · split
    · exact .refl p
    · next set =>
      split
      · exact .refl p
      · exact (carries_routed (by simpa using set) _ _).kept (applyRoute_kept _ _ _)

end Sys2Proof.Machine
end

section
/-! PROOF. Every command carries the coach description along, and so does every step. -/

namespace Sys2Proof.Machine

open Safety

theorem Carries.answered {p q : Part} (h : Carries p q) (kind tag : Byte) (r : Reply) :
    Carries p (q.answer kind tag r) :=
  h.kept ((DescriptionKept.refl q).answer kind tag r)

/-- A request of the vehicle link: those of the Table Store and ROUTE change the coach description, the warm reset
abandons the open table, and the others keep it. -/
theorem carries_takeRequest (p : Part) (i : Instr) : Carries p (p.takeRequest i) := by
  have k := DescriptionKept.refl p
  cases i with
  | chassis tag record => exact (carries_chassisRequest p record).answered _ _ _
  | settings tag pairs => exact (carries_settingsRequest p pairs).answered _ _ _
  | tableOpen tag table start => exact (carries_tableOpen p table start).answered _ _ _
  | tableData tag fields => exact (carries_tableData p fields).answered _ _ _
  | tableClose tag => exact (carries_tableClose p).answered _ _ _
  | route tag axles retarder => exact (carries_routeRequest p axles retarder).answered _ _ _
  | resetWarm tag => exact carries_resetWarm p tag
  | tableRead tag table first count => exact ((k.tableRead table first count).answer _ _ _).carries
  | mask tag flags => exact ((k.maskChange flags).answer _ _ _).carries
  | seedTemps tag temps => exact ((k.seedTemps temps).answer _ _ _).carries
  | start tag => exact (k.start.answer _ _ _).carries
  | standDown tag => exact (k.standDown.answer _ _ _).carries
  | holdSet tag setpoint => exact ((k.holdSet setpoint).answer _ _ _).carries
  | holdCancel tag => exact (k.holdCancel.answer _ _ _).carries
  | assist tag requester decel hold => exact ((k.assist requester decel hold).answer _ _ _).carries
  | assistCancel tag requester => exact ((k.assistCancel requester).answer _ _ _).carries
  | mass tag kg => exact ((k.mass kg).answer _ _ _).carries
  | queryCapacities tag => exact (k.answer _ _ _).carries
  | queryAxles tag => exact (k.answer _ _ _).carries
  | queryFaults tag => exact (k.answer _ _ _).carries
  | queryEngagements tag => exact (k.answer _ _ _).carries
  | queryAssist tag => exact (k.answer _ _ _).carries
  | queryChassis tag => exact (k.answer _ _ _).carries
  | querySettings tag => exact (k.answer _ _ _).carries
  | queryRoute tag => exact (k.answer _ _ _).carries
  | motion record => exact (k.takeMotion record).carries
  | clearFaults tag sources => exact (k.clearFaults tag sources).carries
  | _ => exact .refl p

/-! ## Frames (R179, R180) -/

theorem carries_takeFrame (p : Part) (kind tag : Byte) (payload : List Byte) :
    Carries p (p.takeFrame kind tag payload) := by
  unfold Part.takeFrame
  split
  · exact (Carries.refl p).answered _ _ _
  · exact (Carries.refl p).answered _ _ _
  · exact (Carries.refl p).answered _ _ _
  · exact carries_takeRequest p _

theorem carries_completeFrame (p : Part) (bytes : List Byte) : Carries p (p.completeFrame bytes) := by
  unfold Part.completeFrame
  dsimp only
  split
  · exact ((DescriptionKept.refl p).setReceive none).carries.trans (carries_takeFrame _ _ _ _)
  · exact (DescriptionKept.refl p).abandonFrame.carries

theorem carries_frameByte (p : Part) (bytes : List Byte) (b : Byte) : Carries p (p.frameByte bytes b) := by
  unfold Part.frameByte
  dsimp only
  split
  · exact (DescriptionKept.refl p).abandonFrame.carries
  · split
    · exact carries_completeFrame p _
    · exact ((DescriptionKept.refl p).setReceive _).carries

theorem carries_receiveByte (p : Part) (x : LineByte) : Carries p (p.receiveByte x) := by
  unfold Part.receiveByte
  split
  · exact ((DescriptionKept.refl p).huntByte _).carries
  · split
    · exact ((DescriptionKept.refl p).abandonFrame.huntByte _).carries
    · exact carries_frameByte p _ _

theorem carries_receiveBytes (p : Part) (received : List LineByte) : Carries p (p.receiveBytes received) := by
  induction received generalizing p with
  | nil => exact .refl p
  | cons x rest ih => exact (carries_receiveByte p x).trans (ih (p.receiveByte x))

theorem carries_frameAbandoned (p : Part) (received : List LineByte) : Carries p (p.frameAbandoned received) := by
  cases received with
  | nil => exact ((DescriptionKept.refl p).abandonFrame.ite (DescriptionKept.refl p)).carries
  | cons x rest => exact carries_receiveBytes p (x :: rest)

/-! ## Commands and steps -/

/-- Every command but a cold reset carries the coach description along. -/
theorem exec_carries {c : Instr} (notCold : c ≠ .coldReset) (s : State) :
    ∃ q, exec c s = .next { s with part := q } ∧ Carries s.part q := by
  have k := DescriptionKept.refl s.part
  have request := carries_takeRequest s.part c
  cases c with
  | coldReset => exact absurd rfl notCold
  | speedHoldUpdate => exact ⟨_, rfl, k.speedHoldUpdate.carries⟩
  | slipEvaluation => exact ⟨_, rfl, k.slipEvaluation.carries⟩
  | capacityRecomputation => exact ⟨_, rfl, k.capacityRecomputation.carries⟩
  | motionTimerExpiry => exact ⟨_, rfl, k.motionTimerExpiry.carries⟩
  | recoveryExpiry => exact ⟨_, rfl, k.recoveryExpiry.carries⟩
  | assistExpiry requester => exact ⟨_, rfl, (k.assistExpiry requester).carries⟩
  | holdoffExpiry => exact ⟨_, rfl, k.holdoffExpiry.carries⟩
  | vehicleLinkFrame received => exact ⟨_, rfl, carries_receiveBytes s.part received⟩
  | frameAbandoned received => exact ⟨_, rfl, carries_frameAbandoned s.part received⟩
  | statusReport => exact ⟨_, rfl, k.statusReport.carries⟩
  | pass => exact ⟨_, rfl, k.pass.carries⟩
  | rotationTimerExpiry => exact ⟨_, rfl, k.rotationTimerExpiry.carries⟩
  | thermalUpdate => exact ⟨_, rfl, k.thermalUpdate.carries⟩
  | retarderWant => exact ⟨_, rfl, k.retarderWantTaken.carries⟩
  | retarderNodeState => exact ⟨_, rfl, k.retarderNodeStateTaken.carries⟩
  | fillTimerExpiry => exact ⟨_, rfl, k.fillTimerExpiry.carries⟩
  | drainTimerExpiry => exact ⟨_, rfl, k.drainTimerExpiry.carries⟩
  | retarderNodeLost => exact ⟨_, rfl, k.retarderNodeLostTaken.carries⟩
  | exhaustWant => exact ⟨_, rfl, k.exhaustWantTaken.carries⟩
  | flapSwitchChange e => exact ⟨_, rfl, (k.flapSwitchChange e).carries⟩
  | flapTimerExpiry => exact ⟨_, rfl, k.flapTimerExpiry.carries⟩
  | pressureDemand axle => exact ⟨_, rfl, (k.pressureDemand axle).carries⟩
  | localSample axle kPa => exact ⟨_, rfl, (k.localSample axle kPa).carries⟩
  | remoteMeasurement axle => exact ⟨_, rfl, (k.remoteMeasurement axle).carries⟩
  | channelPresenceChange axle => exact ⟨_, rfl, (k.channelPresenceChange axle).carries⟩
  | trackingTimerExpiry axle => exact ⟨_, rfl, (k.trackingTimerExpiry axle).carries⟩
  | pollTimerExpiry addr => exact ⟨_, rfl, (k.pollTimerExpiry addr).carries⟩
  | commandFrameSent => exact ⟨_, rfl, k.commandFrameSent.carries⟩
  | actuatorAnswer received => exact ⟨_, rfl, (k.actuatorAnswer received).carries⟩
  | answerTimeout => exact ⟨_, rfl, k.answerTimeout.carries⟩
  | abandonedWindowEnd => exact ⟨_, rfl, k.abandonedWindowEnd.carries⟩
  | transmitFrameSent => exact ⟨_, rfl, k.transmitFrameSent.carries⟩
  | _ => exact ⟨_, rfl, request⟩

/-- A cold reset leaves a sound coach description: nothing is described. -/
theorem descriptionSound_cold (closed : Bool) (phase : LinkPhase) : DescriptionSound (Part.cold closed phase) where
  settings := (by decide : SettingsInRange (Part.cold false .idle))
  chassis := by simp [ChassisChecked, Part.cold, TableStore.cold]
  tables := tablesHeld_congr (p := Part.cold false .idle) rfl (by decide)
  nodes := ⟨rfl, fun _ => ⟨rfl, rfl⟩⟩
  queue := by simp [QueueAddressed, Part.cold, LinkController.cold]

theorem Part.coldReset_not_mem_dueLink (p : Part) : .coldReset ∉ p.dueLink := by
  unfold Part.dueLink Part.whenDue
  (repeat' split) <;> simp

/-- No event of the part itself is a cold reset. -/
theorem Part.nextEvent_ne_coldReset (p : Part) : p.nextEvent ≠ some .coldReset := by
  unfold Part.nextEvent
  split
  · next h _ _ => cases h <;> simp [Handoff.command]
  · intro first
    have due := List.mem_of_mem_head? first
    simp [Part.dueExpiries, Part.whenDue, Part.coldReset_not_mem_dueLink] at due

/-- A command taken in a state leaves a sound coach description sound, and keeps the record unless it is a cold
reset. -/
theorem exec_keeps_description {c : Instr} {s t : State} (h : exec c s = .next t) :
    (DescriptionSound s.part → DescriptionSound t.part) ∧
      (c ≠ .coldReset → ∀ x, s.part.store.chassis = some x → t.part.store.chassis = some x) := by
  by_cases cold : c = .coldReset
  · subst cold
    cases h
    exact ⟨fun _ => descriptionSound_cold _ _, fun notCold => absurd rfl notCold⟩
  · obtain ⟨q, next, sound, record⟩ := exec_carries cold s
    cases next.symm.trans h
    exact ⟨sound, fun _ => record⟩

/-- One step, whether a command waits, an event of the part comes next, or 1 ms passes. -/
theorem step_keeps_description {s t : State} (h : step s = .next t) :
    (DescriptionSound s.part → DescriptionSound t.part) ∧
      (s.pending.head? ≠ some .coldReset → ∀ x, s.part.store.chassis = some x → t.part.store.chassis = some x) := by
  unfold step at h
  split at h
  · next c rest waiting =>
    obtain ⟨sound, record⟩ := exec_keeps_description h
    exact ⟨sound, fun first => record fun cold => first (by rw [waiting, cold, List.head?_cons])⟩
  · split at h
    · next c event =>
      obtain ⟨sound, record⟩ := exec_keeps_description h
      exact ⟨sound, fun _ => record fun cold => s.part.nextEvent_ne_coldReset (cold ▸ event)⟩
    · cases h
      have ticked := (DescriptionKept.refl s.part).tick.carries
      exact ⟨ticked.sound, fun _ => ticked.record⟩

/-- Settles O58: every command but a cold reset carries the coach description along, block by block; a cold reset leaves
one in which nothing is described; and no event of the part itself is a cold reset. -/
theorem descriptionStaysSound : Obligations.DescriptionStaysSound := by
  intro s t x h
  obtain ⟨sound, record⟩ := step_keeps_description h
  refine ⟨fun ⟨settings, chassis, tables, nodes, queue⟩ => ?_, fun notCold => record notCold x⟩
  have kept := sound ⟨settings, chassis, tables, nodes, queue⟩
  exact ⟨kept.settings, kept.chassis, kept.tables, kept.nodes, kept.queue⟩

end Sys2Proof.Machine
end

section
/-! PROOF. The part right after a cold reset (R178), block by block. -/

namespace Sys2Proof.Machine

/-- Each of the five tables is EMPTY after a cold reset, with none of its slots written (R12). -/
theorem State.reset_table (id : TableId) :
    (State.reset.part.table id).state = .empty ∧ (State.reset.part.table id).slots = List.replicate id.slots none := by
  cases id <;> exact ⟨rfl, rfl⟩

/-- Settles O48: the tables for every id, and each remaining value as the reset state evaluates to it. -/
theorem resetValuesOfEveryBlock : Obligations.ResetValuesOfEveryBlock := by
  refine ⟨rfl, rfl, rfl, rfl, rfl, State.reset_table, ?otherBlocks⟩
  case otherBlocks => decide

end Sys2Proof.Machine
end

section
/-! PROOF. The queries and TABLE_READ (R19, R41, R73, R100, R115, R138, R154, R167, R183): what each answers. -/

namespace Sys2Proof.Machine

/-! ## The queries -/

/-- Only a REMOTE channel has a last target sent (R154). -/
theorem Part.remoteTarget_eq (p : Part) (a : Axle) :
    p.remoteTarget a =
      if (p.chan.get a).route = .unrouted ∨ (p.chan.get a).route = .localStage then none
      else (p.chan.get a).lastSent := by
  cases route : (p.chan.get a).route <;> simp [Part.remoteTarget, route]

/-- A request is a DEMAND unless it is a POLL. -/
theorem Payload.isDemand_eq (payload : Payload) : payload.isDemand = decide (payload ≠ .poll) := by
  cases payload <;> simp [Payload.isDemand]

theorem Part.axleReport_eq (p : Part) (a : Axle) :
    p.axleReport a = { p.axleReport a with
      lastSent := if (p.chan.get a).route = .unrouted ∨ (p.chan.get a).route = .localStage then none
        else (p.chan.get a).lastSent } := by
  rw [← Part.remoteTarget_eq]
  rfl

/-- The transaction in flight is answered with its address and whether it is a DEMAND (R167). -/
theorem Part.routeReport_inFlight (p : Part) :
    p.routeReport.inFlight =
      match p.link.phase with
      | .inFlight t => some (t.request.addr, decide (t.request.payload ≠ .poll))
      | .idle | .abandoned _ => none := by
  unfold Part.routeReport
  cases p.link.phase with
  | idle => rfl
  | abandoned w => rfl
  | inFlight t => exact congrArg (fun demand => some (t.request.addr, demand)) t.request.payload.isDemand_eq

theorem Part.replyChassis_set {p : Part} {c : ChassisRecord} (set : p.store.chassis = some c) :
    p.replyChassis = .carrying (.chassis c) := by
  simp only [Part.replyChassis, set]

theorem Part.replyChassis_unset {p : Part} (unset : p.store.chassis = none) :
    p.replyChassis = .refused (.notReady 2 0) := by
  simp only [Part.replyChassis, unset]

/-! ## TABLE_READ (R19) -/

section TableRead

variable {p : Part} {n first count : Nat} {id : TableId}

theorem Part.tableRead_unknown_table (h : n < 1 ∨ 5 < n) :
    p.tableRead n first count = (p, .refused (.badValue 0)) := by
  simp only [Part.tableRead, tableOfId_of_outside h]

theorem Part.tableRead_beyond_slots (hn : tableOfId n = some id) (h : id.slots ≤ first) :
    p.tableRead n first count = (p, .refused (.badValue 1)) := by
  simp only [Part.tableRead, hn, if_pos h]

theorem Part.tableRead_bad_count (hn : tableOfId n = some id) (h : first < id.slots)
    (bad : count < 1 ∨ 8 < count ∨ id.slots < first + count) :
    p.tableRead n first count = (p, .refused (.badValue 2)) := by
  have failed : (!inRange 1 8 count || decide (id.slots < first + count)) = true := by
    simp only [Bool.or_eq_true, Bool.not_eq_true', ← Bool.not_eq_true, inRange_iff, decide_eq_true_eq]
    omega
  simp only [Part.tableRead, hn, if_neg (Nat.not_le.mpr h), if_pos failed]

theorem Part.tableRead_reports (hn : tableOfId n = some id) (low : 1 ≤ count) (high : count ≤ 8)
    (fits : first + count ≤ id.slots) :
    p.tableRead n first count = (p, .carrying (.table (p.tableReport id first count))) := by
  have passed : ¬(!inRange 1 8 count || decide (id.slots < first + count)) = true := by
    simp only [Bool.or_eq_true, Bool.not_eq_true', ← Bool.not_eq_true, inRange_iff, decide_eq_true_eq]
    omega
  simp only [Part.tableRead, hn, if_neg (show ¬ id.slots ≤ first by omega), if_neg passed]

end TableRead

/-- The index of the open table is answered with that table alone. -/
theorem Part.tableReport_cursor (p : Part) (id : TableId) (first count : Nat) :
    (p.tableReport id first count).cursor =
      (p.store.cursor.filter fun c => decide (c.table = id)).map (·.index) := by
  unfold Part.tableReport
  cases p.store.cursor with
  | none => rfl
  | some c => by_cases same : c.table = id <;> simp [same]

/-- A slot is answered as it is written, or with zero fields. -/
theorem slotReport_eq (slot : Option Entry) :
    (⟨slot.isSome, slot.getD ⟨0, 0⟩⟩ : SlotReport) =
      match slot with
      | some e => ⟨true, e⟩
      | none => ⟨false, ⟨0, 0⟩⟩ := by
  cases slot with
  | none => rfl
  | some e => rfl

/-! ## The statement -/

/-- Settles O52, each query by its reply as it stands, and TABLE_READ by the outcome of each of its checks. -/
theorem queriesAnswerAndChangeNothing : Obligations.QueriesAnswerAndChangeNothing := by
  refine ⟨fun s tag => ?queries, fun s tag n first count => ⟨?unknown, fun id hn => ⟨?beyond, ?badCount, ?reports⟩⟩⟩
  case queries =>
    have answers : ∀ {r r' : Reply}, r = r' →
        (.next { s with part := s.part.answer kindQuery tag r } : Result) =
          .next { s with part := s.part.answer kindQuery tag r' } := fun h =>
      State.next_congr (congrArg _ h)
    refine ⟨rfl, answers (congrArg (fun l => Reply.mk .done (.axles l s.part.passReport)) ?axles),
      answers (congrArg (fun left => Reply.mk .done (.faults _ _ left)) ?faults), rfl, rfl,
      fun x set => answers (Part.replyChassis_set set), fun unset => answers (Part.replyChassis_unset unset), rfl,
      answers (congrArg (fun inFlight => Reply.mk .done (.route { s.part.routeReport with inFlight }))
        s.part.routeReport_inFlight)⟩
    case axles => exact List.map_congr_left fun a _ => s.part.axleReport_eq a
    case faults => exact (Option.map_map (Timer.left · s.part.now) HeldClear.holdoff s.part.faults.held).symm
  case unknown => exact fun h => State.next_congr (Part.request_of_eq (Part.tableRead_unknown_table h))
  case beyond => exact fun h => State.next_congr (Part.request_of_eq (Part.tableRead_beyond_slots hn h))
  case badCount => exact fun h bad => State.next_congr (Part.request_of_eq (Part.tableRead_bad_count hn h bad))
  case reports =>
    intro low high fits
    refine State.next_congr ((Part.request_of_eq (Part.tableRead_reports hn low high fits)).trans
      (congrArg (fun report => s.part.answer kindTableRead tag ⟨.done, .table report⟩) ?report))
    have cursor := s.part.tableReport_cursor id first count
    have slots := List.map_congr_left (l := List.range count) fun k _ =>
      slotReport_eq ((s.part.table id).slots.getD (first + k) none)
    exact congr (congrArg (fun cursor slots => (⟨_, cursor, _, slots⟩ : TableReport)) cursor) slots

end Sys2Proof.Machine
end

section
/-! PROOF. The bounds of the fault table and of the actuator link (R155 to R157, R163, R184, R185), each kept by the
operations of its own block. -/

namespace Sys2Proof.Machine

open Safety

/-! ## The fault table (R184, R185) -/

/-- The bounds of the fault table: its size, its keys and its counts (R184), and the overflow count (R185). -/
structure FaultsSound (t : FaultTable) : Prop where
  size : t.entries.length ≤ 16
  keys : (t.entries.map fun e => (e.source, e.code)).Nodup
  overflow : t.overflow ≤ 255
  counts : ∀ e ∈ t.entries, 1 ≤ e.count ∧ e.count ≤ 255

theorem FaultEntry.is_iff {e : FaultEntry} {src : Source} {code : FaultCode} :
    e.is src code = true ↔ (e.source, e.code) = (src, code) := by
  simp [FaultEntry.is]

namespace FaultsSound

variable {t : FaultTable} {src : Source} {code : FaultCode}

/-- A change of entries that keeps their keys and leaves counts within their range. -/
theorem map (h : FaultsSound t) {f : FaultEntry → FaultEntry}
    (key : ∀ e, ((f e).source, (f e).code) = (e.source, e.code))
    (count : ∀ e, 1 ≤ e.count ∧ e.count ≤ 255 → 1 ≤ (f e).count ∧ (f e).count ≤ 255) :
    FaultsSound { t with entries := t.entries.map f } where
  size := by simpa using h.size
  keys := by simpa [Function.comp_def, key] using h.keys
  overflow := h.overflow
  counts e he := by
    obtain ⟨old, hold, rfl⟩ := List.mem_map.mp he
    exact count old (h.counts old hold)

/-- Fewer entries, in their order. -/
theorem sublist (h : FaultsSound t) {l : List FaultEntry} (fewer : l.Sublist t.entries) :
    FaultsSound { t with entries := l } where
  size := fewer.length_le.trans h.size
  keys := h.keys.sublist (fewer.map _)
  overflow := h.overflow
  counts e he := h.counts e (fewer.subset he)

/-- A new entry, of a key that the table does not hold, where there is room. -/
theorem append (h : FaultsSound t) (room : t.entries.length < 16) (new : ∀ e ∈ t.entries, e.is src code = false)
    (now : Time) : FaultsSound { t with entries := t.entries ++ [.new now src code] } where
  size := by simpa using room
  keys := by
    rw [List.map_append, List.nodup_append]
    refine ⟨h.keys, by simp, ?_⟩
    rintro _ hk _ hnew rfl
    obtain ⟨e, he, key⟩ := List.mem_map.mp hk
    exact Bool.false_ne_true ((new e he).symm.trans (FaultEntry.is_iff.mpr (key.trans (List.mem_singleton.mp hnew))))
  overflow := h.overflow
  counts e he := by
    obtain he | he := List.mem_append.mp he
    · exact h.counts e he
    · obtain rfl := List.mem_singleton.mp he
      simp [FaultEntry.new]

/-- An occurrence (R185): an entry counted again, a new entry in free space or in that of an ended condition, or an
overflow. -/
theorem occurred (h : FaultsSound t) (now : Time) (src : Source) (code : FaultCode) :
    FaultsSound (t.occurred now src code).1 := by
  unfold FaultTable.occurred
  split
  · refine h.map (fun e => ?_) fun e he => ?_
    · split <;> rfl
    · split
      · simp only [FaultEntry.again]
        omega
      · exact he
  · next unknown =>
    have new : ∀ e ∈ t.entries, e.is src code = false := by simpa using unknown
    split
    · next room => exact h.append room new now
    · split
      · next ended =>
        obtain ⟨e, he, gone⟩ := List.any_eq_true.mp ended
        have evicted : FaultsSound { t with entries := t.entries.eraseP (!·.present) } := h.sublist List.eraseP_sublist
        refine evicted.append ?_ (fun x hx => new x (List.mem_of_mem_eraseP hx)) now
        have := List.length_eraseP_of_mem (p := fun e : FaultEntry => !e.present) he gone
        have := h.size
        have := List.length_pos_of_mem he
        simp only
        omega
      · split
        · next below => exact { h with overflow := below }
        · exact h

theorem ended (h : FaultsSound t) (src : Source) (code : FaultCode) : FaultsSound (t.ended src code).1 :=
  h.map (fun e => by split <;> rfl) fun e he => by split <;> exact he

end FaultsSound

@[simp] theorem Part.faultOccurs_faults (p : Part) (src : Source) (code : FaultCode) :
    (p.faultOccurs src code).faults = (p.faults.occurred p.now src code).1 := by
  unfold Part.faultOccurs
  dsimp only
  split <;> rfl

@[simp] theorem Part.faultEnds_faults (p : Part) (src : Source) (code : FaultCode) :
    (p.faultEnds src code).faults = (p.faults.ended src code).1 := by
  unfold Part.faultEnds
  dsimp only
  split <;> rfl

/-! ## The request queue and the node table (R155, R157, R163) -/

/-- What tells requests of the queue apart (R157). -/
def Request.key (r : Request) : Nat × Bool := (r.addr, r.payload.isDemand)

/-- The bounds of the link controller: no two requests for the same node and kind (R157), and misses up to 3 (R163). -/
structure LinkSound (l : LinkController) : Prop where
  queue : (l.queue.map Request.key).Nodup
  misses : ∀ e ∈ l.nodes, e.misses ≤ 3

theorem Request.demandFor_iff {r : Request} {addr : Nat} : r.demandFor addr = true ↔ r.key = (addr, true) := by
  simp [Request.demandFor, Request.key]

theorem nodup_append_request {queue : List Request} {new : Request} (h : (queue.map Request.key).Nodup)
    (unqueued : ∀ r ∈ queue, r.key ≠ new.key) : ((queue ++ [new]).map Request.key).Nodup := by
  rw [List.map_append, List.nodup_append]
  refine ⟨h, by simp, ?_⟩
  rintro _ hk _ hnew rfl
  obtain ⟨r, hr, key⟩ := List.mem_map.mp hk
  exact unqueued r hr (key.trans (List.mem_singleton.mp hnew))

/-- Placing a request keeps the keys apart (R157): a queued DEMAND takes the payload over, and a POLL is added beside no
request for its node. -/
theorem nodup_placeRequest {queue : List Request} (h : (queue.map Request.key).Nodup) (now : Time) (addr : Nat)
    (payload : Payload) : ((placeRequest queue now addr payload).map Request.key).Nodup := by
  unfold placeRequest
  split
  · next demand =>
    split
    · have key (r : Request) : (if r.demandFor addr then { r with payload := payload } else r).key = r.key := by
        split
        · next same =>
          have key := Request.demandFor_iff.mp same
          have sameAddr : r.addr = addr := congrArg Prod.fst key
          rw [key, ← sameAddr]
          exact Prod.ext rfl demand
        · rfl
      simpa [Function.comp_def, key] using h
    · next none_ =>
      refine nodup_append_request h fun r hr same => none_ (List.any_eq_true.mpr ⟨r, hr, ?_⟩)
      exact Request.demandFor_iff.mpr (by rw [same, Request.key, demand])
  · split
    · exact h
    · next none_ =>
      refine nodup_append_request h fun r hr same => none_ (List.any_eq_true.mpr ⟨r, hr, ?_⟩)
      exact beq_iff_eq.mpr (Prod.ext_iff.mp same).1

/-- Fewer requests, in their order. -/
theorem LinkSound.sublist {l m : LinkController} (h : LinkSound l) (queue : m.queue.Sublist l.queue)
    (nodes : m.nodes = l.nodes) : LinkSound m where
  queue := h.queue.sublist (queue.map _)
  misses := by rw [nodes]; exact h.misses

/-- A change of entries of the node table that leaves misses within their range. -/
theorem LinkSound.mapNodes {l m : LinkController} (h : LinkSound l) {f : NodeEntry → NodeEntry}
    (misses : ∀ e, e.misses ≤ 3 → (f e).misses ≤ 3) (queue : m.queue = l.queue) (nodes : m.nodes = l.nodes.map f) :
    LinkSound m where
  queue := by rw [queue]; exact h.queue
  misses e he := by
    rw [nodes] at he
    obtain ⟨old, hold, rfl⟩ := List.mem_map.mp he
    exact misses old (h.misses old hold)

theorem LinkSound.chooseNext {p : Part} (h : LinkSound p.link) : LinkSound p.chooseNext.link := by
  have begun : ∀ r, LinkSound (p.beginTransaction r).link := fun r => h.sublist List.erase_sublist rfl
  unfold Part.chooseNext
  split
  · split
    · exact h
    · split
      · exact begun _
      · exact h
  · exact h
  · exact h

theorem LinkSound.post {p : Part} (h : LinkSound p.link) (addr : Nat) (payload : Payload) :
    LinkSound (p.post addr payload).link := by
  unfold Part.post
  split
  · exact LinkSound.chooseNext { h with queue := nodup_placeRequest h.queue _ _ _ }
  · exact h

theorem LinkSound.setNode {p : Part} (h : LinkSound p.link) (addr : Nat) {f : NodeEntry → NodeEntry}
    (misses : ∀ e, e.misses ≤ 3 → (f e).misses ≤ 3) : LinkSound (p.setNode addr f).link := by
  refine h.mapNodes (f := fun e => if e.addr == addr then f e else e) (fun e he => ?_) rfl rfl
  split
  · exact misses e he
  · exact he

theorem LinkSound.requeueMissed {p : Part} (h : LinkSound p.link) (r : Request) :
    LinkSound (p.requeueMissed r).link := by
  unfold Part.requeueMissed
  split
  · next missed =>
    obtain ⟨demand, none_⟩ := (Bool.and_eq_true _ _).mp missed
    rw [Bool.not_eq_true', List.any_eq_false] at none_
    refine { h with queue := nodup_append_request h.queue fun x hx same => none_ x hx ?_ }
    exact Request.demandFor_iff.mpr (by rw [same, Request.key, demand])
  · exact h

end Sys2Proof.Machine
end

section
/-! PROOF. What the Channel Units, Retarder Control, Flap Control, the Capacity Unit, the actuator link and the clears
do to the other blocks: nothing but withdraw shares, and report faults within the bounds of the fault table. One lemma
per operation, in the order of the model. -/

namespace Sys2Proof.Machine

/-- The Apportioner's items but those that a withdrawal of shares changes (R92). -/
def Apportioner.standing (a : Apportioner) : Apportioner :=
  { a with shares := .replicate 0, demands := .replicate 0, shortfall := 0 }

/-- What an operation of the actuator blocks leaves of the part: the modes, the coach description, the demand, the
motion data, the slip limit and the temperatures stand, the Apportioner loses shares at most, and the fault table, the
engagement list and the link stay within their bounds. -/
structure ActuatorsActed (p q : Part) : Prop where
  control : q.control = p.control
  store : q.store = p.store
  demand : q.demand = p.demand
  motion : q.motion = p.motion
  slip : q.slip = p.slip
  thermal : q.thermal = p.thermal
  errors : q.vl.errors = p.vl.errors
  app : q.app.standing = p.app.standing
  faults : FaultsSound p.faults → FaultsSound q.faults
  engagements : p.ret.engagements.length ≤ 4 → q.ret.engagements.length ≤ 4
  link : LinkSound p.link → LinkSound q.link

@[simp] theorem Part.withdrawShare_standing (p : Part) (a : Axle) :
    (p.withdrawShare a).app.standing = p.app.standing := by
  unfold Part.withdrawShare
  split <;> rfl

@[simp] theorem Part.setRetarder_engagements (p : Part) (st : RetarderState) :
    (p.setRetarder st).ret.engagements = p.ret.engagements := rfl

namespace ActuatorsActed

variable {p q r : Part}

theorem refl (p : Part) : ActuatorsActed p p := ⟨rfl, rfl, rfl, rfl, rfl, rfl, rfl, rfl, id, id, id⟩

theorem trans (h : ActuatorsActed p q) (h' : ActuatorsActed q r) : ActuatorsActed p r where
  control := h'.control.trans h.control
  store := h'.store.trans h.store
  demand := h'.demand.trans h.demand
  motion := h'.motion.trans h.motion
  slip := h'.slip.trans h.slip
  thermal := h'.thermal.trans h.thermal
  errors := h'.errors.trans h.errors
  app := h'.app.trans h.app
  faults s := h'.faults (h.faults s)
  engagements n := h'.engagements (h.engagements n)
  link s := h'.link (h.link s)

/-- An operation on the fault table, the engagement list or the link, beside the actuator blocks' own items. -/
theorem next (h : ActuatorsActed p q)
    (others : r.control = q.control ∧ r.store = q.store ∧ r.demand = q.demand ∧ r.motion = q.motion ∧
      r.slip = q.slip ∧ r.thermal = q.thermal ∧ r.vl.errors = q.vl.errors ∧ r.app.standing = q.app.standing)
    (faults : FaultsSound q.faults → FaultsSound r.faults)
    (engagements : q.ret.engagements.length ≤ 4 → r.ret.engagements.length ≤ 4)
    (link : LinkSound q.link → LinkSound r.link) : ActuatorsActed p r := by
  obtain ⟨control, store, demand, motion, slip, thermal, errors, app⟩ := others
  exact h.trans ⟨control, store, demand, motion, slip, thermal, errors, app, faults, engagements, link⟩

/-- An operation on the actuator blocks' own items alone. -/
theorem framed (h : ActuatorsActed p q)
    (same : r.control = q.control ∧ r.store = q.store ∧ r.demand = q.demand ∧ r.motion = q.motion ∧
      r.slip = q.slip ∧ r.thermal = q.thermal ∧ r.vl.errors = q.vl.errors ∧ r.app.standing = q.app.standing ∧
      r.faults = q.faults ∧ r.ret.engagements = q.ret.engagements ∧ r.link = q.link) : ActuatorsActed p r := by
  obtain ⟨control, store, demand, motion, slip, thermal, errors, app, faults, engagements, link⟩ := same
  exact h.next ⟨control, store, demand, motion, slip, thermal, errors, app⟩ (by rw [faults]; exact id)
    (by rw [engagements]; exact id) (by rw [link]; exact id)

theorem ite {c : Prop} [Decidable c] (h : ActuatorsActed p q) (h' : ActuatorsActed p r) :
    ActuatorsActed p (if c then q else r) := by
  split
  · exact h
  · exact h'

theorem foldl {α : Type} {f : Part → α → Part}
    (step : ∀ (q : Part) (a : α), ActuatorsActed p q → ActuatorsActed p (f q a)) (h : ActuatorsActed p q)
    (l : List α) : ActuatorsActed p (l.foldl f q) := by
  induction l generalizing q with
  | nil => exact h
  | cons a l ih => exact ih (step q a h)

/-! ### Shared operations -/

theorem handOn (h : ActuatorsActed p q) (x : Handoff) : ActuatorsActed p (q.handOn x) := h.framed (by simp)

theorem taken (h : ActuatorsActed p q) (l : Lane) : ActuatorsActed p (q.taken l) := h.framed (by simp)

theorem discardLanes (h : ActuatorsActed p q) (gone : Lane → Bool) : ActuatorsActed p (q.discardLanes gone) :=
  h.framed (by simp)

theorem needCapacities (h : ActuatorsActed p q) : ActuatorsActed p q.needCapacities := h.framed (by simp)

theorem answer (h : ActuatorsActed p q) (kind tag : Byte) (r : Reply) : ActuatorsActed p (q.answer kind tag r) :=
  h.framed (by simp)

theorem faultOccurs (h : ActuatorsActed p q) (src : Source) (code : FaultCode) :
    ActuatorsActed p (q.faultOccurs src code) :=
  h.next (by simp) (fun s => by simpa using s.occurred q.now src code) (by simp) (by simp)

theorem faultEnds (h : ActuatorsActed p q) (src : Source) (code : FaultCode) :
    ActuatorsActed p (q.faultEnds src code) :=
  h.next (by simp) (fun s => by simpa using s.ended src code) (by simp) (by simp)

theorem chooseNext (h : ActuatorsActed p q) : ActuatorsActed p q.chooseNext :=
  h.next (by simp) (by simp) (by simp) LinkSound.chooseNext

theorem post (h : ActuatorsActed p q) (addr : Nat) (payload : Payload) : ActuatorsActed p (q.post addr payload) :=
  h.next (by simp) (by simp) (by simp) (fun s => s.post addr payload)

/-! ### The Channel Units -/

theorem setChannel (h : ActuatorsActed p q) (a : Axle) (c : Channel) : ActuatorsActed p (q.setChannel a c) :=
  h.framed (by simp)

theorem withdrawShare (h : ActuatorsActed p q) (a : Axle) : ActuatorsActed p (q.withdrawShare a) := h.framed (by simp)

theorem postTarget (h : ActuatorsActed p q) (a : Axle) : ActuatorsActed p (q.postTarget a) := by
  unfold Part.postTarget
  dsimp only
  split
  · exact h.ite ((h.setChannel _ _).post _ _)
  · exact h
  · exact h

theorem releaseChannel (h : ActuatorsActed p q) (a : Axle) (st : ChannelState) :
    ActuatorsActed p (q.releaseChannel a st) :=
  (h.setChannel _ _).postTarget a

theorem judgeChannel (h : ActuatorsActed p q) (a : Axle) : ActuatorsActed p (q.judgeChannel a) := by
  have released : ActuatorsActed p
      (if !q.channelAvailable a && decide ((q.chan.get a).state = some .commanded)
        then q.releaseChannel a .backup else q) := (h.releaseChannel a .backup).ite h
  have judged := fun c => (released.setChannel a c).needCapacities
  exact released.ite ((judged _).ite ((judged _).withdrawShare a))

theorem stopChannels (h : ActuatorsActed p q) : ActuatorsActed p q.stopChannels :=
  h.foldl (fun _ a h => (h.releaseChannel a .backup).ite h) _

theorem takeDemand (h : ActuatorsActed p q) (a : Axle) (kPa : Nat) : ActuatorsActed p (q.takeDemand a kPa) :=
  h.ite (((h.setChannel _ _).postTarget a).ite (((h.setChannel _ _).postTarget a).ite h))

theorem trackPressure (h : ActuatorsActed p q) (a : Axle) (kPa : Nat) : ActuatorsActed p (q.trackPressure a kPa) := by
  unfold Part.trackPressure
  dsimp only
  refine ActuatorsActed.ite (ActuatorsActed.ite ?_ (h.setChannel _ _)) h
  split
  · exact h
  · exact h.setChannel _ _

theorem judgeSample (h : ActuatorsActed p q) (a : Axle) (kPa : Int) : ActuatorsActed p (q.judgeSample a kPa) :=
  ActuatorsActed.ite
    (((((h.setChannel _ _).faultEnds _ _).ite (h.setChannel _ _)).judgeChannel a).trackPressure a _)
    (((h.setChannel _ _).ite ((h.setChannel _ _).faultOccurs _ _)).judgeChannel a)

theorem localSample (h : ActuatorsActed p q) (a : Axle) (kPa : Int) : ActuatorsActed p (q.localSample a kPa) :=
  ActuatorsActed.ite ((h.setChannel _ _).ite ((h.setChannel _ _).judgeSample a kPa)) h

theorem takeMeasurement (h : ActuatorsActed p q) (a : Axle) (kPa : Nat) :
    ActuatorsActed p (q.takeMeasurement a kPa) :=
  (h.setChannel _ _).trackPressure a kPa

theorem channelLost (h : ActuatorsActed p q) (a : Axle) : ActuatorsActed p (q.channelLost a) :=
  ActuatorsActed.ite (((h.setChannel _ _).postTarget a).judgeChannel a) (h.judgeChannel a)

theorem channelFound (h : ActuatorsActed p q) (a : Axle) : ActuatorsActed p (q.channelFound a) :=
  ActuatorsActed.ite ((h.setChannel _ _).judgeChannel a) (h.judgeChannel a)

theorem readmitChannel (h : ActuatorsActed p q) (a : Axle) : ActuatorsActed p (q.readmitChannel a) :=
  ActuatorsActed.ite (((h.setChannel _ _).postTarget a).judgeChannel a) h

theorem trackingTimerExpiry (h : ActuatorsActed p q) (a : Axle) : ActuatorsActed p (q.trackingTimerExpiry a) :=
  ActuatorsActed.ite ((((h.setChannel _ _).faultOccurs _ _).releaseChannel a _).judgeChannel a) h

theorem pressureDemand (h : ActuatorsActed p q) (a : Axle) : ActuatorsActed p (q.pressureDemand a) := by
  unfold Part.pressureDemand
  split
  · exact (h.taken _).takeDemand a _
  · exact h

theorem remoteMeasurement (h : ActuatorsActed p q) (a : Axle) : ActuatorsActed p (q.remoteMeasurement a) := by
  unfold Part.remoteMeasurement
  split
  · exact (h.taken _).takeMeasurement a _
  · exact h

theorem channelPresenceChange (h : ActuatorsActed p q) (a : Axle) :
    ActuatorsActed p (q.channelPresenceChange a) := by
  unfold Part.channelPresenceChange
  split
  · exact ((h.taken _).channelFound a).chooseNext
  · exact ((h.taken _).channelLost a).chooseNext
  · exact h

/-! ### Retarder Control -/

theorem sendRetarder (h : ActuatorsActed p q) (t : RetarderTarget) : ActuatorsActed p (q.sendRetarder t) := by
  have sent : ActuatorsActed p { q with ret := { q.ret with lastSent := t } } := h.framed (by simp)
  unfold Part.sendRetarder Part.postRetarder
  split
  · exact sent.post _ _
  · exact sent

theorem setRetarder (h : ActuatorsActed p q) (st : RetarderState) : ActuatorsActed p (q.setRetarder st) :=
  h.framed (by simp)

theorem retargetRetarder (h : ActuatorsActed p q) : ActuatorsActed p q.retargetRetarder :=
  h.ite (h.sendRetarder _)

theorem enterRetarder (h : ActuatorsActed p q) (st : RetarderState) : ActuatorsActed p (q.enterRetarder st) :=
  (h.setRetarder st).retargetRetarder

theorem drainRetarder (h : ActuatorsActed p q) : ActuatorsActed p q.drainRetarder :=
  ActuatorsActed.sendRetarder (h.framed (by simp)) _

/-- An engagement is recorded only where the list, once pruned, holds fewer than four (R121). -/
theorem considerEngage (h : ActuatorsActed p q) : ActuatorsActed p q.considerEngage := by
  have fewer : q.prunedEngagements.length ≤ q.ret.engagements.length := List.length_filter_le _ _
  have pruned : ActuatorsActed p { q with ret := { q.ret with engagements := q.prunedEngagements } } :=
    h.next (by simp) (by simp) (fun bound => fewer.trans bound) (by simp)
  unfold Part.considerEngage
  dsimp only
  refine h.ite (h.ite ?_)
  split
  · next room =>
    refine ActuatorsActed.retargetRetarder (h.next (by simp) (by simp) (fun _ => ?_) (by simp))
    simpa using room
  · exact pruned.ite (pruned.framed (by simp))

theorem judgeRelease (h : ActuatorsActed p q) (want command : Nat) :
    ActuatorsActed p (q.judgeRelease want command) := by
  unfold Part.judgeRelease
  split
  · split
    · exact h.framed (by simp)
    · exact h.drainRetarder.ite h
  · exact h.framed (by simp)

theorem takeWant (h : ActuatorsActed p q) (want command : Nat) : ActuatorsActed p (q.takeWant want command) := by
  have recorded : ActuatorsActed p { q with ret := { q.ret with handedCommand := command } } := h.framed (by simp)
  have retargeted := recorded.retargetRetarder.ite recorded (c := q.ret.state = .active)
  unfold Part.takeWant
  dsimp only
  split
  · exact retargeted.considerEngage.ite retargeted
  · split
    · exact retargeted.drainRetarder.ite retargeted
    · exact retargeted.drainRetarder
    · exact retargeted
    · exact retargeted
    · exact retargeted
  · exact retargeted.judgeRelease want command
  · exact retargeted
  · exact retargeted

theorem retarderWantTaken (h : ActuatorsActed p q) : ActuatorsActed p q.retarderWantTaken := by
  unfold Part.retarderWantTaken
  split
  · exact (h.taken _).takeWant _ _
  · exact h

theorem takeNodeState (h : ActuatorsActed p q) (st : NodeState) : ActuatorsActed p (q.takeNodeState st) := by
  unfold Part.takeNodeState
  split
  · exact h.enterRetarder _
  iterate 3 exact h
  iterate 2 exact h.drainRetarder
  iterate 2 exact h
  · exact h.enterRetarder _
  iterate 3 exact h
  iterate 3 exact h.drainRetarder
  iterate 2 exact h

theorem retarderNodeStateTaken (h : ActuatorsActed p q) : ActuatorsActed p q.retarderNodeStateTaken := by
  unfold Part.retarderNodeStateTaken
  split
  · exact (h.taken _).takeNodeState _
  · exact h

theorem loseRetarder (h : ActuatorsActed p q) : ActuatorsActed p q.loseRetarder := by
  unfold Part.loseRetarder
  split
  · exact h.enterRetarder _
  · exact h.enterRetarder _
  · exact h.enterRetarder _
  · exact h
  · exact h

theorem retarderNodeLostTaken (h : ActuatorsActed p q) : ActuatorsActed p q.retarderNodeLostTaken := by
  unfold Part.retarderNodeLostTaken
  split
  · exact (h.taken _).loseRetarder.chooseNext
  · exact h

theorem fillTimerExpiry (h : ActuatorsActed p q) : ActuatorsActed p q.fillTimerExpiry :=
  ((h.faultOccurs _ _).enterRetarder _).ite h

theorem drainTimerExpiry (h : ActuatorsActed p q) : ActuatorsActed p q.drainTimerExpiry :=
  ((h.faultOccurs _ _).enterRetarder _).ite h

theorem readmitRetarder (h : ActuatorsActed p q) : ActuatorsActed p q.readmitRetarder :=
  ((h.enterRetarder _).ite h.drainRetarder).ite h

theorem stopRetarder (h : ActuatorsActed p q) : ActuatorsActed p q.stopRetarder := by
  have handed : ActuatorsActed p { q with ret := { q.ret with handedCommand := 0 } } := h.framed (by simp)
  unfold Part.stopRetarder
  dsimp only
  split
  · exact handed.drainRetarder
  · exact handed.drainRetarder
  · exact handed
  · exact handed
  · exact handed

/-! ### Flap Control -/

theorem setFlap (h : ActuatorsActed p q) (f : FlapControl) : ActuatorsActed p (q.setFlap f) := h.framed (by simp)

theorem changeFlap (h : ActuatorsActed p q) (f : FlapControl) : ActuatorsActed p (q.changeFlap f) := h.framed (by simp)

theorem flapOpenWant (h : ActuatorsActed p q) : ActuatorsActed p q.flapOpenWant := h.framed (by simp)

theorem flapTrips (h : ActuatorsActed p q) (code : FaultCode) : ActuatorsActed p (q.flapTrips code) :=
  (h.faultOccurs .flap code).changeFlap _

theorem exhaustWantTaken (h : ActuatorsActed p q) : ActuatorsActed p q.exhaustWantTaken := by
  unfold Part.exhaustWantTaken
  split
  · exact (h.taken .exhaustWant).framed (by simp)
  · exact (h.taken _).flapOpenWant
  · exact h

theorem takeSwitch (h : ActuatorsActed p q) (closed : Bool) : ActuatorsActed p (q.takeSwitch closed) := by
  have read := h.setFlap { q.flap with switchClosed := closed }
  unfold Part.takeSwitch
  dsimp only
  split
  · exact read.flapTrips _
  · exact read
  · exact read.changeFlap _
  · exact read
  · exact read
  · exact read.flapTrips _
  · exact read
  · exact read.framed (by simp)
  · exact read.needCapacities
  · exact read.needCapacities

theorem takeWaitingSwitch (h : ActuatorsActed p q) : ActuatorsActed p q.takeWaitingSwitch := (h.takeSwitch _).ite h

theorem flapSwitchChange (h : ActuatorsActed p q) (e : SwitchEvent) : ActuatorsActed p (q.flapSwitchChange e) := by
  have levelled : ActuatorsActed p
      (if e.closed = q.fswClosed then q else { q.takeWaitingSwitch with fswClosed := e.closed }) :=
    h.ite (h.takeWaitingSwitch.framed (by simp))
  exact levelled.takeWaitingSwitch.ite levelled

theorem flapTimerExpiry (h : ActuatorsActed p q) : ActuatorsActed p q.flapTimerExpiry := by
  have stopped := h.setFlap { q.flap with timer := none }
  unfold Part.flapTimerExpiry
  refine ActuatorsActed.ite (ActuatorsActed.ite ?_ stopped) h
  split
  · exact h.flapTrips _
  · exact h.flapTrips _
  · exact stopped
  · exact stopped
  · exact stopped

/-! ### The Capacity Unit -/

theorem judgeOvertemp (h : ActuatorsActed p q) : ActuatorsActed p q.judgeOvertemp := by
  unfold Part.judgeOvertemp
  split
  · split
    · exact ActuatorsActed.faultOccurs (h.framed (by simp)) _ _
    · exact ActuatorsActed.faultEnds (h.framed (by simp)) _ _
    · exact h
    · exact h
  · exact h

theorem capacityRecomputation (h : ActuatorsActed p q) : ActuatorsActed p q.capacityRecomputation := by
  unfold Part.capacityRecomputation
  split
  · exact ActuatorsActed.judgeOvertemp ((h.taken .capacity).framed (by simp))
  · exact h

theorem holdOil (h : ActuatorsActed p q) (oil : Option Int) : ActuatorsActed p (q.holdOil oil) := h.framed (by simp)

/-! ### Clears -/

theorem readmitNamed (h : ActuatorsActed p q) (mask : BitVec 16) : ActuatorsActed p (q.readmitNamed mask) := by
  have retarder := h.readmitRetarder.ite h (c := maskNames mask .retarder)
  have flap : ∀ {r}, ActuatorsActed p r → ActuatorsActed p r.readmitFlap := fun h => h.framed (by simp)
  exact ((flap retarder).ite retarder).foldl (fun _ a h => (h.readmitChannel a).ite h) _

theorem applyClear (h : ActuatorsActed p q) (mask : BitVec 16) : ActuatorsActed p (q.applyClear mask) := by
  have cleared : ActuatorsActed p { q with faults := { q.faults with
    entries := q.faults.entries.filter fun e => !e.clearedBy mask } } :=
    h.next (by simp) (fun s => s.sublist List.filter_sublist) (by simp) (by simp)
  exact (ActuatorsActed.ite (cleared.framed (by simp)) cleared).readmitNamed mask

/-- What waits for a clear is no bound of the fault table. -/
theorem setHeld (h : ActuatorsActed p q) (held : Option HeldClear) :
    ActuatorsActed p { q with faults := { q.faults with held := held } } :=
  h.next (by simp) (fun s => ⟨s.size, s.keys, s.overflow, s.counts⟩) (by simp) (by simp)

theorem applyHeld (h : ActuatorsActed p q) (c : HeldClear) : ActuatorsActed p (q.applyHeld c) :=
  ((h.setHeld none).applyClear _).answer _ _ _

theorem noLongerWaiting (h : ActuatorsActed p q) (gone : Nat → Bool) :
    ActuatorsActed p (q.noLongerWaiting gone) := by
  unfold Part.noLongerWaiting
  split
  · exact (h.applyHeld _).ite (h.setHeld _)
  · exact h

theorem clearFaults (h : ActuatorsActed p q) (tag : Byte) (mask : BitVec 16) :
    ActuatorsActed p (q.clearFaults tag mask) := by
  unfold Part.clearFaults
  refine ActuatorsActed.ite (h.answer _ _ _) (ActuatorsActed.ite (h.answer _ _ _) ?_)
  split
  · exact (h.applyClear mask).answer _ _ _
  · exact ActuatorsActed.foldl (fun _ addr h => h.post addr .poll) (h.setHeld _) _

theorem holdoffExpiry (h : ActuatorsActed p q) : ActuatorsActed p q.holdoffExpiry := by
  unfold Part.holdoffExpiry
  split
  · exact (h.applyHeld _).ite h
  · exact h

/-! ### Transactions of the actuator link -/

theorem setNode (h : ActuatorsActed p q) (addr : Nat) {f : NodeEntry → NodeEntry}
    (misses : ∀ e, e.misses ≤ 3 → (f e).misses ≤ 3) : ActuatorsActed p (q.setNode addr f) :=
  h.next (by simp) (by simp) (by simp) (fun s => s.setNode addr misses)

theorem handPresence (h : ActuatorsActed p q) (use : NodeUse) (present : Bool) :
    ActuatorsActed p (q.handPresence use present) := h.framed (by simp)

theorem handReported (h : ActuatorsActed p q) (use : NodeUse) : ActuatorsActed p (q.handReported use) := by
  unfold Part.handReported
  split
  · exact h.judgeChannel _
  · exact h.needCapacities

theorem setPhase (h : ActuatorsActed p q) (phase : LinkPhase) :
    ActuatorsActed p { q with link := { q.link with phase := phase } } :=
  h.next (by simp) (by simp) (by simp) (fun s => ⟨s.queue, s.misses⟩)

theorem afterTransaction (h : ActuatorsActed p q) (addr : Nat) : ActuatorsActed p (q.afterTransaction addr) :=
  ((h.noLongerWaiting _).ite h).chooseNext

theorem judgeFaultCode (h : ActuatorsActed p q) (e : NodeEntry) (code : Nat) :
    ActuatorsActed p (q.judgeFaultCode e code) := by
  have reported : ActuatorsActed p (q.setNode e.addr fun e => { e with reported := true, faultCode := code }) :=
    h.setNode _ fun _ => id
  have ended : ActuatorsActed p (q.setNode e.addr fun e => { e with reported := false }) := h.setNode _ fun _ => id
  exact ActuatorsActed.ite (((ended.faultEnds _ _).handReported _).ite h)
    (reported.ite ((reported.faultOccurs _ _).handReported _))

theorem handPayload (h : ActuatorsActed p q) (e : NodeEntry) (ans : NodeAnswer) :
    ActuatorsActed p (q.handPayload e ans) := by
  unfold Part.handPayload
  split
  · exact h.handOn _
  · exact h.framed (by simp)
  · exact h
  · exact h

theorem takeGoodAnswer (h : ActuatorsActed p q) (e : NodeEntry) (ans : NodeAnswer) :
    ActuatorsActed p (q.takeGoodAnswer e ans) := by
  have answered : ActuatorsActed p (q.setNode e.addr fun e =>
    { e with misses := 0, poll := ⟨q.now, q.setting idPollInterval⟩, presence := .present, lostPresent := false }) :=
    h.setNode _ fun _ _ => Nat.zero_le 3
  have found := (answered.faultEnds (.node e.addr) .nodeLost).ite answered (c := e.lostPresent)
  exact ((found.ite (found.handPresence _ _)).judgeFaultCode _ _).handPayload _ _

theorem takeMiss (h : ActuatorsActed p q) (e : NodeEntry) (r : Request) : ActuatorsActed p (q.takeMiss e r) := by
  have counted : ActuatorsActed p (q.setNode e.addr fun x => { x with misses := min (e.misses + 1) 3 }) :=
    h.setNode _ fun _ _ => Nat.min_le_right _ _
  have requeued := counted.next (by simp) (by simp) (by simp) (fun s => s.requeueMissed r)
  have lost : ActuatorsActed p (((q.setNode e.addr fun x => { x with misses := min (e.misses + 1) 3 }).requeueMissed
    r).setNode e.addr fun e => { e with presence := .lost, lostPresent := true }) := requeued.setNode _ fun _ => id
  exact ActuatorsActed.ite ((lost.ite (lost.faultOccurs _ _)).handPresence _ _) requeued

theorem completeTransaction (h : ActuatorsActed p q) (t : Transaction) (received : Option (List Byte)) :
    ActuatorsActed p (q.completeTransaction t received) := by
  have ended : ActuatorsActed p q.endTransaction := h.setPhase .idle
  unfold Part.completeTransaction
  dsimp only
  split
  · exact ended.chooseNext
  · split
    · exact ended.chooseNext
    · refine ActuatorsActed.afterTransaction ?_ _
      split
      · exact ended.takeGoodAnswer _ _
      · exact ended.takeMiss _ _

theorem actuatorAnswer (h : ActuatorsActed p q) (received : List Byte) :
    ActuatorsActed p (q.actuatorAnswer received) := by
  unfold Part.actuatorAnswer
  split
  · split
    · exact (h.completeTransaction _ _).ite h
    · exact h
  · exact h
  · exact h

theorem answerTimeout (h : ActuatorsActed p q) : ActuatorsActed p q.answerTimeout := by
  unfold Part.answerTimeout
  split
  · exact (h.completeTransaction _ _).ite h
  · exact h
  · exact h

theorem commandFrameSent (h : ActuatorsActed p q) : ActuatorsActed p q.commandFrameSent := by
  unfold Part.commandFrameSent
  split
  · exact (h.setPhase _).ite h
  · exact (h.setPhase _).ite h
  · exact h

theorem abandonedWindowEnd (h : ActuatorsActed p q) : ActuatorsActed p q.abandonedWindowEnd := by
  unfold Part.abandonedWindowEnd
  split
  · exact (h.setPhase .idle).chooseNext.ite h
  · exact h
  · exact h

theorem pollTimerExpiry (h : ActuatorsActed p q) (addr : Nat) : ActuatorsActed p (q.pollTimerExpiry addr) := by
  unfold Part.pollTimerExpiry
  split
  · have restarted : ActuatorsActed p (q.setNode addr fun e => { e with poll := ⟨q.now, q.setting idPollInterval⟩ }) :=
      h.setNode _ fun _ => id
    exact (restarted.post _ _).ite h
  · exact h

/-! ### ROUTE -/

theorem resetChannel (h : ActuatorsActed p q) (a : Axle) (x : Route) : ActuatorsActed p (q.resetChannel a x) := by
  have ended := (h.faultEnds (.axle a) .sensor).ite h (c := (q.chan.get a).sensorOut)
  unfold Part.resetChannel
  exact (ended.setChannel a _).discardLanes _

theorem removeNode (h : ActuatorsActed p q) (e : NodeEntry) : ActuatorsActed p (q.removeNode e) := by
  have lost := (h.faultEnds (.node e.addr) .nodeLost).ite h (c := e.lostPresent)
  have reported := (lost.faultEnds (.node e.addr) .reported).ite lost (c := e.reported)
  unfold Part.removeNode
  exact reported.next (by simp) (by simp) (by simp) (fun s => s.sublist List.filter_sublist rfl)

/-- A node's entry of the new table is one of the old table, or a new one without misses (R156). -/
theorem updateNodes (h : ActuatorsActed p q) (routes : Axles Route) (retarder : Option Nat) :
    ActuatorsActed p (q.updateNodes routes retarder) := by
  refine h.trans ?_
  have removed := (ActuatorsActed.refl q).foldl (fun _ e h => h.removeNode e)
    (q.link.nodes.filter fun e => !q.keepsNode routes retarder e.addr)
  refine { removed.next (by simp) (by simp) (by simp) id with
    link := fun s => ⟨(removed.link s).queue, fun e he => ?_⟩ }
  obtain ⟨x, -, entry⟩ := List.mem_filterMap.mp he
  obtain ⟨u, -, rfl⟩ := Option.map_eq_some_iff.mp entry
  cases node : q.node x with
  | none => split <;> exact Nat.zero_le 3
  | some old =>
    obtain ⟨inTable, -⟩ := Part.node_mem node
    split
    · exact s.misses old inTable
    · exact Nat.zero_le 3

theorem rerouteRetarder (h : ActuatorsActed p q) (old : Option Nat) : ActuatorsActed p (q.rerouteRetarder old) := by
  have discarded := h.discardLanes fun l => decide (l = .retarderLink)
  exact h.ite (ActuatorsActed.loseRetarder (ActuatorsActed.holdOil (discarded.framed (by simp)) none)).needCapacities

theorem setRetRoute (h : ActuatorsActed p q) (retarder : Option Nat) :
    ActuatorsActed p { q with retRoute := retarder } := h.framed (by simp)

theorem applyRoute (h : ActuatorsActed p q) (routes : Axles Route) (retarder : Option Nat) :
    ActuatorsActed p (q.applyRoute routes retarder) := by
  have reset := h.foldl (fun _ a h => h.resetChannel a (routes.get a)) (q.changedAxles routes)
  have updated := (reset.setRetRoute retarder).updateNodes routes retarder
  have judged := updated.foldl (fun _ a h => h.judgeChannel a) (q.changedAxles routes)
  have posted := judged.foldl (fun _ a h => h.postTarget a) (q.changedAxles routes)
  have rerouted := (posted.rerouteRetarder q.retRoute).chooseNext
  exact (rerouted.noLongerWaiting _).ite rerouted

theorem routeRequest (h : ActuatorsActed p q) (fields : Axles RouteField) (retarder : Nat) :
    ActuatorsActed p (q.routeRequest fields retarder).1 := by
  unfold Part.routeRequest
  split
  · exact h
  · split
    · exact h
    · split
      · exact h
      · exact h.applyRoute _ _

end ActuatorsActed

end Sys2Proof.Machine
end

section
/-! PROOF. The two laws that every step keeps: what runs in which mode (R28, R34, R47, R48, R76, R94, R103, R168, R176),
and the bounds of the tables and counters (R29, R37, R43, R50, R54, R101, R122, R155, R157, R179, R184). Each is kept by
an operation that leaves its items alone, and by every operation of the actuator blocks. -/

namespace Sys2Proof.Machine

open Safety

/-! ## What runs in which mode -/

/-- The laws `TimersFollowMode` and `AlarmFollowsTiers`, with the modes in which passes run named (R76). -/
structure ModeFollowed (p : Part) : Prop where
  passTimer : p.app.passTimer ≠ none ↔ p.control.mode = .active ∨ p.control.mode = .standingDown
  rotationTimer : p.app.rotationTimer ≠ none ↔ p.control.mode = .active
  standDownStart : p.control.standDownStart ≠ none ↔ p.control.mode = .standingDown
  recovery : p.control.recovery ≠ none → p.control.mode = .fallback
  hold : p.demand.hold.on = true → p.control.mode = .active
  assists : p.demand.assists ≠ [] → p.control.mode = .active
  motionTimer : p.motion.timer ≠ none ↔ p.motion.freshness = .fresh
  thermalTimer : p.thermal.timer ≠ none ↔ p.store.chassis ≠ none
  alarm : p.control.mode ≠ .active → p.control.mode ≠ .standingDown →
    (p.app.alarm = .raised ↔ p.anyFade = true)

theorem Part.passesRun_iff {p : Part} :
    p.passesRun = true ↔ p.control.mode = .active ∨ p.control.mode = .standingDown := by
  unfold Part.passesRun
  split <;> simp_all

theorem modeFollowed_iff {p : Part} : ModeFollowed p ↔ TimersFollowMode p ∧ AlarmFollowsTiers p := by
  have stopped : p.passesRun = false ↔ p.control.mode ≠ .active ∧ p.control.mode ≠ .standingDown := by
    rw [← Bool.not_eq_true, Part.passesRun_iff, not_or]
  constructor
  · intro h
    refine ⟨⟨h.passTimer.trans Part.passesRun_iff.symm, h.rotationTimer, h.standDownStart, h.recovery, h.hold,
      h.assists, h.motionTimer, h.thermalTimer⟩, fun run => ?_⟩
    obtain ⟨notActive, notStanding⟩ := stopped.mp run
    exact h.alarm notActive notStanding
  · rintro ⟨⟨passTimer, rotation, standDown, recovery, hold, assists, motion, thermal⟩, alarm⟩
    exact ⟨passTimer.trans Part.passesRun_iff, rotation, standDown, recovery, hold, assists, motion, thermal,
      fun notActive notStanding => alarm (stopped.mpr ⟨notActive, notStanding⟩)⟩

/-- Whether an axle is in FADE is told by the axles of the coach and their tiers. -/
theorem Part.anyFade_congr {p q : Part} (chassis : q.store.chassis = p.store.chassis)
    (tiers : ∀ a, (q.thermal.axles.get a).tier = (p.thermal.axles.get a).tier) : q.anyFade = p.anyFade := by
  have axles : q.axles = p.axles := by
    unfold Part.axles Part.hasAxle Part.axleCount
    rw [chassis]
  simp only [Part.anyFade, axles, tiers]

/-- An operation that leaves every item that the law reads. -/
theorem ModeFollowed.framed {p q : Part} (h : ModeFollowed p)
    (same : q.control = p.control ∧ q.store.chassis = p.store.chassis ∧ q.app.passTimer = p.app.passTimer ∧
      q.app.rotationTimer = p.app.rotationTimer ∧ q.app.alarm = p.app.alarm ∧ q.demand.hold = p.demand.hold ∧
      q.demand.assists = p.demand.assists ∧ q.motion.timer = p.motion.timer ∧
      q.motion.freshness = p.motion.freshness ∧ q.thermal.timer = p.thermal.timer)
    (tiers : ∀ a, (q.thermal.axles.get a).tier = (p.thermal.axles.get a).tier) : ModeFollowed q := by
  obtain ⟨control, chassis, pass, rotation, alarm, hold, assists, motion, freshness, thermal⟩ := same
  exact
    { passTimer := by rw [pass, control]; exact h.passTimer
      rotationTimer := by rw [rotation, control]; exact h.rotationTimer
      standDownStart := by rw [control]; exact h.standDownStart
      recovery := by rw [control]; exact h.recovery
      hold := by rw [hold, control]; exact h.hold
      assists := by rw [assists, control]; exact h.assists
      motionTimer := by rw [motion, freshness]; exact h.motionTimer
      thermalTimer := by rw [thermal, chassis]; exact h.thermalTimer
      alarm := by rw [control, alarm, Part.anyFade_congr chassis tiers]; exact h.alarm }

/-! ## The bounds of the blocks -/

/-- The bounds of the assist table and of the total demand (R29, R37). -/
structure DemandBounded (d : DemandArbiter) : Prop where
  size : d.assists.length ≤ 4
  requesters : (d.assists.map (·.requester)).Nodup
  forces : ∀ e ∈ d.assists, e.force ≤ 20000
  total : d.total ≤ 20000

/-- The ranges of the Slip Monitor's items (R54). -/
structure SlipBounded (m : SlipMonitor) : Prop where
  value : m.value ≤ 1000
  limit : m.limit ≤ 20000
  counter : m.counter ≤ 3

/-- The ranges of Motion Input's counters and of the published ambient (R43, R50). -/
structure MotionBounded (m : MotionInput) : Prop where
  matchCount : m.matchCount ≤ 3
  mismatchCount : m.mismatchCount ≤ 3
  clamped : m.clamped ≤ 255
  ambient : ∀ r, m.road = some r → -40 ≤ r.ambient ∧ r.ambient ≤ 60

/-- The ranges of the held temperatures, in m°C, and of the ambient last used (R101). -/
structure ThermalBounded (t : ThermalModel) : Prop where
  temps : ∀ a, -40000 ≤ (t.axles.get a).temp ∧ (t.axles.get a).temp ≤ 1500000
  ambientUsed : -40 ≤ t.ambientUsed ∧ t.ambientUsed ≤ 60

/-- The bounds of every block. -/
structure BoundsHeld (p : Part) : Prop where
  demand : DemandBounded p.demand
  faults : FaultsSound p.faults
  engagements : p.ret.engagements.length ≤ 4
  link : LinkSound p.link
  slip : SlipBounded p.slip
  motion : MotionBounded p.motion
  thermal : ThermalBounded p.thermal
  errors : p.vl.errors ≤ 65535

/-- The ambient read while the road data is empty lies in the range too (R45). -/
theorem Part.ambient_bounds_iff {p : Part} :
    (-40 ≤ p.ambient ∧ p.ambient ≤ 60) ↔ ∀ r, p.motion.road = some r → -40 ≤ r.ambient ∧ r.ambient ≤ 60 := by
  cases road : p.motion.road with
  | none => simp [Part.ambient, road]
  | some r => simp [Part.ambient, road]

theorem boundsHeld_iff {p : Part} : BoundsHeld p ↔
    AssistsBounded p ∧ FaultsBounded p ∧ EngagementsBounded p ∧ QueueDistinct p ∧ WithinRanges p ∧
      TemperaturesHeld p := by
  constructor
  · intro h
    obtain ⟨coldest, hottest⟩ := Part.ambient_bounds_iff.mpr h.motion.ambient
    exact ⟨⟨h.demand.size, h.demand.requesters⟩, ⟨h.faults.size, h.faults.keys⟩, h.engagements, h.link.queue,
      ⟨h.demand.total, h.slip.limit, h.slip.counter, h.slip.value, h.motion.matchCount, h.motion.mismatchCount,
        h.motion.clamped, h.faults.overflow, h.errors, h.link.misses, h.demand.forces, h.faults.counts⟩,
      h.thermal.temps, coldest, hottest, h.thermal.ambientUsed⟩
  · rintro ⟨⟨size, requesters⟩, ⟨faultSize, keys⟩, engagements, queue,
      ⟨total, limit, counter, value, matchCount, mismatchCount, clamped, overflow, errors, misses, forces, counts⟩,
      temps, coldest, hottest, ambientUsed⟩
    exact
      { demand := ⟨size, requesters, forces, total⟩
        faults := ⟨faultSize, keys, overflow, counts⟩
        engagements := engagements
        link := ⟨queue, misses⟩
        slip := ⟨value, limit, counter⟩
        motion := ⟨matchCount, mismatchCount, clamped, Part.ambient_bounds_iff.mp ⟨coldest, hottest⟩⟩
        thermal := ⟨temps, ambientUsed⟩
        errors := errors }

/-- An operation that leaves every block that the bounds speak of. -/
theorem BoundsHeld.framed {p q : Part} (h : BoundsHeld p)
    (same : q.demand = p.demand ∧ q.faults = p.faults ∧ q.ret.engagements = p.ret.engagements ∧ q.link = p.link ∧
      q.slip = p.slip ∧ q.motion = p.motion ∧ q.thermal = p.thermal ∧ q.vl.errors = p.vl.errors) : BoundsHeld q := by
  obtain ⟨demand, faults, engagements, link, slip, motion, thermal, errors⟩ := same
  exact ⟨demand ▸ h.demand, faults ▸ h.faults, engagements ▸ h.engagements, link ▸ h.link, slip ▸ h.slip,
    motion ▸ h.motion, thermal ▸ h.thermal, errors ▸ h.errors⟩

/-! ## Operations that keep both laws -/

/-- What an operation does to the two laws: where they hold before it, they hold after it. The bounds are kept in every
state, and the law of the modes is kept by itself. -/
structure LawsKept (p q : Part) : Prop where
  mode : ModeFollowed p → ModeFollowed q
  bounds : BoundsHeld p → BoundsHeld q

namespace LawsKept

variable {p q r : Part}

theorem refl (p : Part) : LawsKept p p := ⟨id, id⟩

theorem trans (h : LawsKept p q) (h' : LawsKept q r) : LawsKept p r :=
  ⟨fun m => h'.mode (h.mode m), fun b => h'.bounds (h.bounds b)⟩

theorem ite {c : Prop} [Decidable c] (h : LawsKept p q) (h' : LawsKept p r) : LawsKept p (if c then q else r) := by
  split
  · exact h
  · exact h'

theorem foldl {α : Type} {f : Part → α → Part} (step : ∀ (q : Part) (a : α), LawsKept q (f q a))
    (h : LawsKept p q) (l : List α) : LawsKept p (l.foldl f q) := by
  induction l generalizing q with
  | nil => exact h
  | cons a l ih => exact ih (h.trans (step q a))

end LawsKept

/-- The actuator blocks touch no item of the law of the modes, and keep the bounds. -/
theorem ActuatorsActed.lawsKept {p q : Part} (a : ActuatorsActed p q) : LawsKept p q where
  mode h := by
    have passTimer : q.app.passTimer = p.app.passTimer := show q.app.standing.passTimer = _ by rw [a.app]; rfl
    have rotationTimer : q.app.rotationTimer = p.app.rotationTimer := 
      show q.app.standing.rotationTimer = _ by rw [a.app]; rfl
    have alarm : q.app.alarm = p.app.alarm := show q.app.standing.alarm = _ by rw [a.app]; rfl
    exact h.framed
      ⟨a.control, by rw [a.store], passTimer, rotationTimer, alarm, by rw [a.demand], by rw [a.demand],
        by rw [a.motion], by rw [a.motion], by rw [a.thermal]⟩ (by simp [a.thermal])
  bounds h :=
    { demand := by rw [a.demand]; exact h.demand
      faults := a.faults h.faults
      engagements := a.engagements h.engagements
      link := a.link h.link
      slip := by rw [a.slip]; exact h.slip
      motion := by rw [a.motion]; exact h.motion
      thermal := by rw [a.thermal]; exact h.thermal
      errors := by rw [a.errors]; exact h.errors }

/-! ## The Demand Arbiter (R22 to R40) -/

theorem Part.totalDemand_le (p : Part) : p.totalDemand ≤ 20000 := by
  unfold Part.totalDemand
  dsimp only
  split <;> exact Nat.min_le_right _ _

/-- A recomputed total keeps the bounds of the assist table, and lies within its own (R37). -/
theorem DemandBounded.retotal {p : Part} (size : p.demand.assists.length ≤ 4)
    (requesters : (p.demand.assists.map (·.requester)).Nodup) (forces : ∀ e ∈ p.demand.assists, e.force ≤ 20000) :
    DemandBounded p.retotal.demand :=
  ⟨size, requesters, forces, p.totalDemand_le⟩

/-- An operation on the Demand Arbiter alone that keeps its bounds, and turns speed hold on and fills the assist table
in ACTIVE alone. -/
theorem LawsKept.ofDemand {p q : Part}
    (hold : p.control.mode ≠ .active → q.demand.hold.on = true → p.demand.hold.on = true)
    (assists : p.control.mode ≠ .active → q.demand.assists ≠ [] → p.demand.assists ≠ [])
    (bounds : DemandBounded p.demand → DemandBounded q.demand) (same : q = { p with demand := q.demand }) :
    LawsKept p q := by
  rw [same]
  exact ⟨fun m => { m with
      hold := fun on => by_contra fun notActive => notActive (m.hold (hold notActive on))
      assists := fun held => by_contra fun notActive => notActive (m.assists (assists notActive held)) },
    fun b => { b with demand := bounds b.demand }⟩

theorem lawsKept_retotal (p : Part) : LawsKept p p.retotal :=
  .ofDemand (fun _ => id) (fun _ => id) (fun d => .retotal d.size d.requesters d.forces) rfl

theorem lawsKept_remapForces (p : Part) : LawsKept p p.remapForces :=
  .ofDemand (fun _ => id) (fun _ => id) (fun d => .retotal d.size d.requesters d.forces) rfl

/-- Speed hold moves only while it is ON (R27). -/
theorem lawsKept_takeDemandRecord (p : Part) (pedal lever : Nat) (reference : Option Nat) :
    LawsKept p (p.takeDemandRecord pedal lever reference) := by
  refine .ofDemand (fun _ => ?_) (fun _ => id) (fun d => .retotal d.size d.requesters d.forces) rfl
  change (match reference with
    | some v => if p.demand.hold.on then p.holdUpdate v else p.demand.hold
    | none => p.demand.hold).on = true → _
  cases reference with
  | none => exact id
  | some v =>
    dsimp only
    split
    · exact id
    · exact id

theorem lawsKept_speedHoldUpdate (p : Part) : LawsKept p p.speedHoldUpdate := by
  unfold Part.speedHoldUpdate
  split
  · exact ((ActuatorsActed.refl p).taken _).lawsKept.trans (lawsKept_takeDemandRecord _ _ _ _)
  · exact .refl p

theorem lawsKept_holdSet (p : Part) (setpoint : Nat) : LawsKept p (p.holdSet setpoint).1 := by
  unfold Part.holdSet
  split
  · exact .refl p
  · next active =>
    exact .ofDemand (fun notActive => absurd notActive active) (fun _ => id)
      (fun d => .retotal d.size d.requesters d.forces) rfl

theorem lawsKept_cancelHold (p : Part) : LawsKept p p.cancelHold :=
  .ofDemand (fun _ on => nomatch on) (fun _ => id) (fun d => .retotal d.size d.requesters d.forces) rfl

theorem Part.assistForceOf_le (mass decel : Nat) : Part.assistForceOf mass decel ≤ 20000 := Nat.min_le_right _ _

/-- Setting the coach mass keeps each entry and its requester (R36). -/
theorem lawsKept_setMass (p : Part) (kg : Nat) : LawsKept p (p.setMass kg) := by
  refine .ofDemand (fun _ => id) (fun _ => ?_) (fun d => .retotal ?_ ?_ ?_) rfl
  · simp [Part.setMass]
  · simpa using d.size
  · simpa [Function.comp_def] using d.requesters
  · intro e he
    obtain ⟨old, -, rfl⟩ := List.mem_map.mp he
    exact Part.assistForceOf_le _ _

theorem lawsKept_mass (p : Part) (kg : Nat) : LawsKept p (p.mass kg).1 := by
  unfold Part.mass
  split
  · exact .refl p
  · exact lawsKept_setMass p _

/-- The assist table replaced by one within its bounds, while ACTIVE or by one that only lost entries. -/
theorem lawsKept_setAssists {p : Part} {l : List AssistEntry}
    (filled : p.control.mode ≠ .active → l ≠ [] → p.demand.assists ≠ [])
    (bounds : DemandBounded p.demand →
      l.length ≤ 4 ∧ (l.map (·.requester)).Nodup ∧ ∀ e ∈ l, e.force ≤ 20000) : LawsKept p (p.setAssists l) := by
  refine .ofDemand (fun _ => id) filled (fun d => ?_) rfl
  obtain ⟨size, requesters, forces⟩ := bounds d
  exact .retotal size requesters forces

theorem lawsKept_setAssists_of_sublist {p : Part} {l : List AssistEntry} (fewer : l.Sublist p.demand.assists) :
    LawsKept p (p.setAssists l) := by
  refine lawsKept_setAssists (fun _ some_ none_ => some_ ?_) fun d => ⟨fewer.length_le.trans d.size,
    d.requesters.sublist (fewer.map _), fun e he => d.forces e (fewer.subset he)⟩
  rw [none_] at fewer
  exact List.sublist_nil.mp fewer

/-- Renewing a requester's entry leaves the requesters as they were (R31). -/
theorem requesters_of_renewed (l : List AssistEntry) (e : AssistEntry) :
    (l.map fun x => if x.requester == e.requester then e else x).map (·.requester) = l.map (·.requester) := by
  rw [List.map_map]
  refine List.map_congr_left fun x _ => ?_
  simp only [Function.comp_apply]
  split
  · next same => exact (beq_iff_eq.mp same).symm
  · rfl

/-- A renewed entry keeps its requester, and an added one brings a new requester while fewer than four are held
(R31). -/
theorem lawsKept_assist (p : Part) (requester decel hold : Nat) : LawsKept p (p.assist requester decel hold).1 := by
  unfold Part.assist
  split
  · exact .refl p
  · next active =>
    split
    · exact .refl p
    · dsimp only
      split
      · refine lawsKept_setAssists (fun notActive => absurd notActive active) fun d => ⟨by simpa using d.size, ?_, ?_⟩
        · exact (congrArg List.Nodup (requesters_of_renewed _ (p.assistEntry requester _ _))).mpr d.requesters
        · intro e he
          obtain ⟨old, hold_, rfl⟩ := List.mem_map.mp he
          split
          · exact Part.assistForceOf_le _ _
          · exact d.forces old hold_
      · next unknown =>
        split
        · exact .refl p
        · next room =>
          refine lawsKept_setAssists (fun notActive => absurd notActive active) fun d => ⟨?_, ?_, ?_⟩
          · simpa using room
          · rw [List.map_append, List.nodup_append]
            refine ⟨d.requesters, by simp, ?_⟩
            rintro _ hx _ hnew rfl
            obtain ⟨x, hx, same⟩ := List.mem_map.mp hx
            exact unknown (List.any_eq_true.mpr ⟨x, hx, beq_iff_eq.mpr (same.trans (List.mem_singleton.mp hnew))⟩)
          · intro e he
            obtain he | he := List.mem_append.mp he
            · exact d.forces e he
            · obtain rfl := List.mem_singleton.mp he
              exact Part.assistForceOf_le _ _

theorem lawsKept_assistCancel (p : Part) (requester : Nat) : LawsKept p (p.assistCancel requester).1 := by
  unfold Part.assistCancel
  split
  · exact .refl p
  · split
    · exact lawsKept_setAssists_of_sublist List.filter_sublist
    · exact .refl p

theorem lawsKept_assistExpiry (p : Part) (requester : Nat) : LawsKept p (p.assistExpiry requester) :=
  (lawsKept_setAssists_of_sublist List.filter_sublist).ite (.refl p)

theorem lawsKept_dropAssists (p : Part) : LawsKept p p.dropAssists := by
  have dropped : LawsKept (p.setAssists []) (p.setAssists []).flagAssistDropped :=
    ((ActuatorsActed.refl _).framed (by simp)).lawsKept
  exact (LawsKept.refl p).ite ((lawsKept_setAssists_of_sublist (List.nil_sublist _)).trans dropped)

end Sys2Proof.Machine
end

section
/-! PROOF. The Slip Monitor, Motion Input and the Thermal Model keep both laws (R42 to R57, R101 to R116). -/

namespace Sys2Proof.Machine

namespace LawsKept

variable {p q r : Part}

theorem acted (h : LawsKept p q) (a : ActuatorsActed q r) : LawsKept p r := h.trans a.lawsKept

theorem needCapacities (h : LawsKept p q) : LawsKept p q.needCapacities :=
  h.acted (ActuatorsActed.refl q).needCapacities

theorem handOn (h : LawsKept p q) (x : Handoff) : LawsKept p (q.handOn x) := h.acted ((ActuatorsActed.refl q).handOn x)

theorem answer (h : LawsKept p q) (kind tag : Byte) (r : Reply) : LawsKept p (q.answer kind tag r) :=
  h.acted ((ActuatorsActed.refl q).answer kind tag r)

theorem faultOccurs (h : LawsKept p q) (src : Source) (code : FaultCode) : LawsKept p (q.faultOccurs src code) :=
  h.acted ((ActuatorsActed.refl q).faultOccurs src code)

theorem faultEnds (h : LawsKept p q) (src : Source) (code : FaultCode) : LawsKept p (q.faultEnds src code) :=
  h.acted ((ActuatorsActed.refl q).faultEnds src code)

end LawsKept

/-! ## The Slip Monitor (R54 to R57) -/

theorem slipValueOf_le (reference drive : Nat) : slipValueOf reference drive ≤ 1000 := by
  refine Nat.div_le_of_le_mul ?_
  rw [Nat.mul_comm reference]
  omega

theorem SlipBounded.slipOver {p : Part} (h : SlipBounded p.slip) {value : Nat} (low : value ≤ 1000) :
    SlipBounded (p.slipOver value).slip := by
  have cut : p.cutLimit ≤ 20000 := (Nat.min_le_right _ _).trans h.limit
  unfold Part.slipOver
  dsimp only
  split
  · split <;> exact ⟨low, cut, Nat.zero_le 3⟩
  · next uncut =>
    refine ⟨low, h.limit, ?_⟩
    change p.slip.counter + 1 ≤ 3
    omega

theorem SlipBounded.slipRecover {p : Part} (h : SlipBounded p.slip) {value : Nat} (low : value ≤ 1000) :
    SlipBounded (p.slipRecover value).slip := by
  unfold Part.slipRecover
  dsimp only
  split
  · split
    · exact ⟨low, Nat.le_refl _, Nat.zero_le 3⟩
    · next below =>
      refine ⟨low, ?_, Nat.zero_le 3⟩
      change p.slip.limit + p.setting idSlipStep ≤ 20000
      omega
  · exact ⟨low, h.limit, Nat.zero_le 3⟩

theorem SlipBounded.takeSlipRecord {p : Part} (h : SlipBounded p.slip) (reference : Nat) (drive : Option Nat)
    (nonDriven : Bool) : SlipBounded (p.takeSlipRecord reference drive nonDriven).slip := by
  unfold Part.takeSlipRecord
  cases drive with
  | none => exact h
  | some d =>
    dsimp only
    split
    · split
      · exact h.slipOver (slipValueOf_le _ _)
      · exact h.slipRecover (slipValueOf_le _ _)
    · exact h

theorem lawsKept_takeSlipRecord (p : Part) (reference : Nat) (drive : Option Nat) (nonDriven : Bool) :
    LawsKept p (p.takeSlipRecord reference drive nonDriven) where
  mode m := m.framed (by simp) (by simp)
  bounds b :=
    have slipTaken : BoundsHeld { p with slip := (p.takeSlipRecord reference drive nonDriven).slip } :=
      { b with slip := b.slip.takeSlipRecord _ _ _ }
    slipTaken.framed (by simp)

theorem lawsKept_slipEvaluation (p : Part) : LawsKept p p.slipEvaluation := by
  unfold Part.slipEvaluation
  split
  · exact ((ActuatorsActed.refl p).taken .slipRecord).lawsKept.trans (lawsKept_takeSlipRecord _ _ _ _)
  · exact .refl p

/-! ## Motion Input (R42 to R53) -/

theorem lawsKept_countClamped (p : Part) : LawsKept p p.countClamped where
  mode m := { m with }
  bounds b := { b with motion := { b.motion with clamped := Nat.min_le_right _ _ } }

theorem lawsKept_judgeSpeedMissing (p : Part) (wheels : Axles (Option Nat)) (a : Axle) :
    LawsKept p (p.judgeSpeedMissing wheels a) := by
  have noted : ∀ v, LawsKept p
      { p with motion := { p.motion with speedMissing := p.motion.speedMissing.set a v } } := fun v =>
    ⟨fun m => { m with }, fun b => { b with motion := { b.motion with } }⟩
  unfold Part.judgeSpeedMissing
  dsimp only
  split
  · exact (noted true).faultOccurs _ _
  · exact (noted false).faultEnds _ _
  · exact .refl p
  · exact .refl p

theorem lawsKept_publishEngine (p : Part) (l : LimitedRecord) : LawsKept p (p.publishEngine l) where
  mode m := { m with }
  bounds b := { b with motion := { b.motion with } }

/-- What the driveline check of a record leaves of Motion Input's other items. -/
structure DrivelineJudged (m n : MotionInput) : Prop where
  freshness : n.freshness = m.freshness
  timer : n.timer = m.timer
  bounded : MotionBounded m → MotionBounded n

theorem DrivelineJudged.ite {m n n' : MotionInput} {c : Prop} [Decidable c] (h : DrivelineJudged m n)
    (h' : DrivelineJudged m n') : DrivelineJudged m (if c then n else n') := by
  split
  · exact h
  · exact h'

/-- The driveline state set anew, with both counters at 0 (R51). -/
theorem DrivelineJudged.restarted {m n : MotionInput} (h : DrivelineJudged m n) (state : Driveline) :
    DrivelineJudged m { n with driveline := state, matchCount := 0, mismatchCount := 0 } :=
  ⟨h.freshness, h.timer, fun b => ⟨Nat.zero_le 3, Nat.zero_le 3, (h.bounded b).clamped, (h.bounded b).ambient⟩⟩

theorem DrivelineJudged.noted {m n : MotionInput} (h : DrivelineJudged m n) (position : Gear × Bool) :
    DrivelineJudged m { n with previous := some position } :=
  ⟨h.freshness, h.timer, fun b =>
    ⟨(h.bounded b).matchCount, (h.bounded b).mismatchCount, (h.bounded b).clamped, (h.bounded b).ambient⟩⟩

theorem judgeEngagement_judged (m : MotionInput) (gear : Gear) (clutch : Bool) :
    DrivelineJudged m (Part.judgeEngagement m gear clutch) :=
  have kept : DrivelineJudged m m := ⟨rfl, rfl, id⟩
  have changed := (kept.restarted _).ite kept
  (changed.ite (changed.restarted _)).noted _

theorem countComparison_judged (m : MotionInput) (isMatch : Bool) :
    DrivelineJudged m (Part.countComparison m isMatch) := by
  cases isMatch with
  | true => exact ⟨rfl, rfl, fun h => ⟨Nat.min_le_right _ _, Nat.zero_le 3, h.clamped, h.ambient⟩⟩
  | false => exact ⟨rfl, rfl, fun h => ⟨Nat.zero_le 3, Nat.min_le_right _ _, h.clamped, h.ambient⟩⟩

theorem compareDriveline_judged (p : Part) (m : MotionInput) (reference : Option Nat) (engine : Nat) (gear : Gear) :
    DrivelineJudged m (p.compareDriveline m reference engine gear) := by
  unfold Part.compareDriveline
  split
  · split
    · exact countComparison_judged m _
    · exact ⟨rfl, rfl, id⟩
  · exact ⟨rfl, rfl, id⟩

/-- Motion Input with the driveline judged and any present state of MISMATCH. -/
theorem lawsKept_driveline {p : Part} {n : MotionInput} (judged : DrivelineJudged p.motion n) (present : Bool) :
    LawsKept p { p with motion := { n with mismatchPresent := present } } where
  mode m := { m with motionTimer := by rw [judged.freshness, judged.timer]; exact m.motionTimer }
  bounds b := { b with motion := { judged.bounded b.motion with } }

theorem lawsKept_driveCheck (p : Part) (reference : Option Nat) (engine : Nat) (gear : Gear) (clutch : Bool) :
    LawsKept p (p.driveCheck reference engine gear clutch) := by
  obtain ⟨freshness, timer, bounded⟩ := judgeEngagement_judged p.motion gear clutch
  obtain ⟨freshness', timer', bounded'⟩ :=
    compareDriveline_judged p (Part.judgeEngagement p.motion gear clutch) reference engine gear
  have judged := lawsKept_driveline
    ⟨freshness'.trans freshness, timer'.trans timer, fun h => bounded' (bounded h)⟩
  have raised := fun present c => ((judged present).faultOccurs .driveline .mismatch).ite (judged present)
    (c := c = true)
  have ended := fun present c c' => ((raised present c).faultEnds .driveline .mismatch).ite (raised present c)
    (c := c' = true)
  exact (ended _ _ _).ite (ended _ _ _).needCapacities

theorem lawsKept_publishRoad (p : Part) {l : LimitedRecord} (ambient : -40 ≤ l.ambient ∧ l.ambient ≤ 60) (v : Nat) :
    LawsKept p (p.publishRoad l v) where
  mode m := { m with }
  bounds b :=
    have published : ∀ r, (p.publishRoad l v).motion.road = some r → -40 ≤ r.ambient ∧ r.ambient ≤ 60 := by
      rintro _ ⟨⟩
      exact ambient
    { b with motion := { b.motion with ambient := published } }

/-- A valid record makes motion FRESH with its timer started (R47). -/
theorem lawsKept_refresh (p : Part) : LawsKept p p.refresh := by
  have fresh : LawsKept p { p with motion := { p.motion with
      freshness := .fresh, timer := p.startTimer (p.setting idMotionStale), stalePresent := false } } :=
    ⟨fun m => { m with motionTimer := by simp [Part.startTimer] },
      fun b => { b with motion := { b.motion with } }⟩
  exact (fresh.faultEnds _ _).ite fresh

theorem limitRecord_ambient (p : Part) (r : MotionRecord) :
    -40 ≤ (p.limitRecord r).ambient ∧ (p.limitRecord r).ambient ≤ 60 := by
  change -40 ≤ limitInt (-40) 60 r.ambient ∧ limitInt (-40) 60 r.ambient ≤ 60
  unfold limitInt
  omega

/-- The motion timer's expiry makes motion STALE with its timer stopped (R48), before Mode Control acts. -/
def Part.madeStale (p : Part) : Part :=
  let q := { p with motion := { p.motion with freshness := .stale, timer := none, stalePresent := true } }
  if p.motion.stalePresent then q else q.faultOccurs .motion .staleMotion

theorem Part.motionTimerExpiry_eq (p : Part) :
    p.motionTimerExpiry = if timerDue p.motion.timer p.now then p.madeStale.modeOnStale else p := rfl

theorem lawsKept_madeStale (p : Part) : LawsKept p p.madeStale := by
  have stale : LawsKept p { p with motion := { p.motion with
      freshness := .stale, timer := none, stalePresent := true } } :=
    ⟨fun m => { m with motionTimer := by simp },
      fun b => { b with motion := { b.motion with } }⟩
  exact stale.ite (stale.faultOccurs _ _)

/-! ## The Thermal Model (R101 to R116) -/

/-- Cooling takes an axle no lower than the ambient (R109), and a temperature no higher than 1500 °C is held. -/
theorem newTemp_bounds {temp ambient : Int} (cold : -40000 ≤ temp) (ambient_ : -40 ≤ ambient) (k heating : Nat) :
    -40000 ≤ newTemp temp ambient k heating ∧ newTemp temp ambient k heating ≤ 1500000 := by
  have cooling : coolingOf temp ambient k ≤ 0 ∨ coolingOf temp ambient k ≤ temp - ambient * 1000 := by
    unfold coolingOf
    dsimp only
    split
    · exact .inl (Int.le_refl 0)
    · exact .inr (Int.min_le_right _ _)
  unfold newTemp
  omega

theorem updatedAxle_temp {p : Part} (b : BoundsHeld p) (a : Axle) :
    -40000 ≤ (p.updatedAxle a).temp ∧ (p.updatedAxle a).temp ≤ 1500000 := by
  unfold Part.updatedAxle
  split
  · next c r _ road =>
    split
    · exact newTemp_bounds (b.thermal.temps a).1 (b.motion.ambient r road).1 _ _
    · exact b.thermal.temps a
  · exact b.thermal.temps a

@[simp] theorem Part.tieredAxle_temp (p : Part) (a : Axle) : (p.tieredAxle a).temp = (p.updatedAxle a).temp := by
  unfold Part.tieredAxle
  dsimp only
  split <;> rfl

theorem seededAxle_temp {p : Part} (b : ThermalBounded p.thermal) (temps : List Int) (a : Axle) :
    -40000 ≤ (p.seededAxle temps a).temp ∧ (p.seededAxle temps a).temp ≤ 1500000 := by
  unfold Part.seededAxle
  dsimp only
  split
  · change -40000 ≤ limitInt (-40) 1000 _ * 1000 ∧ limitInt (-40) 1000 _ * 1000 ≤ 1500000
    unfold limitInt
    omega
  · exact b.temps a

theorem Part.judgeAlarm_app (p : Part) :
    p.judgeAlarm.app = { p.app with alarm := if p.anyFade then .raised else .clear } := by
  have set : ∀ al, p.app.alarm = al → { p.app with alarm := al } = p.app := fun al h => by rw [← h]
  unfold Part.judgeAlarm
  split
  · next fade => rw [fade]; rfl
  · next fade => rw [fade]; rfl
  · next clear fade => rw [fade]; exact (set _ clear).symm
  · next raised fade => rw [fade]; exact (set _ raised).symm

theorem tiers_same_of_not_differ {x y : Axles AxleThermal} (h : Part.tiersDiffer x y = false) (a : Axle) :
    (y.get a).tier = (x.get a).tier := by
  have same := List.any_eq_false.mp h a (Axles.mem_all a)
  rw [decide_eq_true_eq, not_not] at same
  exact same.symm

/-- The records of the Thermal Model replaced, and a tier change handed on (R112): while passes are stopped the alarm is
judged anew whenever a tier changed (R176). -/
def Part.thermalReplaced (p : Part) (t : ThermalModel) : Part :=
  if Part.tiersDiffer p.thermal.axles t.axles then { p with thermal := t }.informTierChange else { p with thermal := t }

theorem modeFollowed_thermalReplaced {p : Part} (h : ModeFollowed p) {t : ThermalModel}
    (timer : t.timer ≠ none ↔ p.thermal.timer ≠ none) : ModeFollowed (p.thermalReplaced t) := by
  unfold Part.thermalReplaced
  split
  · have timers : t.timer ≠ none ↔ p.store.chassis ≠ none := timer.trans h.thermalTimer
    unfold Part.informTierChange Part.tierChangeAlarm
    split
    · next run =>
      have running := Part.passesRun_iff.mp run
      exact { h with
        thermalTimer := timers
        alarm := fun notActive notStanding => absurd running (not_or.mpr ⟨notActive, notStanding⟩) }
    · exact
        { passTimer := by simpa [Part.judgeAlarm_app] using h.passTimer
          rotationTimer := by simpa [Part.judgeAlarm_app] using h.rotationTimer
          standDownStart := by simpa using h.standDownStart
          recovery := by simpa using h.recovery
          hold := by simpa using h.hold
          assists := by simpa using h.assists
          motionTimer := by simpa using h.motionTimer
          thermalTimer := by simpa using timers
          alarm := fun _ _ => by
            rw [Part.anyFade_congr (p := { p with thermal := t }.needCapacities) (by simp) (by simp),
              Part.judgeAlarm_app]
            split <;> simp_all }
  · next same =>
    have fade : Part.anyFade { p with thermal := t } = p.anyFade :=
      Part.anyFade_congr rfl (tiers_same_of_not_differ (by simpa using same))
    exact { h with
      thermalTimer := timer.trans h.thermalTimer
      alarm := by rw [fade]; exact h.alarm }

theorem boundsHeld_thermalReplaced {p : Part} (b : BoundsHeld p) {t : ThermalModel} (bounded : ThermalBounded t) :
    BoundsHeld (p.thermalReplaced t) := by
  have replaced : BoundsHeld { p with thermal := t } := { b with thermal := bounded }
  unfold Part.thermalReplaced
  split
  · exact replaced.framed (by simp [Part.informTierChange])
  · exact replaced

/-- The Thermal Model's items after an update at the expiry of its timer (R103 to R112). -/
def Part.thermalAfter (p : Part) (t : Timer) : ThermalModel :=
  { axles := .ofFn p.tieredAxle
    ambientUsed := if p.motion.freshness = .fresh then p.ambient else p.thermal.ambientUsed
    timer := some ⟨t.expiry, 100⟩
    running := decide (p.motion.freshness = .fresh) }

theorem Part.thermalUpdate_of_timer {p : Part} {t : Timer} (running : p.thermal.timer = some t) :
    p.thermalUpdate = if t.due p.now then p.thermalReplaced (p.thermalAfter t) else p := by
  simp only [Part.thermalUpdate, running, Part.thermalReplaced, Part.thermalAfter, decide_eq_true_eq]
  rfl

theorem lawsKept_thermalUpdate (p : Part) : LawsKept p p.thermalUpdate := by
  cases running : p.thermal.timer with
  | none =>
    rw [Part.thermalUpdate_of_not_due (by rw [running]; rfl)]
    exact .refl p
  | some t =>
    rw [Part.thermalUpdate_of_timer running]
    refine LawsKept.ite ⟨fun m => modeFollowed_thermalReplaced m ?_, fun b => boundsHeld_thermalReplaced b ?_⟩ (.refl p)
    · simp [Part.thermalAfter, running]
    · refine ⟨fun a => by simpa [Part.thermalAfter] using updatedAxle_temp b a, ?_⟩
      unfold Part.thermalAfter
      dsimp only
      split
      · exact Part.ambient_bounds_iff.mpr b.motion.ambient
      · exact b.thermal.ambientUsed

theorem lawsKept_seedTemps (p : Part) (temps : List Int) : LawsKept p (p.seedTemps temps).1 := by
  have seeded : LawsKept p (p.thermalReplaced { p.thermal with axles := .ofFn (p.seededAxle temps) }) :=
    ⟨fun m => modeFollowed_thermalReplaced m .rfl, fun b => boundsHeld_thermalReplaced b
      ⟨fun a => by simpa using seededAxle_temp b.thermal temps a, b.thermal.ambientUsed⟩⟩
  unfold Part.seedTemps
  split
  · exact .refl p
  · split
    · exact .refl p
    · split
      · exact .refl p
      · split
        · exact .refl p
        · exact seeded

@[simp] theorem Part.clearReported_untouched (p : Part) :
    p.clearReported.control = p.control ∧ p.clearReported.store = p.store ∧ p.clearReported.demand = p.demand ∧
      p.clearReported.motion = p.motion ∧ p.clearReported.slip = p.slip ∧ p.clearReported.app = p.app ∧
      p.clearReported.ret = p.ret ∧ p.clearReported.link = p.link ∧ p.clearReported.faults = p.faults ∧
      p.clearReported.vl = p.vl :=
  ⟨rfl, rfl, rfl, rfl, rfl, rfl, rfl, rfl, rfl, rfl⟩

/-- A report clears the tier-changed flags, and leaves the tiers and the temperatures (R181). -/
theorem lawsKept_statusReport (p : Part) : LawsKept p p.statusReport := by
  have cleared : LawsKept p (p.form (.status p.statusContents)).clearReported :=
    ⟨fun m => m.framed (by simp; rfl) (by simp [Part.clearReported]), fun b => { b with
      thermal := ⟨fun a => by simpa [Part.clearReported] using b.thermal.temps a, b.thermal.ambientUsed⟩
      errors := by simpa using b.errors }⟩
  exact LawsKept.ite (cleared.acted ((ActuatorsActed.refl _).framed (by simp))) (.refl p)

end Sys2Proof.Machine
end

section
/-! PROOF. A change of mode keeps both laws (R168): the mode left gives up its start time, the passes start or stop with
their timers, and the alarm is judged from the tiers wherever they stop. Then the pass itself (R76, R175) and the
requests and timers of Mode Control and the Apportioner. -/

namespace Sys2Proof.Machine

open Safety

/-! ## Passes stop (R98) -/

@[simp] theorem Part.stopPasses_app (p : Part) : p.stopPasses.app = stoppedApportioner p.app := by
  simp [Part.stopPasses]

/-- Once the Apportioner has stopped, what it hands on is the work of the actuator blocks. -/
theorem Part.stopPasses_acted (p : Part) :
    ActuatorsActed { p with app := Part.stoppedApportioner p.app } p.stopPasses :=
  (((ActuatorsActed.refl _).discardLanes _).flapOpenWant.stopRetarder).stopChannels

theorem boundsHeld_stopPasses {p : Part} (b : BoundsHeld p) : BoundsHeld p.stopPasses :=
  p.stopPasses_acted.lawsKept.bounds { b with }

/-- The law of the modes where passes are stopped: it asks nothing of the part before. -/
theorem ModeFollowed.ofStopped {p : Part} (a : Apportioner)
    (notActive : p.control.mode ≠ .active) (notStanding : p.control.mode ≠ .standingDown)
    (standDownStart : p.control.standDownStart = none)
    (recovery : p.control.recovery ≠ none → p.control.mode = .fallback)
    (app : p.app = { Part.stoppedApportioner a with alarm := if p.anyFade then .raised else .clear })
    (hold : p.demand.hold.on = false) (assists : p.demand.assists = [])
    (motionTimer : p.motion.timer ≠ none ↔ p.motion.freshness = .fresh)
    (thermalTimer : p.thermal.timer ≠ none ↔ p.store.chassis ≠ none) : ModeFollowed p where
  passTimer := by simp [app, Part.stoppedApportioner, Apportioner.cold, notActive, notStanding]
  rotationTimer := by simp [app, Part.stoppedApportioner, Apportioner.cold, notActive]
  standDownStart := by simp [standDownStart, notStanding]
  recovery := recovery
  hold on := by simp [hold] at on
  assists held := absurd assists held
  motionTimer := motionTimer
  thermalTimer := thermalTimer
  alarm _ _ := by cases fade : p.anyFade <;> simp [app, fade]

/-! ## A change of mode (R168) -/

/-- Mode Control's items at a change to the mode given, with the start time of the mode left gone (R168). -/
def ModeControl.entering (c : ModeControl) (new : Mode) : ModeControl :=
  { mode := new
    standDownStart := if c.mode = .standingDown then none else c.standDownStart
    recovery := if c.mode = .fallback then none else c.recovery }

/-- The part at a change of mode, before the other blocks act on it. -/
def Part.entering (p : Part) (new : Mode) : Part := { p with control := p.control.entering new }.flagModeChanged

theorem Part.changeMode_eq {p : Part} {new : Mode} (change : p.control.mode ≠ new) :
    p.changeMode new = ((p.entering new).actOnModeChange p.control.mode).needCapacities := if_neg change

theorem Part.changeMode_same {p : Part} {new : Mode} (same : p.control.mode = new) : p.changeMode new = p := if_pos same

@[simp] theorem Part.changeMode_control {p : Part} {new : Mode} (change : p.control.mode ≠ new) :
    (p.changeMode new).control = p.control.entering new := by
  rw [Part.changeMode_eq change]
  simp [Part.entering]

/-- What a change of mode leaves of the parts that the law of the modes reads. -/
@[simp] theorem Part.entering_untouched (p : Part) (new : Mode) :
    (p.entering new).now = p.now ∧ (p.entering new).control = p.control.entering new ∧
    (p.entering new).store = p.store ∧ (p.entering new).demand = p.demand ∧ (p.entering new).motion = p.motion ∧
    (p.entering new).slip = p.slip ∧ (p.entering new).cap = p.cap ∧ (p.entering new).app = p.app ∧
    (p.entering new).thermal = p.thermal ∧ (p.entering new).ret = p.ret ∧ (p.entering new).flap = p.flap ∧
    (p.entering new).chan = p.chan ∧ (p.entering new).retRoute = p.retRoute ∧ (p.entering new).link = p.link ∧
    (p.entering new).faults = p.faults ∧ (p.entering new).vl = p.vl ∧ (p.entering new).fswClosed = p.fswClosed ∧
    (p.entering new).handed = p.handed := by
  simp [Part.entering]

section

variable {p : Part} {old : Mode}

theorem Part.actOnModeChange_active (mode : p.control.mode = .active) : p.actOnModeChange old =
    if old = .standingDown then p.retotal.startRotationTimer else p.startPassTimer.startRotationTimer := by
  simp only [Part.actOnModeChange, mode]

theorem Part.actOnModeChange_standingDown (mode : p.control.mode = .standingDown) :
    p.actOnModeChange old = p.cancelHold.dropAssists.retotal.stopRotationTimer := by
  simp only [Part.actOnModeChange, mode]

theorem Part.actOnModeChange_fallback (mode : p.control.mode = .fallback) :
    p.actOnModeChange old = (p.stopPasses.cancelHold.dropAssists).judgeAlarm := by
  simp only [Part.actOnModeChange, mode]

theorem Part.actOnModeChange_standby (mode : p.control.mode = .standby) :
    p.actOnModeChange old = if old = .fallback then p else p.stopPasses.retotal.judgeAlarm := by
  simp only [Part.actOnModeChange, mode]

end

@[simp] theorem Part.cancelHold_off (p : Part) : p.cancelHold.demand.hold.on = false := rfl

@[simp] theorem Part.cancelHold_assists (p : Part) : p.cancelHold.demand.assists = p.demand.assists := rfl

@[simp] theorem Part.dropAssists_empty (p : Part) : p.dropAssists.demand.assists = [] := by
  unfold Part.dropAssists
  split
  · next empty => exact List.isEmpty_iff.mp empty
  · rfl

@[simp] theorem Part.dropAssists_hold (p : Part) : p.dropAssists.demand.hold = p.demand.hold := by
  unfold Part.dropAssists
  split <;> rfl

theorem Part.anyFade_of_unchanged {p q : Part} (store : q.store = p.store) (thermal : q.thermal = p.thermal) :
    q.anyFade = p.anyFade :=
  Part.anyFade_congr (by rw [store]) (by simp [thermal])

@[simp] theorem Part.judgeAlarm_anyFade (p : Part) : p.judgeAlarm.anyFade = p.anyFade :=
  Part.anyFade_of_unchanged (by simp) (by simp)

@[simp] theorem Part.needCapacities_anyFade (p : Part) : p.needCapacities.anyFade = p.anyFade := rfl

@[simp] theorem Part.entering_anyFade (p : Part) (new : Mode) : (p.entering new).anyFade = p.anyFade := rfl

theorem boundsHeld_entering {p : Part} (b : BoundsHeld p) (new : Mode) : BoundsHeld (p.entering new) := { b with }

theorem boundsHeld_judgeAlarm {p : Part} (b : BoundsHeld p) : BoundsHeld p.judgeAlarm :=
  b.framed (by simp)

theorem boundsHeld_actOnModeChange {p : Part} (b : BoundsHeld p) (old : Mode) :
    BoundsHeld (p.actOnModeChange old) := by
  unfold Part.actOnModeChange
  split
  · split
    · exact ((lawsKept_retotal p).bounds b).framed (by simp)
    · exact b.framed (by simp)
  · have dropped := (lawsKept_cancelHold p).trans (lawsKept_dropAssists _)
    exact ((dropped.trans (lawsKept_retotal _)).bounds b).framed (by simp)
  · exact boundsHeld_judgeAlarm
      (((lawsKept_cancelHold _).trans (lawsKept_dropAssists _)).bounds (boundsHeld_stopPasses b))
  · split
    · exact b
    · exact boundsHeld_judgeAlarm ((lawsKept_retotal _).bounds (boundsHeld_stopPasses b))
  · exact boundsHeld_judgeAlarm ((lawsKept_retotal _).bounds (boundsHeld_stopPasses b))

theorem boundsHeld_changeMode {p : Part} (b : BoundsHeld p) (new : Mode) : BoundsHeld (p.changeMode new) := by
  by_cases change : p.control.mode = new
  · rwa [Part.changeMode_same change]
  · rw [Part.changeMode_eq change]
    exact ((LawsKept.refl _).needCapacities).bounds (boundsHeld_actOnModeChange (boundsHeld_entering b new) _)

/-! ## Each mode entered -/

namespace ModeFollowed

variable {p : Part}

theorem noStandDownStart (h : ModeFollowed p) (new : Mode) : (p.control.entering new).standDownStart = none := by
  unfold ModeControl.entering
  dsimp only
  split
  · rfl
  · next other => exact not_not.mp fun some_ => other (h.standDownStart.mp some_)

theorem noRecovery (h : ModeFollowed p) (new : Mode) : (p.control.entering new).recovery = none := by
  unfold ModeControl.entering
  dsimp only
  split
  · rfl
  · next other => exact not_not.mp fun some_ => other (h.recovery some_)

theorem holdOff (h : ModeFollowed p) (inactive : p.control.mode ≠ .active) : p.demand.hold.on = false := by
  simpa using mt h.hold inactive

theorem noAssists (h : ModeFollowed p) (inactive : p.control.mode ≠ .active) : p.demand.assists = [] := by
  simpa using mt h.assists inactive

/-- Entry to ACTIVE starts the rotation timer, and the pass timer where it does not run (R76, R94). -/
theorem enterActive (h : ModeFollowed p) (inactive : p.control.mode ≠ .active) :
    ModeFollowed (p.changeMode .active) := by
  have control := Part.changeMode_control inactive
  have entered : (p.changeMode .active).app.passTimer ≠ none ∧ (p.changeMode .active).app.rotationTimer ≠ none := by
    rw [Part.changeMode_eq inactive, Part.actOnModeChange_active (by simp; rfl)]
    split
    · next standing => simpa [Part.startRotationTimer, Part.startTimer] using h.passTimer.mpr (.inr standing)
    · simp [Part.startPassTimer, Part.startRotationTimer, Part.startTimer]
  have mode : (p.changeMode .active).control.mode = .active := congrArg ModeControl.mode control
  exact
    { passTimer := iff_of_true entered.1 (.inl mode)
      rotationTimer := iff_of_true entered.2 mode
      standDownStart := by rw [mode, control, h.noStandDownStart]; simp
      recovery := fun some_ => absurd (control ▸ h.noRecovery _) some_
      hold := fun _ => mode
      assists := fun _ => mode
      motionTimer := by simpa using h.motionTimer
      thermalTimer := by simpa using h.thermalTimer
      alarm := fun notActive => absurd mode notActive }

/-- Entry to STANDING_DOWN, from ACTIVE, with its start time (R173). -/
theorem enterStandingDown (h : ModeFollowed p) (active : p.control.mode = .active) (t : Time) :
    ModeFollowed ({ p with control := { p.control with standDownStart := some t } }.changeMode .standingDown) := by
  rw [Part.changeMode_eq (by simp [active]), Part.actOnModeChange_standingDown (by simp; rfl)]
  have recovery : p.control.recovery = none := by simpa [active] using h.recovery
  exact
    { passTimer := by simpa [ModeControl.entering, Part.stopRotationTimer] using h.passTimer.mpr (.inl active)
      rotationTimer := by simp [ModeControl.entering, Part.stopRotationTimer]
      standDownStart := by simp [ModeControl.entering, active]
      recovery := by simp [ModeControl.entering, active, recovery]
      hold := by simp [Part.retotal]
      assists := by simp [Part.retotal]
      motionTimer := by simpa using h.motionTimer
      thermalTimer := by simpa using h.thermalTimer
      alarm := by simp [ModeControl.entering] }

/-- Entry to FALLBACK stops the passes, cancels speed hold and empties the assist table (R28, R34, R98). -/
theorem enterFallback (h : ModeFollowed p) (active : p.control.mode = .active) :
    ModeFollowed (p.changeMode .fallback) := by
  rw [Part.changeMode_eq (by simp [active]), Part.actOnModeChange_fallback (by simp; rfl)]
  exact .ofStopped p.app (by simp [ModeControl.entering]) (by simp [ModeControl.entering])
    (by simpa using h.noStandDownStart _) (by simp [h.noRecovery]) (by simp [Part.judgeAlarm_app]) (by simp) (by simp)
    (by simpa using h.motionTimer) (by simpa using h.thermalTimer)

/-- Entry to STANDBY stops the passes of a stand-down (R98, R175); in FALLBACK they stand still already. -/
theorem enterStandby (h : ModeFollowed p) (left : p.control.mode = .standingDown ∨ p.control.mode = .fallback) :
    ModeFollowed (p.changeMode .standby) := by
  have inactive : p.control.mode ≠ .active := by rintro active; simp [active] at left
  rw [Part.changeMode_eq (by rintro standby; simp [standby] at left), Part.actOnModeChange_standby (by simp; rfl)]
  split
  · next fallback =>
    exact
      { passTimer := by simpa [ModeControl.entering, fallback] using h.passTimer
        rotationTimer := by simpa [ModeControl.entering, fallback] using h.rotationTimer
        standDownStart := iff_of_false (not_not.mpr (by simpa using h.noStandDownStart _))
          (by simp [ModeControl.entering])
        recovery := by simp [h.noRecovery]
        hold := by simp [h.holdOff inactive]
        assists := by simp [h.noAssists inactive]
        motionTimer := by simpa using h.motionTimer
        thermalTimer := by simpa using h.thermalTimer
        alarm := by simpa [ModeControl.entering, fallback] using h.alarm }
  · exact .ofStopped p.app (by simp [ModeControl.entering]) (by simp [ModeControl.entering])
      (by simpa using h.noStandDownStart _) (by simp [h.noRecovery]) (by simp [Part.judgeAlarm_app])
      (by simpa [Part.retotal] using h.holdOff inactive) (by simpa [Part.retotal] using h.noAssists inactive)
      (by simpa using h.motionTimer) (by simpa using h.thermalTimer)

end ModeFollowed

/-! ## The causes of a change of mode (R169 to R175) -/

section

variable {p : Part}

theorem lawsKept_enterActive (inactive : p.control.mode ≠ .active) : LawsKept p (p.changeMode .active) :=
  ⟨fun m => m.enterActive inactive, fun b => boundsHeld_changeMode b _⟩

theorem lawsKept_enterFallback (active : p.control.mode = .active) : LawsKept p (p.changeMode .fallback) :=
  ⟨fun m => m.enterFallback active, fun b => boundsHeld_changeMode b _⟩

theorem lawsKept_enterStandby (left : p.control.mode = .standingDown ∨ p.control.mode = .fallback) :
    LawsKept p (p.changeMode .standby) :=
  ⟨fun m => m.enterStandby left, fun b => boundsHeld_changeMode b _⟩

/-- A recovery start time stands in FALLBACK alone (R172). -/
theorem lawsKept_recovery {r : Option Timer} (allowed : r ≠ none → p.control.mode = .fallback) :
    LawsKept p { p with control := { p.control with recovery := r } } where
  mode m :=
    { passTimer := m.passTimer
      rotationTimer := m.rotationTimer
      standDownStart := m.standDownStart
      recovery := allowed
      hold := m.hold
      assists := m.assists
      motionTimer := m.motionTimer
      thermalTimer := m.thermalTimer
      alarm := m.alarm }
  bounds b := { b with }

end

theorem lawsKept_start (p : Part) : LawsKept p p.start.1 := by
  have ready (inactive : p.control.mode ≠ .active) : LawsKept p
      (if p.motion.freshness = .fresh then (p.changeMode .active, Reply.done)
        else (p, .refused (.notReady 10 0))).1 := by
    split
    · exact lawsKept_enterActive inactive
    · exact .refl p
  unfold Part.start
  split
  · exact .refl p
  · exact .refl p
  · exact .refl p
  · next config =>
    split
    · exact .refl p
    · exact ready (by simp [config])
  · next standby =>
    split
    · exact .refl p
    · exact ready (by simp [standby])

theorem lawsKept_standDown (p : Part) : LawsKept p p.standDown.1 := by
  unfold Part.standDown
  split
  · next active => exact ⟨fun m => m.enterStandingDown active _, fun b => boundsHeld_changeMode (b.framed (by simp)) _⟩
  · exact .refl p
  · next fallback => exact lawsKept_enterStandby (.inr fallback)
  · exact .refl p
  · exact .refl p

theorem lawsKept_modeOnStale (p : Part) : LawsKept p p.modeOnStale := by
  have forgotten : LawsKept p { p with control := { p.control with recovery := none } } :=
    lawsKept_recovery fun some_ => absurd rfl some_
  unfold Part.modeOnStale
  split
  · next active =>
    exact (forgotten.acted ((ActuatorsActed.refl _).framed (by simp))).trans
      (lawsKept_enterFallback active)
  · next standing => exact lawsKept_enterStandby (.inl standing)
  · exact forgotten
  · exact .refl p
  · exact .refl p

theorem lawsKept_modeOnFreshAgain (p : Part) : LawsKept p p.modeOnFreshAgain := by
  unfold Part.modeOnFreshAgain
  split
  · next fallback => exact lawsKept_recovery fun _ => fallback
  · exact .refl p

theorem lawsKept_modeOnValidRecord (p : Part) (pedal : Nat) : LawsKept p (p.modeOnValidRecord pedal) := by
  unfold Part.modeOnValidRecord
  split
  · next abandoned =>
    exact (((ActuatorsActed.refl p).framed (r := p.flagAbandoned) (by simp)).lawsKept).trans
      (lawsKept_enterActive (by simp [abandoned.1]))
  · exact .refl p

theorem lawsKept_recoveryExpiry (p : Part) : LawsKept p p.recoveryExpiry := by
  unfold Part.recoveryExpiry
  split
  · next due =>
    exact (((ActuatorsActed.refl p).framed (r := p.flagFallbackLeft) (by simp)).lawsKept).trans
      (lawsKept_enterActive (by simp [due.1]))
  · exact .refl p

theorem lawsKept_judgeStandDown (p : Part) : LawsKept p p.judgeStandDown := by
  unfold Part.judgeStandDown
  split
  · next standing _ => exact (lawsKept_enterStandby (.inl standing)).ite (.refl p)
  · exact .refl p

theorem lawsKept_motionTimerExpiry (p : Part) : LawsKept p p.motionTimerExpiry := by
  rw [Part.motionTimerExpiry_eq]
  exact ((lawsKept_madeStale p).trans (lawsKept_modeOnStale _)).ite (.refl p)

/-! ## The pass and the rotation timer (R76, R77, R95) -/

@[simp] theorem Part.runPass_app (p : Part) : p.runPass.app = p.passResults := by
  simp [Part.runPass]

/-- A pass is due while passes run alone: what it publishes keeps the timers, and the alarm is its own there (R96). -/
theorem lawsKept_runPass {p : Part} (due : timerDue p.app.passTimer p.now = true) :
    LawsKept p p.runPass.startPassTimer where
  mode m := by
    have running : p.app.passTimer ≠ none := fun stopped => by simp [stopped, timerDue] at due
    exact
      { passTimer := iff_of_true (by simp [Part.startPassTimer, Part.startTimer])
          (by simpa using m.passTimer.mp running)
        rotationTimer := by simpa [Part.startPassTimer, Part.passResults] using m.rotationTimer
        standDownStart := by simpa using m.standDownStart
        recovery := by simpa using m.recovery
        hold := by simpa using m.hold
        assists := by simpa using m.assists
        motionTimer := by simpa using m.motionTimer
        thermalTimer := by simpa using m.thermalTimer
        alarm := fun notActive notStanding =>
          absurd (m.passTimer.mp running) (not_or.mpr ⟨by simpa using notActive, by simpa using notStanding⟩) }
  bounds b := b.framed (by simp)

theorem lawsKept_pass (p : Part) : LawsKept p p.pass := by
  unfold Part.pass
  split
  · next due => exact (lawsKept_runPass due).trans (lawsKept_judgeStandDown _)
  · exact .refl p

/-- The rotation timer is restarted where it ran (R95). -/
theorem lawsKept_rotationTimerExpiry (p : Part) : LawsKept p p.rotationTimerExpiry := by
  unfold Part.rotationTimerExpiry
  split
  · next due =>
    have running : p.app.rotationTimer ≠ none := fun stopped => by simp [stopped, timerDue] at due
    exact ⟨fun m => { m with
      rotationTimer := iff_of_true (by simp [Part.startRotationTimer, Part.startTimer]) (m.rotationTimer.mp running) },
      fun b => { b with }⟩
  · exact .refl p

/-! ## The axle mask (R93) -/

theorem lawsKept_setMask (p : Part) (flags : Axles Nat) : LawsKept p (p.setMask flags).1 := by
  have masked (mask : Axles Bool) : LawsKept p { p with app := { p.app with mask := mask } } :=
    ⟨fun m => { m with }, fun b => { b with }⟩
  unfold Part.setMask
  split
  · exact .refl p
  · split
    · exact .refl p
    · dsimp only
      split
      · exact .refl p
      · exact (masked _).needCapacities.foldl
          (fun _ a => (((ActuatorsActed.refl _).withdrawShare a).ite (.refl _)).lawsKept) _

/-! ## A MOTION record (R42 to R53) -/

theorem lawsKept_takeValid (p : Part) {l : LimitedRecord} (ambient : -40 ≤ l.ambient ∧ l.ambient ≤ 60) (v : Nat) :
    LawsKept p (p.takeValid l v) := by
  have fresh := (lawsKept_publishRoad p ambient v).trans (lawsKept_refresh _)
  have handed := (fresh.handOn (.slipRecord v ((p.publishRoad l v).refresh.driveSpeed l.wheels)
    (!((p.publishRoad l v).refresh.nonDrivenSpeeds l.wheels).isEmpty))).needCapacities
  exact ((handed.trans (lawsKept_modeOnFreshAgain _)).ite handed).trans (lawsKept_modeOnValidRecord _ _)

theorem lawsKept_takeMotion (p : Part) (r : MotionRecord) : LawsKept p (p.takeMotion r) := by
  unfold Part.takeMotion
  split
  · exact lawsKept_countClamped p
  · have counted : LawsKept p (if (p.limitRecord r).changed then p.countClamped else p) :=
      (lawsKept_countClamped p).ite (.refl p)
    have judged := counted.foldl (fun _ a => lawsKept_judgeSpeedMissing _ (p.limitRecord r).wheels a)
    have published := fun axles => (judged axles).trans (lawsKept_publishEngine _ (p.limitRecord r))
    have checked := fun axles reference => (published axles).trans (lawsKept_driveCheck _ reference
      (p.limitRecord r).engine (p.limitRecord r).gear (p.limitRecord r).clutch)
    dsimp only
    split
    · exact ((checked _ _).handOn _).trans (lawsKept_takeValid _ (limitRecord_ambient p r) _)
    · exact (checked _ _).handOn _

end Sys2Proof.Machine
end

section
/-! PROOF. The requests of the Table Store and the two resets keep both laws; so does every command, and every step
(R3 to R20, R177, R178). -/

namespace Sys2Proof.Machine

open Safety

/-! ## The requests of the Table Store -/

/-- An operation on the Table Store alone that leaves the chassis record. -/
theorem LawsKept.ofStore {p q : Part} (chassis : q.store.chassis = p.store.chassis)
    (same : q = { p with store := q.store }) : LawsKept p q := by
  rw [same]
  exact ⟨fun m => m.framed ⟨rfl, chassis, rfl, rfl, rfl, rfl, rfl, rfl, rfl, rfl⟩ fun _ => rfl, fun b => { b with }⟩

theorem lawsKept_settingsRequest (p : Part) (pairs : List (Nat × Nat)) : LawsKept p (p.settingsRequest pairs).1 := by
  unfold Part.settingsRequest
  split
  · exact .refl p
  · split
    · exact .refl p
    · split
      · exact .refl p
      · exact .ofStore rfl rfl

theorem lawsKept_setTable (p : Part) (id : TableId) (t : Table) : LawsKept p (p.setTable id t) := by
  cases id <;> exact .ofStore rfl rfl

theorem lawsKept_setCursor (p : Part) (c : Option Cursor) : LawsKept p (p.setCursor c) := .ofStore rfl rfl

theorem lawsKept_setGearCount (p : Part) (n : Nat) : LawsKept p (p.setGearCount n) := .ofStore rfl rfl

theorem lawsKept_tableServiceChanged (p : Part) (id : TableId) : LawsKept p (p.tableServiceChanged id) := by
  cases id with
  | pedalMap | leverMap => exact lawsKept_remapForces p
  | retarderCurve | exhaustCurve | gearTable => exact (LawsKept.refl p).needCapacities

theorem lawsKept_abandonTable (p : Part) : LawsKept p p.abandonTable := by
  unfold Part.abandonTable
  split
  · exact (lawsKept_setTable _ _ _).trans (lawsKept_setCursor _ _)
  · exact .refl p

theorem lawsKept_opened (p : Part) (id : TableId) (start : Nat) : LawsKept p (p.opened id start) := by
  have abandoned : LawsKept p (p.othersAbandoned id) := (lawsKept_abandonTable p).ite (.refl p)
  have placed := (abandoned.trans (lawsKept_setTable _ id
    ⟨.loading, (p.table id).slots.take start ++ List.replicate (id.slots - start) none⟩)).trans
      (lawsKept_setCursor _ (some ⟨id, start⟩))
  exact (placed.trans (lawsKept_setGearCount _ 0)).ite placed

theorem lawsKept_tableOpen (p : Part) (n start : Nat) : LawsKept p (p.tableOpen n start).1 := by
  unfold Part.tableOpen
  split
  · exact .refl p
  · split
    · exact .refl p
    · next id _ =>
      split
      · rw [Part.openTable_eq]
        exact ((lawsKept_opened p id start).trans (lawsKept_tableServiceChanged _ id)).ite (lawsKept_opened p id start)
      · exact .refl p

theorem lawsKept_tableData (p : Part) (fields : List Nat) : LawsKept p (p.tableData fields).1 := by
  unfold Part.tableData
  split
  · exact .refl p
  · split
    · exact .refl p
    · split
      · exact .refl p
      · split
        · exact .refl p
        · exact (lawsKept_setTable _ _ _).trans (lawsKept_setCursor _ _)

theorem lawsKept_tableClose (p : Part) : LawsKept p p.tableClose.1 := by
  have closed : ∀ c st, LawsKept p (p.closed c st) := fun _ _ =>
    (lawsKept_setTable _ _ _).trans (lawsKept_setCursor _ _)
  cases hc : p.store.cursor with
  | none =>
    rw [Part.tableClose_none_open hc]
    exact .refl p
  | some c =>
    cases hk : firstOffending c.table (p.table c.table) c.index with
    | some k =>
      rw [Part.tableClose_offending hc hk]
      exact closed c .invalid
    | none =>
      rw [Part.tableClose_passing hc hk]
      have passed : LawsKept p (p.passed c) :=
        ((closed c .valid).trans (lawsKept_setGearCount _ _)).ite (closed c .valid)
      exact passed.trans (lawsKept_tableServiceChanged _ _)

theorem lawsKept_tableRead (p : Part) (n first count : Nat) : LawsKept p (p.tableRead n first count).1 := by
  unfold Part.tableRead
  (repeat' split) <;> exact .refl p

/-- Without a chassis record the coach has no axle, and none is in FADE. -/
theorem Part.anyFade_of_unset {p : Part} (unset : p.store.chassis = none) : p.anyFade = false := by
  have none_ : p.axles = [] := by simp [Part.axles, Part.hasAxle, Part.axleCount, unset]
  simp [Part.anyFade, none_]

theorem Part.acceptChassis_anyFade (p : Part) (c : ChassisRecord) : (p.acceptChassis c).anyFade = false := by
  rw [Part.anyFade, List.any_eq_false]
  intro a ha
  have below : a.val < c.axleCount := (Part.hasAxle_of_chassis (by simp) a).mp (List.mem_filter.mp ha).2
  simp [(p.acceptChassis_axle below).1]

/-- The acceptance of the record starts the thermal timer (R103); every axle starts in NORMAL (R102). -/
theorem lawsKept_acceptChassis {p : Part} {c : ChassisRecord} (config : p.control.mode = .config)
    (unset : p.store.chassis = none) : LawsKept p (p.acceptChassis c) where
  mode m :=
    { passTimer := by simpa using m.passTimer
      rotationTimer := by simpa using m.rotationTimer
      standDownStart := by simpa using m.standDownStart
      recovery := by simpa using m.recovery
      hold := by simp [Part.acceptChassis_demand (p := p) (c := c) (by simp) rfl, m.holdOff (by simp [config])]
      assists := by simp [Part.acceptChassis_demand (p := p) (c := c) (by simp) rfl, m.noAssists (by simp [config])]
      motionTimer := by simpa using m.motionTimer
      thermalTimer := iff_of_true (by simp [(p.acceptChassis_thermal c).1]) (by simp)
      alarm := by simpa [Part.acceptChassis_anyFade, config, Part.anyFade_of_unset unset] using m.alarm }
  bounds b := by
    have described : BoundsHeld (p.described c) := { b with }
    have temps : ∀ a, -40000 ≤ ((p.described c).startThermal.thermal.axles.get a).temp ∧
        ((p.described c).startThermal.thermal.axles.get a).temp ≤ 1500000 := fun a => by
      simp only [Part.startThermal, Axles.get_ofFn]
      split <;> simp [AxleThermal.absent]
    have started : BoundsHeld (p.described c).startThermal :=
      { described with thermal := ⟨temps, described.thermal.ambientUsed⟩ }
    have faded : BoundsHeld (p.described c).startThermal.startFade := { started with }
    rw [Part.acceptChassis_eq]
    exact (LawsKept.refl _).needCapacities.bounds (((lawsKept_setMass _ c.grossMass).bounds faded).framed (by simp))

theorem lawsKept_chassisRequest (p : Part) (c : ChassisRecord) : LawsKept p (p.chassisRequest c).1 := by
  by_cases inBounds : c.axles.length < 2 ∨ 4 < c.axles.length
  · rw [Part.chassisRequest_bad_length inBounds]
    exact .refl p
  · obtain ⟨h2, h4⟩ : 2 ≤ c.axles.length ∧ c.axles.length ≤ 4 := by omega
    by_cases mode : p.control.mode = .config
    · by_cases unset : p.store.chassis = none
      · rw [Part.chassisRequest_of_unset h2 h4 mode unset]
        split
        · exact .refl p
        · split
          · exact .refl p
          · split
            · exact .refl p
            · exact lawsKept_acceptChassis mode unset
      · rw [Part.chassisRequest_already_set h2 h4 mode unset]
        exact .refl p
    · rw [Part.chassisRequest_wrong_mode h2 h4 mode]
      exact .refl p

/-! ## The two resets (R177, R178) -/

/-- The part of a warm reset once every block has taken its own items, and nothing has been posted. -/
def Part.warmBlocks (p : Part) : Part :=
  let p := p.abandonTable.warmDemand.warmMotion.warmShares.warmThermal.warmRetarder
  (p.flapAtWarmReset.warmChannels.warmLink.warmClear).discardLanes fun l => l.ofPass || l.ofLink

theorem Part.warmReset_eq (p : Part) : p.warmReset =
    ((Axle.all.foldl judgeChannel p.warmBlocks.warmMode.retotal.judgeAlarm).needCapacities).warmPosts := rfl

@[simp] theorem Part.warmBlocks_blocks (p : Part) :
    p.warmBlocks.now = p.now ∧ p.warmBlocks.store = p.abandonTable.store ∧
      p.warmBlocks.demand = p.warmDemand.demand ∧ p.warmBlocks.motion = p.warmMotion.motion ∧
      p.warmBlocks.slip = .unlimited ∧ p.warmBlocks.app = Part.stoppedApportioner p.app ∧
      p.warmBlocks.vl = p.vl := by
  simp [Part.warmBlocks, Part.warmDemand, Part.warmMotion, Part.warmShares, Part.warmThermal, Part.warmRetarder,
    Part.warmChannels, Part.warmLink, Part.warmClear]

@[simp] theorem Part.warmBlocks_thermal (p : Part) : p.warmBlocks.thermal = p.abandonTable.warmThermal.thermal := by
  simp [Part.warmBlocks, Part.warmDemand, Part.warmMotion, Part.warmShares, Part.warmThermal, Part.warmRetarder,
    Part.warmChannels, Part.warmLink, Part.warmClear, Part.startTimer]

@[simp] theorem Part.warmMode_untouched (p : Part) :
    p.warmMode.store = p.store ∧ p.warmMode.demand = p.demand ∧ p.warmMode.motion = p.motion ∧
      p.warmMode.slip = p.slip ∧ p.warmMode.app = p.app ∧ p.warmMode.thermal = p.thermal ∧
      p.warmMode.ret = p.ret ∧ p.warmMode.link = p.link ∧ p.warmMode.faults = p.faults ∧ p.warmMode.vl = p.vl := by
  unfold Part.warmMode
  dsimp only
  generalize (if p.missingItem.isNone = true then Mode.standby else .config) = new
  split <;> simp

section

variable {p : Part}

theorem boundsHeld_warmDemand (b : BoundsHeld p) : BoundsHeld p.warmDemand :=
  { b with demand := ⟨Nat.zero_le 4, List.nodup_nil, by simp [Part.warmDemand], b.demand.total⟩ }

theorem boundsHeld_warmMotion (b : BoundsHeld p) : BoundsHeld p.warmMotion :=
  { b with motion := ⟨Nat.zero_le 3, Nat.zero_le 3, b.motion.clamped, b.motion.ambient⟩ }

theorem boundsHeld_warmShares (b : BoundsHeld p) : BoundsHeld p.warmShares :=
  { b with slip := ⟨Nat.zero_le 1000, Nat.le_refl 20000, Nat.zero_le 3⟩ }

theorem boundsHeld_warmThermal (b : BoundsHeld p) : BoundsHeld p.warmThermal :=
  { b with thermal := ⟨fun a => by simpa [Part.warmThermal] using b.thermal.temps a, b.thermal.ambientUsed⟩ }

theorem boundsHeld_warmRetarder (b : BoundsHeld p) : BoundsHeld p.warmRetarder := { b with }

theorem boundsHeld_warmChannels (b : BoundsHeld p) : BoundsHeld p.warmChannels := { b with }

theorem boundsHeld_warmLink (b : BoundsHeld p) : BoundsHeld p.warmLink :=
  { b with link := ⟨List.nodup_nil, fun e he => by
      obtain ⟨old, -, rfl⟩ := List.mem_map.mp he
      exact Nat.zero_le 3⟩ }

theorem boundsHeld_warmClear (b : BoundsHeld p) : BoundsHeld p.warmClear :=
  { b with faults := ⟨b.faults.size, b.faults.keys, b.faults.overflow, b.faults.counts⟩ }

theorem boundsHeld_warmMode (b : BoundsHeld p) : BoundsHeld p.warmMode := b.framed (by simp)

theorem boundsHeld_warmBlocks (b : BoundsHeld p) : BoundsHeld p.warmBlocks :=
  have retarder := boundsHeld_warmRetarder (boundsHeld_warmThermal (boundsHeld_warmShares (boundsHeld_warmMotion
    (boundsHeld_warmDemand ((lawsKept_abandonTable p).bounds b)))))
  have flap := retarder.framed
    (q := p.abandonTable.warmDemand.warmMotion.warmShares.warmThermal.warmRetarder.flapAtWarmReset) (by simp)
  ((ActuatorsActed.refl _).discardLanes fun l => l.ofPass || l.ofLink).lawsKept.bounds
    (boundsHeld_warmClear (boundsHeld_warmLink (boundsHeld_warmChannels flap)))

end

theorem Part.warmMode_control (p : Part) :
    p.warmMode.control = ⟨if p.missingItem.isNone then .standby else .config, none, none⟩ := by
  unfold Part.warmMode
  dsimp only
  generalize (if p.missingItem.isNone = true then Mode.standby else .config) = new
  split <;> rfl

/-- A warm reset leaves the law of the modes, whatever went before it: passes are stopped, and the alarm is judged from
the tiers (R176, R177). -/
theorem modeFollowed_warmJudged (p : Part) : ModeFollowed p.warmBlocks.warmMode.retotal.judgeAlarm := by
  have stopped : p.warmBlocks.warmMode.control.mode ≠ .active ∧ p.warmBlocks.warmMode.control.mode ≠ .standingDown := by
    rw [Part.warmMode_control]
    dsimp only
    split <;> decide
  refine .ofStopped p.app (by simpa using stopped.1) (by simpa using stopped.2) (by simp [Part.warmMode_control])
    (by simp [Part.warmMode_control]) (by simp [Part.judgeAlarm_app]) (by simp [Part.retotal, Part.warmDemand]; rfl)
    (by simp [Part.retotal, Part.warmDemand]) (by simp [Part.warmMotion]) ?_
  cases chassis : p.store.chassis <;> simp [Part.warmThermal, chassis, Part.startTimer]

theorem Part.warmPosts_acted (p : Part) : ActuatorsActed p p.warmPosts :=
  ((ActuatorsActed.refl p).sendRetarder _).foldl (fun _ a h => h.postTarget a) _

theorem lawsKept_warmReset (p : Part) : LawsKept p p.warmReset := by
  have judged : LawsKept p p.warmBlocks.warmMode.retotal.judgeAlarm :=
    ⟨fun _ => modeFollowed_warmJudged p, fun b => boundsHeld_judgeAlarm
      ((lawsKept_retotal _).bounds (boundsHeld_warmMode (boundsHeld_warmBlocks b)))⟩
  have channels := judged.foldl (f := Part.judgeChannel)
    (fun _ a => ((ActuatorsActed.refl _).judgeChannel a).lawsKept) Axle.all
  rw [Part.warmReset_eq]
  exact channels.needCapacities.acted (Part.warmPosts_acted _)

theorem lawsKept_resetWarm (p : Part) (tag : Byte) : LawsKept p (p.resetWarm tag) :=
  ((LawsKept.refl p).answer _ _ _).trans (lawsKept_warmReset _)

/-- Both laws hold after a cold reset, whatever the level of the switch and the phase of the link (R178). -/
theorem lawsHeld_cold (closed : Bool) (phase : LinkPhase) :
    ModeFollowed (Part.cold closed phase) ∧ BoundsHeld (Part.cold closed phase) where
  left :=
    { passTimer := by simp [Part.cold, Apportioner.cold]
      rotationTimer := by simp [Part.cold, Apportioner.cold]
      standDownStart := by simp [Part.cold]
      recovery := absurd rfl
      hold := nofun
      assists := absurd rfl
      motionTimer := by simp [Part.cold, MotionInput.cold]
      thermalTimer := iff_of_false (absurd rfl) (absurd rfl)
      alarm := fun _ _ => iff_of_false nofun (Bool.eq_false_iff.mp (Part.anyFade_of_unset rfl)) }
  right :=
    { demand := ⟨Nat.zero_le 4, List.nodup_nil, nofun, Nat.zero_le 20000⟩
      faults := ⟨Nat.zero_le 16, List.nodup_nil, Nat.zero_le 255, nofun⟩
      engagements := Nat.zero_le 4
      link := ⟨List.nodup_nil, nofun⟩
      slip := ⟨Nat.zero_le 1000, Nat.le_refl 20000, Nat.zero_le 3⟩
      motion := ⟨Nat.zero_le 3, Nat.zero_le 3, Nat.zero_le 255, nofun⟩
      thermal := ⟨fun a => by simp [Part.cold, ThermalModel.cold, AxleThermal.absent],
        (by decide : -40 ≤ ThermalModel.cold.ambientUsed ∧ ThermalModel.cold.ambientUsed ≤ 60)⟩
      errors := Nat.zero_le 65535 }

/-! ## Frames, commands and steps -/

/-- A request of the vehicle link (R180). -/
theorem lawsKept_takeRequest (p : Part) (i : Instr) : LawsKept p (p.takeRequest i) := by
  have k := ActuatorsActed.refl p
  have unchanged : LawsKept p p := .refl p
  cases i with
  | chassis tag record => exact (lawsKept_chassisRequest p record).answer _ _ _
  | settings tag pairs => exact (lawsKept_settingsRequest p pairs).answer _ _ _
  | tableOpen tag table start => exact (lawsKept_tableOpen p table start).answer _ _ _
  | tableData tag fields => exact (lawsKept_tableData p fields).answer _ _ _
  | tableClose tag => exact (lawsKept_tableClose p).answer _ _ _
  | tableRead tag table first count => exact (lawsKept_tableRead p table first count).answer _ _ _
  | route tag axles retarder => exact (k.routeRequest axles retarder).lawsKept.answer _ _ _
  | mask tag flags => exact (lawsKept_setMask p flags).answer _ _ _
  | seedTemps tag temps => exact (lawsKept_seedTemps p temps).answer _ _ _
  | start tag => exact (lawsKept_start p).answer _ _ _
  | standDown tag => exact (lawsKept_standDown p).answer _ _ _
  | resetWarm tag => exact lawsKept_resetWarm p tag
  | holdSet tag setpoint => exact (lawsKept_holdSet p setpoint).answer _ _ _
  | holdCancel tag => exact (lawsKept_cancelHold p).answer _ _ _
  | assist tag requester decel hold => exact (lawsKept_assist p requester decel hold).answer _ _ _
  | assistCancel tag requester => exact (lawsKept_assistCancel p requester).answer _ _ _
  | mass tag kg => exact (lawsKept_mass p kg).answer _ _ _
  | queryCapacities tag => exact unchanged.answer _ _ _
  | queryAxles tag => exact unchanged.answer _ _ _
  | queryFaults tag => exact unchanged.answer _ _ _
  | queryEngagements tag => exact unchanged.answer _ _ _
  | queryAssist tag => exact unchanged.answer _ _ _
  | queryChassis tag => exact unchanged.answer _ _ _
  | querySettings tag => exact unchanged.answer _ _ _
  | queryRoute tag => exact unchanged.answer _ _ _
  | motion record => exact lawsKept_takeMotion p record
  | clearFaults tag sources => exact (k.clearFaults tag sources).lawsKept
  | _ => exact unchanged

theorem lawsKept_takeFrame (p : Part) (kind tag : Byte) (payload : List Byte) :
    LawsKept p (p.takeFrame kind tag payload) := by
  unfold Part.takeFrame
  split
  · exact (LawsKept.refl p).answer _ _ _
  · exact (LawsKept.refl p).answer _ _ _
  · exact (LawsKept.refl p).answer _ _ _
  · exact lawsKept_takeRequest p _

theorem lawsKept_setReceive (p : Part) (rx : Option (List Byte)) : LawsKept p (p.setReceive rx) :=
  ((ActuatorsActed.refl p).framed (by simp)).lawsKept

/-- The error counter stops at its top (R179). -/
theorem lawsKept_abandonFrame (p : Part) : LawsKept p p.abandonFrame :=
  ⟨fun m => { m with }, fun b => { b with errors := Nat.min_le_right _ _ }⟩

theorem lawsKept_huntByte (p : Part) (b : Byte) : LawsKept p (p.huntByte b) := (lawsKept_setReceive p _).ite (.refl p)

theorem lawsKept_completeFrame (p : Part) (bytes : List Byte) : LawsKept p (p.completeFrame bytes) := by
  unfold Part.completeFrame
  dsimp only
  split
  · exact (lawsKept_setReceive p none).trans (lawsKept_takeFrame _ _ _ _)
  · exact lawsKept_abandonFrame p

theorem lawsKept_frameByte (p : Part) (bytes : List Byte) (b : Byte) : LawsKept p (p.frameByte bytes b) :=
  (lawsKept_abandonFrame p).ite ((lawsKept_completeFrame p _).ite (lawsKept_setReceive p _))

theorem lawsKept_receiveByte (p : Part) (x : LineByte) : LawsKept p (p.receiveByte x) := by
  unfold Part.receiveByte
  split
  · exact lawsKept_huntByte p _
  · split
    · exact (lawsKept_abandonFrame p).trans (lawsKept_huntByte _ _)
    · exact lawsKept_frameByte p _ _

theorem lawsKept_receiveBytes (p : Part) (received : List LineByte) : LawsKept p (p.receiveBytes received) :=
  (LawsKept.refl p).foldl lawsKept_receiveByte received

theorem lawsKept_frameAbandoned (p : Part) (received : List LineByte) : LawsKept p (p.frameAbandoned received) := by
  cases received with
  | nil => exact (lawsKept_abandonFrame p).ite (.refl p)
  | cons x rest => exact lawsKept_receiveBytes p (x :: rest)

theorem lawsKept_transmitFrameSent (p : Part) : LawsKept p p.transmitFrameSent :=
  ActuatorsActed.lawsKept ⟨rfl, rfl, rfl, rfl, rfl, rfl, rfl, rfl, id, id, id⟩

/-- Every command keeps both laws; a cold reset leaves a part in which they hold outright. -/
theorem exec_keeps_laws (c : Instr) (s : State) : ∃ q, exec c s = .next { s with part := q } ∧ LawsKept s.part q := by
  have k := ActuatorsActed.refl s.part
  have request := lawsKept_takeRequest s.part c
  cases c with
  | coldReset =>
    obtain ⟨mode, bounds⟩ := lawsHeld_cold s.part.fswClosed s.part.coldPhase
    exact ⟨_, rfl, fun _ => mode, fun _ => bounds⟩
  | speedHoldUpdate => exact ⟨_, rfl, lawsKept_speedHoldUpdate s.part⟩
  | slipEvaluation => exact ⟨_, rfl, lawsKept_slipEvaluation s.part⟩
  | capacityRecomputation => exact ⟨_, rfl, k.capacityRecomputation.lawsKept⟩
  | motionTimerExpiry => exact ⟨_, rfl, lawsKept_motionTimerExpiry s.part⟩
  | recoveryExpiry => exact ⟨_, rfl, lawsKept_recoveryExpiry s.part⟩
  | assistExpiry requester => exact ⟨_, rfl, lawsKept_assistExpiry s.part requester⟩
  | holdoffExpiry => exact ⟨_, rfl, k.holdoffExpiry.lawsKept⟩
  | vehicleLinkFrame received => exact ⟨_, rfl, lawsKept_receiveBytes s.part received⟩
  | frameAbandoned received => exact ⟨_, rfl, lawsKept_frameAbandoned s.part received⟩
  | statusReport => exact ⟨_, rfl, lawsKept_statusReport s.part⟩
  | pass => exact ⟨_, rfl, lawsKept_pass s.part⟩
  | rotationTimerExpiry => exact ⟨_, rfl, lawsKept_rotationTimerExpiry s.part⟩
  | thermalUpdate => exact ⟨_, rfl, lawsKept_thermalUpdate s.part⟩
  | retarderWant => exact ⟨_, rfl, k.retarderWantTaken.lawsKept⟩
  | retarderNodeState => exact ⟨_, rfl, k.retarderNodeStateTaken.lawsKept⟩
  | fillTimerExpiry => exact ⟨_, rfl, k.fillTimerExpiry.lawsKept⟩
  | drainTimerExpiry => exact ⟨_, rfl, k.drainTimerExpiry.lawsKept⟩
  | retarderNodeLost => exact ⟨_, rfl, k.retarderNodeLostTaken.lawsKept⟩
  | exhaustWant => exact ⟨_, rfl, k.exhaustWantTaken.lawsKept⟩
  | flapSwitchChange e => exact ⟨_, rfl, (k.flapSwitchChange e).lawsKept⟩
  | flapTimerExpiry => exact ⟨_, rfl, k.flapTimerExpiry.lawsKept⟩
  | pressureDemand axle => exact ⟨_, rfl, (k.pressureDemand axle).lawsKept⟩
  | localSample axle kPa => exact ⟨_, rfl, (k.localSample axle kPa).lawsKept⟩
  | remoteMeasurement axle => exact ⟨_, rfl, (k.remoteMeasurement axle).lawsKept⟩
  | channelPresenceChange axle => exact ⟨_, rfl, (k.channelPresenceChange axle).lawsKept⟩
  | trackingTimerExpiry axle => exact ⟨_, rfl, (k.trackingTimerExpiry axle).lawsKept⟩
  | pollTimerExpiry addr => exact ⟨_, rfl, (k.pollTimerExpiry addr).lawsKept⟩
  | commandFrameSent => exact ⟨_, rfl, k.commandFrameSent.lawsKept⟩
  | actuatorAnswer received => exact ⟨_, rfl, (k.actuatorAnswer received).lawsKept⟩
  | answerTimeout => exact ⟨_, rfl, k.answerTimeout.lawsKept⟩
  | abandonedWindowEnd => exact ⟨_, rfl, k.abandonedWindowEnd.lawsKept⟩
  | transmitFrameSent => exact ⟨_, rfl, lawsKept_transmitFrameSent s.part⟩
  | _ => exact ⟨_, rfl, request⟩

theorem exec_next_keeps_laws {c : Instr} {s t : State} (h : exec c s = .next t) : LawsKept s.part t.part := by
  obtain ⟨q, next, kept⟩ := exec_keeps_laws c s
  cases next.symm.trans h
  exact kept

/-- One step, whether a command waits, an event of the part comes next, or 1 ms passes. -/
theorem step_keeps_laws {s t : State} (h : step s = .next t) : LawsKept s.part t.part := by
  unfold step at h
  split at h
  · have kept := exec_next_keeps_laws h
    exact kept
  · split at h
    · exact exec_next_keeps_laws h
    · cases h
      exact ((ActuatorsActed.refl s.part).framed (r := s.part.tick) (by simp)).lawsKept

/-- Settles O56: every command, every event of the part and the passing of time keep the law of the modes, block by
block. -/
theorem timersAndAlarmFollowTheMode : Obligations.TimersAndAlarmFollowTheMode :=
  fun _ _ h held => modeFollowed_iff.mp ((step_keeps_laws h).mode (modeFollowed_iff.mpr held))

/-- Settles O57: every command, every event of the part and the passing of time keep the bounds of every block. -/
theorem tablesAndCountersStayBounded : Obligations.TablesAndCountersStayBounded :=
  fun _ _ h held => boundsHeld_iff.mp ((step_keeps_laws h).bounds (boundsHeld_iff.mpr held))

end Sys2Proof.Machine
end

section
/-! PROOF. The Demand Arbiter's requests (R26, R28, R30 to R36): each outcome as an equation, and what an accepted
request leaves of the part. -/

namespace Sys2Proof.Machine

/-! ## Limits and replies -/

section Limit

variable {lo hi : Nat} (h : lo ≤ hi) (v : Nat)

include h

theorem limitTo_eq : limitTo lo hi v = if v < lo then lo else if hi < v then hi else v := by
  unfold limitTo
  (repeat' split) <;> omega

theorem limitTo_eq_self_iff : limitTo lo hi v = v ↔ lo ≤ v ∧ v ≤ hi := by
  unfold limitTo
  omega

end Limit

/-- A request answers CLAMPED exactly where something was limited. -/
theorem Reply.applied_eq {clamped : Bool} {kept : Prop} [Decidable kept] (h : clamped = false ↔ kept) :
    Reply.applied clamped = if kept then .done else .applied true := by
  by_cases hk : kept
  · rw [if_pos hk, h.mpr hk]
    rfl
  · rw [if_neg hk, Bool.eq_true_of_not_eq_false (mt h.mp hk)]

/-- The part once the Demand Arbiter's items are replaced, the total recomputed, and the answer formed (R40). -/
theorem Part.answer_retotal (p : Part) (d : DemandArbiter) (kind tag : Byte) (r : Reply) :
    ({ p with demand := d }.retotal).answer kind tag r =
      { p with
        demand := { d with
          total := (({ p with demand := d }.retotal).answer kind tag r).totalDemand
          lead := (({ p with demand := d }.retotal).answer kind tag r).leadingSource }
        vl := (p.answer kind tag r).vl } := rfl

/-! ## HOLD_SET and HOLD_CANCEL (R26, R28) -/

/-- Speed hold after a HOLD_SET in ACTIVE (R26). -/
def SpeedHold.set (h : SpeedHold) (setpoint : Nat) : SpeedHold :=
  if h.on then { h with setpoint := setpoint } else ⟨true, setpoint, 0, 0⟩

theorem SpeedHold.set_spec (h : SpeedHold) (v : Nat) : (h.set v).on = true ∧ (h.set v).setpoint = v ∧
    (h.on = true → (h.set v).accumulator = h.accumulator ∧ (h.set v).force = h.force) ∧
    (h.on = false → (h.set v).accumulator = 0 ∧ (h.set v).force = 0) := by
  unfold SpeedHold.set
  cases on : h.on <;> simp

theorem Part.holdSet_wrong_mode {p : Part} (h : p.control.mode ≠ .active) (v : Nat) :
    p.holdSet v = (p, .refused .mode) := if_pos h

theorem Part.holdSet_active {p : Part} (h : p.control.mode = .active) (v : Nat) : p.holdSet v =
    ({ p with demand := { p.demand with hold := p.demand.hold.set (limitTo 800 3000 v) } }.retotal,
      .applied (decide (limitTo 800 3000 v ≠ v))) := if_neg (not_not.mpr h)

/-- Settles O11, from the outcome of HOLD_SET in each mode and the equation of a cancelled hold. -/
theorem speedHoldSetAndCancelled : Obligations.SpeedHoldSetAndCancelled := by
  refine fun s tag v => ⟨?mode, fun active => ?set, ?cancel⟩
  case mode => exact fun other => State.next_congr (Part.request_of_eq (Part.holdSet_wrong_mode other v))
  case set =>
    have reply : Reply.applied (decide (limitTo 800 3000 v ≠ v)) =
        if 800 ≤ v ∧ v ≤ 3000 then .done else .applied true :=
      Reply.applied_eq (by simpa using limitTo_eq_self_iff (by decide) v)
    obtain ⟨on, setpoint, kept, fresh⟩ := s.part.demand.hold.set_spec (limitTo 800 3000 v)
    exact ⟨_, State.next_congr (Part.request_of_eq (Part.holdSet_active active v)), Part.answer_retotal ..,
      congrArg (fun r => (s.part.answer kindHoldSet tag r).vl) reply, on, setpoint.trans (limitTo_eq (by decide) v),
      kept, fresh⟩
  case cancel => exact ⟨_, rfl, Part.answer_retotal ..⟩

/-! ## MASS (R35, R36) -/

/-- The Demand Arbiter's items with the coach mass set and every assist force computed from it, before the total is
recomputed (R36). -/
def DemandArbiter.massed (d : DemandArbiter) (kg : Nat) : DemandArbiter :=
  { d with
    mass := kg
    assists := d.assists.map fun e => { e with force := min ((kg * e.decel + 9999) / 10000) 20000 } }

theorem Part.mass_of_chassis {p : Part} {c : ChassisRecord} (h : p.store.chassis = some c) (kg : Nat) :
    p.mass kg = ({ p with demand := p.demand.massed (limitTo 5000 c.grossMass kg) }.retotal,
      .applied (decide (limitTo 5000 c.grossMass kg ≠ kg))) := by
  simp only [Part.mass, h]
  rfl

/-- Settles O13, from the outcome of MASS with and without a chassis record. -/
theorem massRecomputesAssists : Obligations.MassRecomputesAssists := by
  refine fun s tag kg => ⟨fun unset => ?unset, fun c set gross => ?set⟩
  case unset =>
    have refused : s.part.mass kg = (s.part, .refused (.notReady 2 0)) := by simp only [Part.mass, unset]
    exact State.next_congr (Part.request_of_eq refused)
  case set =>
    have reply : Reply.applied (decide (limitTo 5000 c.grossMass kg ≠ kg)) =
        if 5000 ≤ kg ∧ kg ≤ c.grossMass then .done else .applied true :=
      Reply.applied_eq (by simpa using limitTo_eq_self_iff gross kg)
    rw [← reply, ← limitTo_eq gross kg]
    exact ⟨_, State.next_congr (Part.request_of_eq (Part.mass_of_chassis set kg)), Part.answer_retotal ..⟩

/-! ## ASSIST, ASSIST_CANCEL and ASSIST_EXPIRY (R30 to R33) -/

section Entries

variable {l₁ l₂ : List AssistEntry} {x : AssistEntry} {q : Nat}

theorem requester_any_iff {l : List AssistEntry} : l.any (·.requester == q) = true ↔ ∃ y ∈ l, y.requester = q := by
  simp

/-- A requester's entry leaves the table, and the others keep their order (R32, R33). -/
theorem assists_without (own : x.requester = q) (other : ∀ y ∈ l₁ ++ l₂, y.requester ≠ q) :
    (l₁ ++ x :: l₂).filter (·.requester != q) = l₁ ++ l₂ := by
  have kept : ∀ l : List AssistEntry, (∀ y ∈ l, y.requester ≠ q) → l.filter (·.requester != q) = l := fun l h =>
    List.filter_eq_self.mpr fun y hy => by simpa using h y hy
  rw [List.filter_append, List.filter_cons_of_neg (by simp [own]),
    kept l₁ fun y hy => other y (List.mem_append_left _ hy), kept l₂ fun y hy => other y (List.mem_append_right _ hy)]

/-- A requester's entry is renewed in its place (R31). -/
theorem assists_renewed (own : x.requester = q) (other : ∀ y ∈ l₁ ++ l₂, y.requester ≠ q) (e : AssistEntry) :
    (l₁ ++ x :: l₂).map (fun y => if y.requester == q then e else y) = l₁ ++ e :: l₂ := by
  have kept : ∀ l : List AssistEntry, (∀ y ∈ l, y.requester ≠ q) →
      l.map (fun y => if y.requester == q then e else y) = l := fun l h => by
    refine (List.map_congr_left fun y hy => ?_).trans (List.map_id l)
    simp [h y hy]
  rw [List.map_append, List.map_cons, kept l₁ fun y hy => other y (List.mem_append_left _ hy),
    kept l₂ fun y hy => other y (List.mem_append_right _ hy), if_pos (by simp [own])]

end Entries

section Assist

variable {p : Part} {q d h : Nat}

theorem Part.assist_wrong_mode (other : p.control.mode ≠ .active) : p.assist q d h = (p, .refused .mode) := if_pos other

theorem Part.assist_bad_requester (active : p.control.mode = .active) (high : 15 < q) :
    p.assist q d h = (p, .refused (.badValue 0)) := (if_neg (not_not.mpr active)).trans (if_pos high)

/-- ASSIST of a requester in range in ACTIVE: an entry renewed, a full table, or an entry added (R31). -/
theorem Part.assist_of_active (active : p.control.mode = .active) (low : q ≤ 15) : p.assist q d h =
    if p.demand.assists.any (·.requester == q) then
      (p.setAssists (p.demand.assists.map fun x =>
          if x.requester == q then p.assistEntry q (limitTo 0 8000 d) (limitTo 50 5000 h) else x),
        .applied (decide (limitTo 0 8000 d ≠ d) || decide (limitTo 50 5000 h ≠ h)))
    else if 4 ≤ p.demand.assists.length then (p, .refused .full)
    else (p.setAssists (p.demand.assists ++ [p.assistEntry q (limitTo 0 8000 d) (limitTo 50 5000 h)]),
      .applied (decide (limitTo 0 8000 d ≠ d) || decide (limitTo 50 5000 h ≠ h))) :=
  (if_neg (not_not.mpr active)).trans (if_neg (Nat.not_lt.mpr low))

end Assist

theorem Part.assistCancel_bad_requester {q : Nat} (high : 15 < q) (p : Part) :
    p.assistCancel q = (p, .refused (.badValue 0)) := if_pos high

theorem Part.assistCancel_of_range {p : Part} {q : Nat} (low : q ≤ 15) : p.assistCancel q =
    if p.demand.assists.any (·.requester == q) then
      (p.setAssists (p.demand.assists.filter (·.requester != q)), .done)
    else (p, .refused .notFound) := if_neg (Nat.not_lt.mpr low)

/-- With one entry of a requester's, its expiry takes effect exactly when that entry is due (R32). -/
theorem assist_due_iff {l₁ l₂ : List AssistEntry} {x : AssistEntry} {q : Nat} (own : x.requester = q)
    (other : ∀ y ∈ l₁ ++ l₂, y.requester ≠ q) (now : Time) :
    (l₁ ++ x :: l₂).any (fun e => e.requester == q && e.due now) = true ↔
      x.hold ≤ (now - (x.expiry - BitVec.ofNat 32 x.hold)).toNat := by
  rw [← decide_eq_true_iff (p := _ ≤ _), ← elapsed, ← AssistEntry.due, List.any_eq_true]
  constructor
  · rintro ⟨y, hy, due⟩
    obtain ⟨same, due⟩ := (Bool.and_eq_true _ _).mp due
    obtain hy | rfl | hy := List.mem_append.mp hy |>.imp_right List.mem_cons.mp
    · exact absurd (beq_iff_eq.mp same) (other y (List.mem_append_left _ hy))
    · exact due
    · exact absurd (beq_iff_eq.mp same) (other y (List.mem_append_right _ hy))
  · exact fun due => ⟨x, by simp, by simp [own, due]⟩

/-- Settles O12, from the outcomes of the two requests and of the expiry, and what becomes of a requester's entry among
the others. -/
theorem assistEntriesComeAndGo : Obligations.AssistEntriesComeAndGo := by
  refine ⟨fun s tag q d h l₁ l₂ x => ?assist, fun s tag q l₁ l₂ x => ?leave⟩
  case assist =>
    refine ⟨fun other => ?_, fun active high => ?_, fun active low => ?_⟩
    · exact State.next_congr (Part.request_of_eq (Part.assist_wrong_mode other))
    · exact State.next_congr (Part.request_of_eq (Part.assist_bad_requester active high))
    · have decel : limitTo 0 8000 d = min d 8000 := by simp [limitTo]
      have hold : limitTo 50 5000 h = if h < 50 then 50 else if 5000 < h then 5000 else h := limitTo_eq (by decide) h
      have outcome := Part.assist_of_active (d := d) (h := h) active low
      rw [decel, hold] at outcome
      have unclamped (d' h' : Nat) : (decide (d' ≠ d) || decide (h' ≠ h)) = false ↔ d' = d ∧ h' = h := by simp
      rw [Reply.applied_eq (unclamped _ _)] at outcome
      refine ⟨fun table own other => ?_, fun unknown room => ?_, fun unknown full => ?_⟩
      · rw [if_pos (requester_any_iff.mpr ⟨x, by simp [table], own⟩), table, assists_renewed own other] at outcome
        exact ⟨_, State.next_congr (Part.request_of_eq outcome), Part.answer_retotal ..⟩
      · rw [if_neg (mt requester_any_iff.mp (by simpa using unknown)), if_neg (Nat.not_le.mpr room)] at outcome
        exact ⟨_, State.next_congr (Part.request_of_eq outcome), Part.answer_retotal ..⟩
      · rw [if_neg (mt requester_any_iff.mp (by simpa using unknown)), if_pos full] at outcome
        exact State.next_congr (Part.request_of_eq outcome)
  case leave =>
    refine ⟨fun high => ?_, fun low none_ => ?_, fun low table own other => ⟨?_, fun due => ?_, fun early => ?_⟩⟩
    · exact State.next_congr (Part.request_of_eq (Part.assistCancel_bad_requester high _))
    · have outcome := Part.assistCancel_of_range (p := s.part) low
      rw [if_neg (mt requester_any_iff.mp (by simpa using none_))] at outcome
      exact State.next_congr (Part.request_of_eq outcome)
    · have outcome := Part.assistCancel_of_range (p := s.part) low
      rw [if_pos (requester_any_iff.mpr ⟨x, by simp [table], own⟩), table, assists_without own other] at outcome
      exact ⟨_, State.next_congr (Part.request_of_eq outcome), Part.answer_retotal ..⟩
    · have outcome : s.part.assistExpiry q = s.part.setAssists (l₁ ++ l₂) := by
        rw [Part.assistExpiry, table, if_pos ((assist_due_iff own other _).mpr due), assists_without own other]
      exact ⟨_, State.next_congr outcome, rfl⟩
    · have outcome : s.part.assistExpiry q = s.part := by
        rw [Part.assistExpiry, table, if_neg (mt (assist_due_iff own other _).mp (Nat.not_le.mpr early))]
      exact State.next_congr outcome

end Sys2Proof.Machine
end

section
/-! PROOF. The total demand and its leading source (R37 to R39), and what the Demand Arbiter makes of a record handed to
it (R22 to R24, R27, R40). -/

namespace Sys2Proof.Machine

/-! ## The largest force of the assist table (R37) -/

theorem foldl_max_le_iff (l : List AssistEntry) (m n : Nat) :
    l.foldl (fun m e => max m e.force) m ≤ n ↔ m ≤ n ∧ ∀ e ∈ l, e.force ≤ n := by
  induction l generalizing m with
  | nil => simp
  | cons e l ih => rw [List.foldl_cons, ih, Nat.max_le, List.forall_mem_cons, and_assoc]

theorem Part.assistForce_le_iff {p : Part} {n : Nat} : p.assistForce ≤ n ↔ ∀ e ∈ p.demand.assists, e.force ≤ n := by
  simp [Part.assistForce, foldl_max_le_iff]

/-- A positive largest force is that of an entry. -/
theorem Part.assistForce_attained {p : Part} (pos : 0 < p.assistForce) :
    ∃ e ∈ p.demand.assists, e.force = p.assistForce := by
  by_contra none_
  have below : ∀ e ∈ p.demand.assists, e.force ≤ p.assistForce - 1 := fun e he => by
    have := Part.assistForce_le_iff.mp (Nat.le_refl _) e he
    have : e.force ≠ p.assistForce := fun same => none_ ⟨e, he, same⟩
    omega
  have := Part.assistForce_le_iff.mpr below
  omega

theorem Part.assistForce_lt_iff {p : Part} {n : Nat} (pos : 0 < n) :
    p.assistForce < n ↔ ∀ e ∈ p.demand.assists, e.force < n := by
  have below : p.assistForce < n ↔ p.assistForce ≤ n - 1 := by omega
  rw [below, Part.assistForce_le_iff]
  exact forall₂_congr fun _ _ => by omega

/-! ## The total demand and the leading source (R37 to R39) -/

/-- The forces of the four sources, the assist table's as that of each entry (R37). -/
def DemandArbiter.forces (d : DemandArbiter) : List Nat :=
  d.pedalForce :: d.hold.force :: d.leverForce :: d.assists.map (·.force)

/-- The largest of the source forces. -/
def Part.topForce (p : Part) : Nat :=
  max (max p.demand.pedalForce p.assistForce) (max p.demand.hold.force p.demand.leverForce)

section Total

variable {p : Part}

/-- A force bounds all source forces when it bounds those of the four sources. -/
theorem Part.forces_le_iff {n : Nat} : (∀ f ∈ p.demand.forces, f ≤ n) ↔
    p.demand.pedalForce ≤ n ∧ p.demand.hold.force ≤ n ∧ p.demand.leverForce ≤ n ∧ p.assistForce ≤ n := by
  simp [DemandArbiter.forces, Part.assistForce_le_iff]

theorem Part.forces_le_topForce : ∀ f ∈ p.demand.forces, f ≤ p.topForce := by
  rw [Part.forces_le_iff]
  unfold Part.topForce
  omega

theorem Part.topForce_mem : p.topForce ∈ p.demand.forces := by
  have top : p.topForce = p.demand.pedalForce ∨ p.topForce = p.demand.hold.force ∨
      p.topForce = p.demand.leverForce ∨ (p.topForce = p.assistForce ∧ 0 < p.assistForce) := by
    unfold Part.topForce
    omega
  obtain top | top | top | ⟨top, pos⟩ := top
  · simp [DemandArbiter.forces, top]
  · simp [DemandArbiter.forces, top]
  · simp [DemandArbiter.forces, top]
  · obtain ⟨e, he, force⟩ := Part.assistForce_attained pos
    rw [top, ← force]
    simp only [DemandArbiter.forces, List.mem_cons]
    exact .inr (.inr (.inr (List.mem_map_of_mem he)))

variable (notStanding : p.control.mode ≠ .standingDown)

include notStanding

theorem Part.totalDemand_of_not_standing : p.totalDemand = min p.topForce 20000 := if_neg notStanding

/-- The leading source by the order of the sources (R38). -/
theorem Part.leadingSource_of_not_standing : p.leadingSource =
    if p.topForce = 0 then .nobody
    else if p.demand.pedalForce = p.topForce then .pedal
    else if p.assistForce = p.topForce then .assist
    else if p.demand.hold.force = p.topForce then .hold
    else .lever := by
  have zero : p.totalDemand = 0 ↔ p.topForce = 0 := by
    rw [Part.totalDemand_of_not_standing notStanding]
    omega
  simp only [Part.leadingSource, zero, if_neg notStanding]
  rfl

theorem Part.leadingSource_nobody_iff : p.leadingSource = .nobody ↔ ∀ f ∈ p.demand.forces, f = 0 := by
  have none_ : (∀ f ∈ p.demand.forces, f = 0) ↔ p.topForce = 0 := by
    simp only [← Nat.le_zero, Part.forces_le_iff, Part.topForce]
    omega
  rw [Part.leadingSource_of_not_standing notStanding, none_]
  (repeat' split) <;> simp_all

theorem Part.leadingSource_pedal_iff : p.leadingSource = .pedal ↔
    0 < p.demand.pedalForce ∧ ∀ f ∈ p.demand.forces, f ≤ p.demand.pedalForce := by
  rw [Part.leadingSource_of_not_standing notStanding, Part.forces_le_iff]
  unfold Part.topForce
  (repeat' split) <;> simp <;> omega

theorem Part.leadingSource_assist_iff : p.leadingSource = .assist ↔
    ∃ e ∈ p.demand.assists, p.demand.pedalForce < e.force ∧ ∀ f ∈ p.demand.forces, f ≤ e.force := by
  have attained : (∃ e ∈ p.demand.assists, p.demand.pedalForce < e.force ∧ ∀ f ∈ p.demand.forces, f ≤ e.force) ↔
      p.demand.pedalForce < p.assistForce ∧ ∀ f ∈ p.demand.forces, f ≤ p.assistForce := by
    constructor
    · rintro ⟨e, he, above, largest⟩
      have same : e.force = p.assistForce := Nat.le_antisymm (Part.assistForce_le_iff.mp (Nat.le_refl _) e he)
        (Part.forces_le_iff.mp largest).2.2.2
      exact same ▸ ⟨above, largest⟩
    · rintro ⟨above, largest⟩
      obtain ⟨e, he, same⟩ := Part.assistForce_attained (Nat.zero_lt_of_lt above)
      exact ⟨e, he, by rwa [same], by rwa [same]⟩
  rw [attained, Part.leadingSource_of_not_standing notStanding, Part.forces_le_iff]
  unfold Part.topForce
  (repeat' split) <;> simp <;> omega

theorem Part.leadingSource_hold_iff : p.leadingSource = .hold ↔ p.demand.pedalForce < p.demand.hold.force ∧
    (∀ e ∈ p.demand.assists, e.force < p.demand.hold.force) ∧ p.demand.leverForce ≤ p.demand.hold.force := by
  rw [Part.leadingSource_of_not_standing notStanding]
  have assists : p.demand.pedalForce < p.demand.hold.force →
      ((∀ e ∈ p.demand.assists, e.force < p.demand.hold.force) ↔ p.assistForce < p.demand.hold.force) :=
    fun above => (Part.assistForce_lt_iff (Nat.zero_lt_of_lt above)).symm
  rw [← and_congr_right fun above => and_congr_left fun _ => (assists above).symm]
  unfold Part.topForce
  (repeat' split) <;> simp <;> omega

theorem Part.leadingSource_lever_iff : p.leadingSource = .lever ↔ p.demand.pedalForce < p.demand.leverForce ∧
    (∀ e ∈ p.demand.assists, e.force < p.demand.leverForce) ∧ p.demand.hold.force < p.demand.leverForce := by
  rw [Part.leadingSource_of_not_standing notStanding]
  have assists : p.demand.pedalForce < p.demand.leverForce →
      ((∀ e ∈ p.demand.assists, e.force < p.demand.leverForce) ↔ p.assistForce < p.demand.leverForce) :=
    fun above => (Part.assistForce_lt_iff (Nat.zero_lt_of_lt above)).symm
  rw [← and_congr_right fun above => and_congr_left fun _ => (assists above).symm]
  unfold Part.topForce
  (repeat' split) <;> simp <;> omega

end Total

/-- In STANDING_DOWN the pedal force alone counts (R39). -/
theorem Part.demand_of_standingDown {p : Part} (standing : p.control.mode = .standingDown) :
    p.totalDemand = min p.demand.pedalForce 20000 ∧
      p.leadingSource = if p.demand.pedalForce = 0 then .nobody else .pedal := by
  have total : p.totalDemand = min p.demand.pedalForce 20000 := if_pos standing
  have zero : p.totalDemand = 0 ↔ p.demand.pedalForce = 0 := by
    rw [total]
    omega
  refine ⟨total, ?_⟩
  simp only [Part.leadingSource, zero, if_pos standing]

/-! ## A record taken (R22 to R24, R27) -/

section Handed

variable {p : Part} {l r : List Handoff} {x : Handoff} {lane : Lane}

theorem Part.waiting_of_oldest (handed : p.handed = l ++ x :: r) (own : x.lane = lane)
    (older : ∀ h ∈ l, h.lane ≠ lane) : p.waiting lane = some x := by
  have none_ : l.find? (fun h => decide (h.lane = lane)) = none := by simpa using older
  simp [Part.waiting, handed, List.find?_append, none_, own]

theorem Part.taken_of_oldest (handed : p.handed = l ++ x :: r) (own : x.lane = lane)
    (older : ∀ h ∈ l, h.lane ≠ lane) : p.taken lane = { p with handed := l ++ r } := by
  have kept : (l ++ x :: r).eraseP (fun h => decide (h.lane = lane)) = l ++ r := by
    rw [List.eraseP_append_right _ (by simpa using older), List.eraseP_cons_of_pos (by simp [own])]
  rw [Part.taken, handed, kept]

end Handed

section Forces

variable {p : Part} {reading : Nat}

theorem Part.pedalForceOf_full (valid : (p.table .pedalMap).state = .valid) :
    p.pedalForceOf 1000 = ((p.table .pedalMap).entry 8).first := by
  simp [Part.pedalForceOf, Part.tableValid, valid]

/-- Between two points of the pedal map the force rises along the line (R23). -/
theorem Part.pedalForceOf_between (valid : (p.table .pedalMap).state = .valid) (below : reading < 1000) :
    p.pedalForceOf reading = ((p.table .pedalMap).entry (reading / 125)).first +
      reading % 125 * (((p.table .pedalMap).entry (reading / 125 + 1)).first -
        ((p.table .pedalMap).entry (reading / 125)).first) / 125 := by
  have notLast : ¬ reading / 125 = 8 := by omega
  have rest : reading - 125 * (reading / 125) = reading % 125 := by omega
  simp [Part.pedalForceOf, Part.tableValid, valid, notLast, rest]

theorem Part.leverForceOf_eq (stage : Nat) : p.leverForceOf stage =
    if (p.table .leverMap).state = .valid then ((p.table .leverMap).entry stage).first else 0 := by
  simp [Part.leverForceOf, Part.tableValid]

end Forces

/-- Speed hold after a record of the reference speed given (R27). -/
def Part.heldAfter (p : Part) (reference : Option Nat) : SpeedHold :=
  match reference with
  | some v => if p.demand.hold.on then p.holdUpdate v else p.demand.hold
  | none => p.demand.hold

theorem Part.heldAfter_kept {p : Part} {reference : Option Nat} (h : p.demand.hold.on = false ∨ reference = none) :
    p.heldAfter reference = p.demand.hold := by
  unfold Part.heldAfter
  split
  · obtain off | none_ := h
    · simp [off]
    · cases none_
  · rfl

/-- One update of speed hold (R27): both values lie between 0 and the largest hold force. -/
theorem Part.holdUpdate_spec (p : Part) (v : Nat) :
    (p.holdUpdate v).on = p.demand.hold.on ∧ (p.holdUpdate v).setpoint = p.demand.hold.setpoint ∧
      ((p.holdUpdate v).accumulator : Int) = min (p.setting idHoldMax : Int) (max 0 (p.demand.hold.accumulator +
        ((p.setting idHoldKi : Int) * ((v : Int) - p.demand.hold.setpoint)).tdiv 10)) ∧
      ((p.holdUpdate v).force : Int) = min (p.setting idHoldMax : Int) (max 0 ((p.setting idHoldKp : Int) *
        ((v : Int) - p.demand.hold.setpoint) + (p.holdUpdate v).accumulator)) := by
  have limited (top : Nat) (x : Int) : ((limitInt 0 top x).toNat : Int) = min (top : Int) (max 0 x) := by
    unfold limitInt
    omega
  have held (top : Nat) (x : Int) : ((limitInt 0 top x).toNat : Int) = limitInt 0 top x := by
    unfold limitInt
    omega
  refine ⟨rfl, rfl, limited _ _, ?_⟩
  refine (limited _ _).trans ?_
  rw [← held]
  rfl

/-- Settles O10, from the characterisation of each leading source, and the record that the Demand Arbiter takes. -/
theorem demandFollowsTheRecordAndForces : Obligations.DemandFollowsTheRecordAndForces := by
  refine ⟨fun p => ⟨p.totalDemand_le, Part.demand_of_standingDown, fun notStanding => ?total⟩,
    fun s l r pedal lever ref handed older => ?record⟩
  case total =>
    have total := Part.totalDemand_of_not_standing notStanding
    refine ⟨fun f hf => ?_, ⟨p.topForce, p.topForce_mem, total⟩, Part.leadingSource_nobody_iff notStanding,
      Part.leadingSource_pedal_iff notStanding, Part.leadingSource_assist_iff notStanding,
      Part.leadingSource_hold_iff notStanding, Part.leadingSource_lever_iff notStanding⟩
    have := p.forces_le_topForce f hf
    omega
  case record =>
    have taken : s.part.speedHoldUpdate = ({ s.part with handed := l ++ r }).takeDemandRecord pedal lever ref := by
      rw [Part.speedHoldUpdate, Part.waiting_of_oldest (lane := .demandRecord) handed rfl older,
        ← Part.taken_of_oldest (lane := .demandRecord) handed rfl older]
    refine ⟨_, State.next_congr taken, Part.eq_of_fields, rfl, ?_, ?_, ?_, Part.leverForceOf_eq lever, ?_, ?_⟩
    · exact fun notValid => Part.pedalForceOf_of_not_valid notValid pedal
    · rintro valid rfl
      exact Part.pedalForceOf_full valid
    · exact Part.pedalForceOf_between
    · exact Part.heldAfter_kept (p := s.part)
    · rintro on v rfl
      have updated : s.part.heldAfter (some v) = s.part.holdUpdate v := if_pos on
      obtain ⟨stays, setpoint, accumulator, force⟩ := s.part.holdUpdate_spec v
      rw [← updated] at stays setpoint accumulator force
      exact ⟨stays.trans on, setpoint, accumulator, force⟩

end Sys2Proof.Machine
end

section
/-! PROOF. What each block leaves of its items when passes stop (R98, R129, R137, R144), operation by operation. -/

namespace Sys2Proof.Machine

/-! ## The retarder is released (R119, R129) -/

@[simp] theorem Part.sendRetarder_ret (p : Part) (t : RetarderTarget) :
    (p.sendRetarder t).ret = { p.ret with lastSent := t } := by
  unfold Part.sendRetarder Part.postRetarder
  split <;> simp

theorem Part.drainRetarder_ret (p : Part) : p.drainRetarder.ret = { p.ret with
    state := .draining, fillTimer := none, releaseMark := none, lastSent := ⟨false, 0⟩
    drainTimer := some ⟨p.now, p.setting idDrainTimeout⟩ } := by
  simp only [Part.drainRetarder, Part.sendRetarder_ret]
  rfl

/-- FILLING and ACTIVE are left for DRAINING, with the release target sent and the drain timer started. -/
theorem Part.stopRetarder_ret (p : Part) :
    p.stopRetarder.ret.state =
        (if p.ret.state = .filling ∨ p.ret.state = .active then .draining else p.ret.state) ∧
      (p.ret.state = .filling ∨ p.ret.state = .active → p.stopRetarder.ret.lastSent = ⟨false, 0⟩ ∧
        p.stopRetarder.ret.drainTimer = some ⟨p.now, p.setting idDrainTimeout⟩) := by
  unfold Part.stopRetarder
  cases state : p.ret.state <;> simp [state, Part.drainRetarder_ret, Part.setting]

/-! ## The flap is opened (R133, R137) -/

@[simp] theorem Part.changeFlap_flap (p : Part) (f : FlapControl) : (p.changeFlap f).flap = f := by
  unfold Part.changeFlap
  split <;> rfl

theorem Part.flapOpenWant_flap (p : Part) :
    p.flapOpenWant.flap.state = (if p.flap.state = .closing ∨ p.flap.state = .closed
        then (if p.fswClosed then .opening else .opened) else p.flap.state) ∧
      (p.flap.state = .closing ∨ p.flap.state = .closed → p.flapOpenWant.flap.solenoid = false) := by
  unfold Part.flapOpenWant Part.flapOpening Part.flapOpened
  cases state : p.flap.state <;> cases p.fswClosed <;> simp [state]

/-- Opening the flap hands on a recomputation at most (R131). -/
theorem Part.mem_flapOpenWant_handed {p : Part} {h : Handoff} (mem : h ∈ p.flapOpenWant.handed) :
    h ∈ p.handed ∨ h = .recompute := by
  have changed : ∀ f, h ∈ (p.changeFlap f).handed → h ∈ p.handed ∨ h = .recompute := fun f mem => by
    unfold Part.changeFlap at mem
    split at mem
    · exact .inl mem
    · simpa using mem
  unfold Part.flapOpenWant at mem
  split at mem
  · split at mem <;> exact changed _ mem
  · split at mem <;> exact changed _ mem
  · exact .inl mem
  · exact .inl mem
  · exact .inl mem

/-! ## The channels leave COMMANDED (R144) -/

/-- A channel's state, last demand and tracking timer. -/
def Channel.service (c : Channel) : Option ChannelState × Nat × Option Timer := (c.state, c.lastDemand, c.tracking)

/-- What a stop of passes makes of these: a COMMANDED channel is in BACKUP with its demand dropped. -/
def Channel.stopped (c : Channel) : Option ChannelState × Nat × Option Timer :=
  if c.state = some .commanded then (some .backup, 0, none) else c.service

theorem Channel.stopped_congr {c d : Channel} (same : c.service = d.service) : c.stopped = d.stopped := by
  have state : c.state = d.state := congrArg Prod.fst same
  rw [Channel.stopped, Channel.stopped, same, state]

/-- Posting its target changes the last target sent of a channel alone (R148). -/
theorem Part.postTarget_service (p : Part) (a b : Axle) :
    ((p.postTarget a).chan.get b).service = (p.chan.get b).service := by
  unfold Part.postTarget
  dsimp only
  split
  · split
    · rfl
    · by_cases same : b = a
      · subst same
        simp [Channel.service]
      · simp [Axles.get_set_ne _ _ same]
  · rfl
  · rfl

theorem Channel.released_service {c : Channel} (commanded : c.state = some .commanded) :
    (c.released .backup).service = c.stopped := by
  simp [Channel.released, Channel.stopped, Channel.service, commanded]

theorem Part.stopChannel_service (p : Part) (a b : Axle) : ((p.stopChannel a).chan.get b).service =
    if b = a then (p.chan.get b).stopped else (p.chan.get b).service := by
  unfold Part.stopChannel Part.releaseChannel
  by_cases same : b = a
  · subst same
    split
    · next commanded => simp [Part.postTarget_service, Channel.released_service commanded]
    · next other => simp [Channel.stopped, other]
  · split
    · simp [Part.postTarget_service, Axles.get_set_ne _ _ same]
    · simp

/-- Every channel named is stopped, and the others keep what they hold. -/
theorem Part.foldl_stopChannel_service (l : List Axle) (distinct : l.Nodup) (p : Part) (b : Axle) :
    ((l.foldl stopChannel p).chan.get b).service =
      if b ∈ l then (p.chan.get b).stopped else (p.chan.get b).service := by
  induction l generalizing p with
  | nil => rfl
  | cons a l ih =>
    obtain ⟨fresh, distinct⟩ := List.nodup_cons.mp distinct
    rw [List.foldl_cons, ih distinct, Part.stopChannel_service]
    by_cases same : b = a
    · simp [same, fresh]
    · have kept : ((p.stopChannel a).chan.get b).service = (p.chan.get b).service := by
        rw [Part.stopChannel_service, if_neg same]
      simp [same, Channel.stopped_congr kept]

theorem Part.stopChannels_service (p : Part) (b : Axle) :
    (p.stopChannels.chan.get b).service = (p.chan.get b).stopped := by
  rw [Part.stopChannels, Part.foldl_stopChannel_service _ (by decide), if_pos (Axles.mem_all b)]

end Sys2Proof.Machine
end

section
/-! PROOF. Stale motion and a completed stand-down (R48, R171, R175): what stopping the passes makes of every block. -/

namespace Sys2Proof.Machine

/-! ## What stopping the passes releases (R98, R129, R137, R144) -/

/-- What a stop of passes makes of the part `q` beside the Apportioner, the demand and the mode. -/
structure BrakesReleased (q p : Part) : Prop where
  retState : p.ret.state = if q.ret.state = .filling ∨ q.ret.state = .active then .draining else q.ret.state
  retSent : q.ret.state = .filling ∨ q.ret.state = .active →
    p.ret.lastSent = ⟨false, 0⟩ ∧ p.ret.drainTimer = some ⟨q.now, q.setting idDrainTimeout⟩
  flapState : p.flap.state = if q.flap.state = .closing ∨ q.flap.state = .closed
    then (if q.fswClosed then .opening else .opened) else q.flap.state
  solenoid : q.flap.state = .closing ∨ q.flap.state = .closed → p.flap.solenoid = false
  channels : ∀ a, (p.chan.get a).service = (q.chan.get a).stopped
  handed : ∀ h ∈ p.handed, h.lane.ofPass = false

theorem Part.stopPasses_released (p : Part) : BrakesReleased p p.stopPasses := by
  obtain ⟨retState, retSent⟩ :=
    (({ p with app := Part.stoppedApportioner p.app }.discardLanes Lane.ofPass).flapOpenWant).stopRetarder_ret
  obtain ⟨flapState, solenoid⟩ :=
    ({ p with app := Part.stoppedApportioner p.app }.discardLanes Lane.ofPass).flapOpenWant_flap
  have flap : p.stopPasses.flap =
      ({ p with app := Part.stoppedApportioner p.app }.discardLanes Lane.ofPass).flapOpenWant.flap := by
    simp [Part.stopPasses]
  refine ⟨by simpa [Part.stopPasses] using retState, by simpa [Part.stopPasses, Part.setting] using retSent,
    by rw [flap]; exact flapState, by rw [flap]; exact solenoid, fun a => ?_, fun h mem => ?_⟩
  · simp [Part.stopPasses, Part.stopChannels_service]
  · simp only [Part.stopPasses, Part.stopChannels_untouched, Part.stopRetarder_untouched] at mem
    obtain mem | rfl := Part.mem_flapOpenWant_handed mem
    · simpa using (List.mem_filter.mp mem).2
    · rfl

/-- A part read before the stop as `q` is, and after it as `p` is. -/
theorem BrakesReleased.congr {q x y p : Part} (h : BrakesReleased x y)
    (before : x.now = q.now ∧ x.store = q.store ∧ x.ret = q.ret ∧ x.flap = q.flap ∧ x.chan = q.chan ∧
      x.fswClosed = q.fswClosed)
    (after : p.ret = y.ret ∧ p.flap = y.flap ∧ p.chan = y.chan)
    (handed : ∀ h ∈ p.handed, h ∈ y.handed ∨ h = .recompute) : BrakesReleased q p := by
  obtain ⟨now, store, ret, flap, chan, fsw⟩ := before
  obtain ⟨ret', flap', chan'⟩ := after
  obtain ⟨retState, retSent, flapState, solenoid, channels, none_⟩ := h
  rw [Part.setting, now, store, ret] at retSent
  rw [ret] at retState
  rw [flap, fsw] at flapState
  rw [flap] at solenoid
  rw [chan] at channels
  exact ⟨by rw [ret', retState], by rw [ret']; exact retSent, by rw [flap', flapState], by rw [flap']; exact solenoid,
    by rw [chan']; exact channels, fun h mem => by
      obtain mem | rfl := handed h mem
      · exact none_ h mem
      · rfl⟩

/-! ## The demand and the flags at a stop of passes -/

/-- Speed hold cancelled and the assist table emptied (R28, R34). -/
theorem Part.demand_of_dropped (p : Part) : p.cancelHold.dropAssists.demand = { p.demand with
    hold := ⟨false, 0, 0, 0⟩, assists := []
    total := p.cancelHold.dropAssists.totalDemand, lead := p.cancelHold.dropAssists.leadingSource } := by
  unfold Part.dropAssists
  split
  · next empty =>
    have none_ : p.demand.assists = [] := by simpa using empty
    refine (Part.demand_of_retotal (p := { p with demand := { p.demand with hold := .off } }) (q := p.cancelHold)
      rfl rfl).trans ?_
    simp only [none_]
    rfl
  · exact Part.demand_of_retotal (p := { p.cancelHold with demand := { p.cancelHold.demand with assists := [] } })
      rfl rfl

theorem Part.dropAssists_flags (p : Part) : p.dropAssists.flags =
    { p.flags with assistDropped := p.flags.assistDropped || !p.demand.assists.isEmpty } := by
  unfold Part.dropAssists
  cases empty : p.demand.assists.isEmpty <;> simp [Part.flagAssistDropped]

/-- The alarm's own flags apart, judging the alarm sets none. -/
theorem Part.judgeAlarm_flags (p : Part) : p.judgeAlarm.flags.modeChanged = p.flags.modeChanged ∧
    p.judgeAlarm.flags.assistDropped = p.flags.assistDropped ∧
    p.judgeAlarm.flags.fallbackEntered = p.flags.fallbackEntered := by
  unfold Part.judgeAlarm
  split <;> exact ⟨rfl, rfl, rfl⟩

/-- The report of stale motion, where it is not present already, touches FAULTS_CHANGED alone (R48). -/
@[simp] theorem Part.madeStale_untouched (p : Part) :
    p.madeStale.now = p.now ∧ p.madeStale.control = p.control ∧ p.madeStale.store = p.store ∧
      p.madeStale.demand = p.demand ∧ p.madeStale.slip = p.slip ∧ p.madeStale.cap = p.cap ∧
      p.madeStale.app = p.app ∧ p.madeStale.thermal = p.thermal ∧ p.madeStale.ret = p.ret ∧
      p.madeStale.flap = p.flap ∧ p.madeStale.chan = p.chan ∧ p.madeStale.retRoute = p.retRoute ∧
      p.madeStale.link = p.link ∧ p.madeStale.vl = p.vl ∧ p.madeStale.fswClosed = p.fswClosed ∧
      p.madeStale.handed = p.handed := by
  unfold Part.madeStale
  dsimp only
  split <;> simp

theorem Part.madeStale_motion (p : Part) :
    p.madeStale.motion = { p.motion with freshness := .stale, timer := none, stalePresent := true } := by
  unfold Part.madeStale
  dsimp only
  split <;> simp

theorem Part.madeStale_faults (p : Part) : p.madeStale.faults =
    if p.motion.stalePresent then p.faults else (p.faults.occurred p.now .motion .staleMotion).1 := by
  unfold Part.madeStale
  dsimp only
  split <;> simp

theorem Part.faultOccurs_flags (p : Part) (src : Source) (code : FaultCode) : (p.faultOccurs src code).flags =
    { p.flags with faultsChanged := (p.faultOccurs src code).flags.faultsChanged } := by
  unfold Part.faultOccurs
  dsimp only
  split <;> rfl

theorem Part.madeStale_flags (p : Part) :
    p.madeStale.flags = { p.flags with faultsChanged := p.madeStale.flags.faultsChanged } := by
  unfold Part.madeStale
  dsimp only
  split
  · rfl
  · exact Part.faultOccurs_flags _ _ _

/-! ## Passes stopped by FALLBACK and by STANDBY -/

/-- The part once passes have stopped on entry to FALLBACK (R28, R34, R98). -/
def Part.fellBack (p : Part) : Part := (p.stopPasses.cancelHold.dropAssists).judgeAlarm.needCapacities

/-- The part once passes have stopped on entry to STANDBY (R98, R175). -/
def Part.stoodDown (p : Part) : Part := (p.stopPasses.retotal).judgeAlarm.needCapacities

theorem Part.changeMode_fallback {p : Part} (active : p.control.mode = .active) :
    p.changeMode .fallback = (p.entering .fallback).fellBack := by
  rw [Part.changeMode_eq (by simp [active]), Part.actOnModeChange_fallback (by simp; rfl)]
  rfl

theorem Part.changeMode_standby {p : Part} (standing : p.control.mode = .standingDown) :
    p.changeMode .standby = (p.entering .standby).stoodDown := by
  rw [Part.changeMode_eq (by simp [standing]), Part.actOnModeChange_standby (by simp; rfl), standing]
  rfl

theorem Part.fellBack_app (p : Part) : p.fellBack.app =
    { Part.stoppedApportioner p.app with alarm := if p.anyFade then .raised else .clear } := by
  have fade : (p.stopPasses.cancelHold.dropAssists).anyFade = p.anyFade :=
    Part.anyFade_of_unchanged (by simp) (by simp)
  simp [Part.fellBack, Part.judgeAlarm_app, fade]

theorem Part.stoodDown_app (p : Part) : p.stoodDown.app =
    { Part.stoppedApportioner p.app with alarm := if p.anyFade then .raised else .clear } := by
  have fade : p.stopPasses.retotal.anyFade = p.anyFade := Part.anyFade_of_unchanged (by simp) (by simp)
  simp [Part.stoodDown, Part.judgeAlarm_app, fade]

theorem Part.fellBack_released (p : Part) : BrakesReleased p p.fellBack :=
  p.stopPasses_released.congr (by simp) (by simp [Part.fellBack]) (by simp [Part.fellBack])

theorem Part.stoodDown_released (p : Part) : BrakesReleased p p.stoodDown :=
  p.stopPasses_released.congr (by simp) (by simp [Part.stoodDown]) (by simp [Part.stoodDown])

@[simp] theorem Part.fellBack_untouched (p : Part) :
    p.fellBack.now = p.now ∧ p.fellBack.control = p.control ∧ p.fellBack.store = p.store ∧
      p.fellBack.motion = p.motion ∧ p.fellBack.slip = p.slip ∧ p.fellBack.cap = p.cap ∧
      p.fellBack.thermal = p.thermal ∧ p.fellBack.retRoute = p.retRoute ∧ p.fellBack.faults = p.faults ∧
      p.fellBack.vl = p.vl ∧ p.fellBack.fswClosed = p.fswClosed := by
  simp [Part.fellBack]

@[simp] theorem Part.stoodDown_untouched (p : Part) :
    p.stoodDown.now = p.now ∧ p.stoodDown.control = p.control ∧ p.stoodDown.store = p.store ∧
      p.stoodDown.motion = p.motion ∧ p.stoodDown.slip = p.slip ∧ p.stoodDown.cap = p.cap ∧
      p.stoodDown.thermal = p.thermal ∧ p.stoodDown.retRoute = p.retRoute ∧ p.stoodDown.faults = p.faults ∧
      p.stoodDown.vl = p.vl ∧ p.stoodDown.fswClosed = p.fswClosed := by
  simp [Part.stoodDown]

theorem Part.fellBack_demand (p : Part) : p.fellBack.demand = { p.demand with
    hold := ⟨false, 0, 0, 0⟩, assists := [], total := p.fellBack.totalDemand, lead := p.fellBack.leadingSource } := by
  obtain ⟨total, lead⟩ := Part.totalDemand_congr (p := p.stopPasses.cancelHold.dropAssists) (q := p.fellBack)
    (by simp [Part.fellBack]) (by simp [Part.fellBack])
  rw [total, lead]
  simpa [Part.fellBack] using p.stopPasses.demand_of_dropped

theorem Part.stoodDown_demand (p : Part) : p.stoodDown.demand = { p.demand with
    total := p.stoodDown.totalDemand, lead := p.stoodDown.leadingSource } := by
  simpa using Part.demand_of_retotal (p := p.stopPasses) (q := p.stoodDown) (by simp [Part.stoodDown])
    (by simp [Part.stoodDown])

theorem Part.fellBack_flags (p : Part) : p.fellBack.flags.modeChanged = p.flags.modeChanged ∧
    p.fellBack.flags.assistDropped = (p.flags.assistDropped || !p.demand.assists.isEmpty) ∧
    p.fellBack.flags.fallbackEntered = p.flags.fallbackEntered := by
  obtain ⟨mode, dropped, entered⟩ := (p.stopPasses.cancelHold.dropAssists).judgeAlarm_flags
  simp [Part.fellBack, mode, dropped, entered, Part.dropAssists_flags]

theorem Part.stoodDown_flags (p : Part) : p.stoodDown.flags.modeChanged = p.flags.modeChanged ∧
    p.stoodDown.flags.assistDropped = p.flags.assistDropped ∧
    p.stoodDown.flags.fallbackEntered = p.flags.fallbackEntered := by
  simpa [Part.stoodDown] using (p.stopPasses.retotal).judgeAlarm_flags

end Sys2Proof.Machine
end

section
/-! PROOF. The motion timer's expiry in each mode, and the pass that finds a stand-down complete (R48, R98, R171,
R175). -/

namespace Sys2Proof.Machine

open Safety

theorem timerDue_of_elapsed {t : Timer} {timer : Option Timer} {now : Time} (running : timer = some t)
    (due : t.interval ≤ (now - t.start).toNat) : timerDue timer now = true := by
  rw [running]
  exact decide_eq_true due

/-! ## The motion timer's expiry (R48, R171, R175) -/

/-- The part as motion becomes STALE in ACTIVE, before the mode changes (R171). -/
def Part.lapsed (p : Part) : Part :=
  { p.madeStale with control := { p.madeStale.control with recovery := none } }.flagFallbackEntered

section Stale

variable {p : Part} (due : timerDue p.motion.timer p.now = true)

include due

theorem Part.motionTimerExpiry_of_due : p.motionTimerExpiry = p.madeStale.modeOnStale := by
  rw [Part.motionTimerExpiry_eq, if_pos due]

theorem Part.motionTimerExpiry_active (active : p.control.mode = .active) :
    p.motionTimerExpiry = (p.lapsed.entering .fallback).fellBack := by
  have mode : p.madeStale.control.mode = .active := by simpa using active
  rw [Part.motionTimerExpiry_of_due due, Part.modeOnStale, mode]
  exact Part.changeMode_fallback (p := p.lapsed) mode

theorem Part.motionTimerExpiry_standingDown (standing : p.control.mode = .standingDown) :
    p.motionTimerExpiry = (p.madeStale.entering .standby).stoodDown := by
  have mode : p.madeStale.control.mode = .standingDown := by simpa using standing
  rw [Part.motionTimerExpiry_of_due due, Part.modeOnStale, mode]
  exact Part.changeMode_standby mode

theorem Part.motionTimerExpiry_fallback (fallback : p.control.mode = .fallback) :
    p.motionTimerExpiry = { p.madeStale with control := { p.control with recovery := none } } := by
  have mode : p.madeStale.control.mode = .fallback := by simpa using fallback
  rw [Part.motionTimerExpiry_of_due due, Part.modeOnStale, mode]
  simp

theorem Part.motionTimerExpiry_idle (idle : p.control.mode = .config ∨ p.control.mode = .standby) :
    p.motionTimerExpiry = p.madeStale := by
  have control : p.madeStale.control = p.control := by simp
  rw [Part.motionTimerExpiry_of_due due, Part.modeOnStale, control]
  obtain mode | mode := idle <;> rw [mode]

end Stale

/-! ## The pass that completes a stand-down (R175) -/

theorem Part.standDownActuatorsReady_iff {p : Part} : p.standDownActuatorsReady = true ↔
    (p.retarderFitted = false ∨ p.ret.state = .drained ∨ p.ret.state = .faulted ∨
      p.retarderPresent = false ∨ p.retarderReported = true) ∧
    (p.flap.state = .opened ∨ p.flap.state = .faulted) := by
  simp [Part.standDownActuatorsReady, or_assoc]

/-- What the completion of a stand-down is judged by (R175). -/
theorem standDownComplete_congr {p q : Part} (now : q.now = p.now) (control : q.control = p.control)
    (store : q.store = p.store) (ret : q.ret = p.ret) (flap : q.flap = p.flap) (retRoute : q.retRoute = p.retRoute)
    (link : q.link = p.link) (complete : StandDownComplete p) : StandDownComplete q := by
  cases p
  cases q
  subst now control store ret flap retRoute link
  exact complete

theorem Part.judgeStandDown_of_complete {p : Part} (complete : StandDownComplete p) :
    p.judgeStandDown = p.changeMode .standby := by
  obtain ⟨standing, old, actuators⟩ := complete
  cases start : p.control.standDownStart with
  | none => simp [start] at old
  | some t =>
    rw [start] at old
    have aged : p.setting idStandDownTime ≤ elapsed p.now t := of_decide_eq_true old
    simp only [Part.judgeStandDown, standing, start]
    exact if_pos ⟨aged, Part.standDownActuatorsReady_iff.mpr actuators⟩

theorem Part.pass_of_complete {p : Part} (due : timerDue p.app.passTimer p.now = true)
    (complete : StandDownComplete p) : p.pass = (p.runPass.startPassTimer.entering .standby).stoodDown := by
  have after : StandDownComplete p.runPass.startPassTimer :=
    standDownComplete_congr (by simp) (by simp) (by simp) (by simp) (by simp) (by simp) (by simp) complete
  rw [Part.pass, if_pos due, Part.judgeStandDown_of_complete after]
  exact Part.changeMode_standby (by simpa using complete.1)

/-! ## What stops the passes (R98, R129, R137, R144, R175, R176) -/

theorem Channel.of_stopped {c n : Channel} (h : n.service = c.stopped) :
    n.state = (if c.state = some .commanded then some .backup else c.state) ∧
      (c.state = some .commanded → n.lastDemand = 0 ∧ n.tracking = none) := by
  obtain ⟨state, demand, tracking⟩ : n.state = c.stopped.1 ∧ n.lastDemand = c.stopped.2.1 ∧
      n.tracking = c.stopped.2.2 := ⟨congrArg (·.1) h, congrArg (·.2.1) h, congrArg (·.2.2) h⟩
  rw [state, demand, tracking]
  unfold Channel.stopped
  split <;> simp_all [Channel.service]

/-- What the entry to the mode given makes of the part `q` when it stops the passes, with the rotation pointer given. -/
def PassesStopped (q p : Part) (mode : Mode) (pointer : Axle) : Prop :=
  p.control.mode = mode ∧ p.flags.modeChanged = true ∧
  p.demand = (if mode = .fallback
    then { q.demand with
      hold := ⟨false, 0, 0, 0⟩, assists := [], total := p.totalDemand, lead := p.leadingSource }
    else { q.demand with total := p.totalDemand, lead := p.leadingSource }) ∧
  p.flags.assistDropped = (q.flags.assistDropped || decide (mode = .fallback ∧ q.demand.assists ≠ [])) ∧
  p.app = { Apportioner.cold with
    mask := q.app.mask, pointer := pointer, alarm := if q.anyFade then .raised else .clear } ∧
  p.ret.state = (if q.ret.state = .filling ∨ q.ret.state = .active then .draining else q.ret.state) ∧
  (q.ret.state = .filling ∨ q.ret.state = .active →
    p.ret.lastSent = ⟨false, 0⟩ ∧ p.ret.drainTimer = some ⟨q.now, q.setting idDrainTimeout⟩) ∧
  p.flap.state = (if q.flap.state = .closing ∨ q.flap.state = .closed
    then (if q.fswClosed then .opening else .opened) else q.flap.state) ∧
  (q.flap.state = .closing ∨ q.flap.state = .closed → p.flap.solenoid = false) ∧
  (∀ a : Axle, (p.chan.get a).state =
      (if (q.chan.get a).state = some .commanded then some .backup else (q.chan.get a).state) ∧
    ((q.chan.get a).state = some .commanded → (p.chan.get a).lastDemand = 0 ∧ (p.chan.get a).tracking = none)) ∧
  (∀ h ∈ p.handed, h.lane.ofPass = false) ∧
  p.store = q.store ∧ p.slip = q.slip ∧ p.thermal = q.thermal ∧ p.cap = q.cap ∧ p.vl = q.vl

/-- What the part `x`, about to change the mode, has of the part `q` as it stood before the event. -/
structure StandsAs (x q : Part) : Prop where
  now : x.now = q.now
  store : x.store = q.store
  demand : x.demand = q.demand
  slip : x.slip = q.slip
  cap : x.cap = q.cap
  thermal : x.thermal = q.thermal
  ret : x.ret = q.ret
  flap : x.flap = q.flap
  chan : x.chan = q.chan
  vl : x.vl = q.vl
  fswClosed : x.fswClosed = q.fswClosed
  mask : x.app.mask = q.app.mask
  assistDropped : x.flags.assistDropped = q.flags.assistDropped

namespace StandsAs

variable {x q p : Part} {new : Mode}

theorem anyFade (h : StandsAs x q) (new : Mode) : (x.entering new).anyFade = q.anyFade :=
  Part.anyFade_of_unchanged (by simp [h.store]) (by simp [h.thermal])

/-- The part after the change of mode, from what its entry makes of each block. -/
theorem passesStopped (h : StandsAs x q) (released : BrakesReleased (x.entering new) p)
    (modes : p.control = x.control.entering new ∧ p.flags.modeChanged = true)
    (demand : p.demand = if new = .fallback
      then { q.demand with
        hold := ⟨false, 0, 0, 0⟩, assists := [], total := p.totalDemand, lead := p.leadingSource }
      else { q.demand with total := p.totalDemand, lead := p.leadingSource })
    (dropped : p.flags.assistDropped =
      (q.flags.assistDropped || decide (new = .fallback ∧ q.demand.assists ≠ [])))
    (app : p.app = { Part.stoppedApportioner x.app with alarm := if (x.entering new).anyFade then .raised else .clear })
    (same : p.store = x.store ∧ p.slip = x.slip ∧ p.thermal = x.thermal ∧ p.cap = x.cap ∧ p.vl = x.vl) :
    PassesStopped q p new x.app.pointer := by
  obtain ⟨retState, retSent, flapState, solenoid, channels, handed⟩ := released.congr (q := q)
    (by simp [h.now, h.store, h.ret, h.flap, h.chan, h.fswClosed]) ⟨rfl, rfl, rfl⟩ fun _ => .inl
  obtain ⟨control, modeChanged⟩ := modes
  obtain ⟨store, slip, thermal, cap, vl⟩ := same
  refine ⟨congrArg (·.mode) control, modeChanged, demand, dropped, ?_, retState, retSent, flapState, solenoid,
    fun a => Channel.of_stopped (channels a), handed, store.trans h.store, slip.trans h.slip,
    thermal.trans h.thermal, cap.trans h.cap, vl.trans h.vl⟩
  rw [app, h.anyFade]
  simp [Part.stoppedApportioner, h.mask]

/-- Entry to FALLBACK (R98, R171). -/
theorem fellBack (h : StandsAs x q) :
    PassesStopped q (x.entering .fallback).fellBack .fallback x.app.pointer := by
  obtain ⟨modeChanged, dropped, -⟩ := (x.entering .fallback).fellBack_flags
  refine h.passesStopped (x.entering .fallback).fellBack_released ⟨by simp, modeChanged⟩ ?_ ?_ ?_ (by simp)
  · simpa [h.demand] using (x.entering .fallback).fellBack_demand
  · rw [dropped]
    cases empty : q.demand.assists <;> simp [h.demand, empty, Part.entering, h.assistDropped]
  · simpa using (x.entering .fallback).fellBack_app

/-- Entry to STANDBY from STANDING_DOWN (R98, R175). -/
theorem stoodDown (h : StandsAs x q) :
    PassesStopped q (x.entering .standby).stoodDown .standby x.app.pointer := by
  obtain ⟨modeChanged, dropped, -⟩ := (x.entering .standby).stoodDown_flags
  refine h.passesStopped (x.entering .standby).stoodDown_released ⟨by simp, modeChanged⟩ ?_ ?_ ?_ (by simp)
  · simpa [h.demand] using (x.entering .standby).stoodDown_demand
  · rw [dropped]
    simp [Part.entering, h.assistDropped]
  · simpa using (x.entering .standby).stoodDown_app

end StandsAs

@[simp] theorem Part.madeStale_assistDropped (p : Part) :
    p.madeStale.flags.assistDropped = p.flags.assistDropped := by
  rw [Part.madeStale_flags]

theorem Part.madeStale_standsAs (p : Part) : StandsAs p.madeStale p := by
  constructor <;> simp

theorem Part.lapsed_standsAs (p : Part) : StandsAs p.lapsed p := by
  constructor <;> simp [Part.lapsed]

@[simp] theorem Part.flagAlarm_assistDropped (p : Part) (old : Alarm) :
    (p.flagAlarm old).flags.assistDropped = p.flags.assistDropped := by
  unfold Part.flagAlarm
  split <;> rfl

/-- A pass touches no other block, keeps the mask, and sets no flag but the alarm's (R77, R96). -/
theorem Part.runPass_standsAs (p : Part) : StandsAs p.runPass.startPassTimer p := by
  have dropped : p.runPass.flags.assistDropped = p.flags.assistDropped := by simp [Part.runPass]
  constructor <;> simp [dropped, Part.startPassTimer, Part.passResults]

/-- Settles O45: the entry to FALLBACK and to STANDBY of a part that stands, but for motion, the pass or the flags, as
it did before the event. -/
theorem passesStopReleasesTheBrakes : Obligations.PassesStopReleasesTheBrakes := by
  refine fun s t d => ⟨fun active running due => ?active, fun standing running due => ?standing,
    fun running due complete => ?pass⟩
  case active =>
    have outcome := Part.motionTimerExpiry_active (timerDue_of_elapsed running due) active
    have pointer : s.part.lapsed.app.pointer = s.part.app.pointer := by simp [Part.lapsed]
    exact ⟨_, State.next_congr outcome, pointer ▸ s.part.lapsed_standsAs.fellBack⟩
  case standing =>
    have outcome := Part.motionTimerExpiry_standingDown (timerDue_of_elapsed running due) standing
    have pointer : s.part.madeStale.app.pointer = s.part.app.pointer := by simp
    exact ⟨_, State.next_congr outcome, pointer ▸ s.part.madeStale_standsAs.stoodDown⟩
  case pass =>
    have outcome := Part.pass_of_complete (timerDue_of_elapsed running due) complete
    exact ⟨_, _, State.next_congr outcome, s.part.runPass_standsAs.stoodDown⟩

/-! ## Stale motion in every mode (R48, R171) -/

/-- Without speed hold and assist entries the pedal and the lever alone demand (R37, R38). -/
theorem Part.demand_of_pedal_and_lever {p : Part} (notStanding : p.control.mode ≠ .standingDown)
    (hold : p.demand.hold.force = 0) (assists : p.demand.assists = []) :
    p.totalDemand = min (max p.demand.pedalForce p.demand.leverForce) 20000 ∧
      p.leadingSource = if p.demand.pedalForce = 0 ∧ p.demand.leverForce = 0 then .nobody
        else if p.demand.leverForce ≤ p.demand.pedalForce then .pedal else .lever := by
  have none_ : p.assistForce = 0 := by simp [Part.assistForce, assists]
  have top : p.topForce = max p.demand.pedalForce p.demand.leverForce := by simp [Part.topForce, hold, none_]
  refine ⟨by rw [Part.totalDemand_of_not_standing notStanding, top], ?_⟩
  have zero : max p.demand.pedalForce p.demand.leverForce = 0 ↔ p.demand.pedalForce = 0 ∧ p.demand.leverForce = 0 := by
    omega
  have pedal : p.demand.pedalForce = max p.demand.pedalForce p.demand.leverForce ↔
      p.demand.leverForce ≤ p.demand.pedalForce := by
    omega
  rw [Part.leadingSource_of_not_standing notStanding, top, hold, none_]
  by_cases silent : p.demand.pedalForce = 0 ∧ p.demand.leverForce = 0
  · rw [if_pos (zero.mpr silent), if_pos silent]
  · have positive : ¬ 0 = max p.demand.pedalForce p.demand.leverForce := fun none_ => silent (zero.mp none_.symm)
    simp only [zero, pedal, silent, positive, if_false]

@[simp] theorem Part.modeOnStale_untouched (p : Part) :
    p.modeOnStale.now = p.now ∧ p.modeOnStale.store = p.store ∧ p.modeOnStale.motion = p.motion ∧
      p.modeOnStale.slip = p.slip ∧ p.modeOnStale.cap = p.cap ∧ p.modeOnStale.thermal = p.thermal ∧
      p.modeOnStale.retRoute = p.retRoute ∧ p.modeOnStale.faults = p.faults ∧ p.modeOnStale.vl = p.vl ∧
      p.modeOnStale.fswClosed = p.fswClosed := by
  unfold Part.modeOnStale
  split <;> simp

@[simp] theorem Part.madeStale_fallbackEntered (p : Part) :
    p.madeStale.flags.fallbackEntered = p.flags.fallbackEntered := by
  rw [Part.madeStale_flags]

section Modes

variable {p : Part} (due : timerDue p.motion.timer p.now = true)

include due

/-- In ACTIVE: FALLBACK, with the pedal and the lever alone demanding (R28, R34, R171). -/
theorem Part.motionTimerExpiry_to_fallback (active : p.control.mode = .active) :
    p.motionTimerExpiry.control = ⟨.fallback, p.control.standDownStart, none⟩ ∧
      p.motionTimerExpiry.flags.fallbackEntered = true ∧ p.motionTimerExpiry.flags.modeChanged = true ∧
      p.motionTimerExpiry.flags.assistDropped = (p.flags.assistDropped || !p.demand.assists.isEmpty) ∧
      p.motionTimerExpiry.demand = { p.demand with
        hold := ⟨false, 0, 0, 0⟩, assists := []
        total := min (max p.demand.pedalForce p.demand.leverForce) 20000
        lead := if p.demand.pedalForce = 0 ∧ p.demand.leverForce = 0 then .nobody
          else if p.demand.leverForce ≤ p.demand.pedalForce then .pedal else .lever } := by
  rw [Part.motionTimerExpiry_active due active]
  obtain ⟨modeChanged, dropped, entered⟩ := (p.lapsed.entering .fallback).fellBack_flags
  have control : (p.lapsed.entering .fallback).fellBack.control = ⟨.fallback, p.control.standDownStart, none⟩ := by
    simp [Part.lapsed, ModeControl.entering, active]
  have demand := (p.lapsed.entering .fallback).fellBack_demand
  obtain ⟨total, lead⟩ := Part.demand_of_pedal_and_lever (p := (p.lapsed.entering .fallback).fellBack)
    (by rw [control]; nofun) (by rw [demand]) (by rw [demand])
  refine ⟨control, entered, modeChanged, ?_, ?_⟩
  · rw [dropped]
    simp [Part.lapsed, Part.entering]
  · have pedal : (p.lapsed.entering .fallback).fellBack.demand.pedalForce = p.demand.pedalForce := by
      rw [demand]
      simp [Part.lapsed]
    have lever : (p.lapsed.entering .fallback).fellBack.demand.leverForce = p.demand.leverForce := by
      rw [demand]
      simp [Part.lapsed]
    rw [pedal, lever] at total lead
    rw [demand, total, lead]
    simp [Part.lapsed]

/-- In STANDING_DOWN: STANDBY, with the total demand recomputed (R175). -/
theorem Part.motionTimerExpiry_to_standby (standing : p.control.mode = .standingDown) :
    p.motionTimerExpiry.control = ⟨.standby, none, p.control.recovery⟩ ∧
      p.motionTimerExpiry.flags.fallbackEntered = p.flags.fallbackEntered ∧
      p.motionTimerExpiry.flags.modeChanged = true ∧
      p.motionTimerExpiry.demand = { p.demand with
        total := p.motionTimerExpiry.totalDemand, lead := p.motionTimerExpiry.leadingSource } := by
  rw [Part.motionTimerExpiry_standingDown due standing]
  obtain ⟨modeChanged, -, entered⟩ := (p.madeStale.entering .standby).stoodDown_flags
  refine ⟨by simp [ModeControl.entering, standing], ?_, modeChanged, ?_⟩
  · rw [entered]
    simp [Part.entering]
  · simpa using (p.madeStale.entering .standby).stoodDown_demand

/-- In the other modes nothing follows but the condition fault, and FALLBACK's start time (R48, R172). -/
theorem Part.motionTimerExpiry_stays (notActive : p.control.mode ≠ .active)
    (notStanding : p.control.mode ≠ .standingDown) : p.motionTimerExpiry = { p with
      motion := p.motionTimerExpiry.motion, faults := p.motionTimerExpiry.faults
      control := p.motionTimerExpiry.control
      flags := { p.flags with faultsChanged := p.motionTimerExpiry.flags.faultsChanged } } := by
  have flags := p.madeStale_flags
  cases mode : p.control.mode with
  | active => exact absurd mode notActive
  | standingDown => exact absurd mode notStanding
  | fallback =>
    rw [Part.motionTimerExpiry_fallback due mode]
    exact Part.eq_of_fields (flags := flags)
  | config =>
    rw [Part.motionTimerExpiry_idle due (.inl mode)]
    exact Part.eq_of_fields (flags := flags)
  | standby =>
    rw [Part.motionTimerExpiry_idle due (.inr mode)]
    exact Part.eq_of_fields (flags := flags)

end Modes

/-- Settles O17, from what the expiry does in each mode. -/
theorem staleMotionLeavesActive : Obligations.StaleMotionLeavesActive := by
  intro s t running elapsed_
  have due := timerDue_of_elapsed running elapsed_
  have outcome := Part.motionTimerExpiry_of_due due
  refine ⟨s.part.motionTimerExpiry, rfl, by simp [outcome, Part.madeStale_motion],
    by simp [outcome, Part.madeStale_faults], by simp [outcome], by simp [outcome], by simp [outcome], by simp [outcome], by simp [outcome], by simp [outcome],
    by simp [outcome], by simp [outcome], Part.motionTimerExpiry_to_fallback due,
    Part.motionTimerExpiry_to_standby due, fun fallback => ?fallback, fun idle => ?idle,
    Part.motionTimerExpiry_stays due⟩
  case fallback => rw [Part.motionTimerExpiry_fallback due fallback]
  case idle => simp [Part.motionTimerExpiry_idle due idle]

end Sys2Proof.Machine
end

section
/-! PROOF. The Slip Monitor takes a record (R55 to R57): when it is evaluated, what a cut makes of the slip limit, and how
the limit recovers. -/

namespace Sys2Proof.Machine

variable {p : Part} {value : Nat}

/-- The slip value is the manual's signed quotient, and 0 where the drive axle turns faster (R55). -/
theorem slipValueOf_eq_toNat (reference drive : Nat) :
    slipValueOf reference drive = (((reference : Int) - drive) * 1000 / reference).toNat := by
  unfold slipValueOf
  rcases Nat.le_total drive reference with slower | faster
  · have quotient : ((reference : Int) - drive) * 1000 / reference = ((reference - drive) * 1000 / reference : Nat) := by
      push_cast [slower]
      rfl
    rw [quotient, Int.toNat_natCast]
  · have negative : ((reference : Int) - drive) * 1000 / reference ≤ 0 := by
      obtain rfl | moving := Nat.eq_zero_or_pos reference
      · simp
      · have below : ((reference : Int) - drive) * 1000 ≤ 0 := by omega
        simpa using Int.ediv_le_ediv (Int.natCast_pos.mpr moving) below
    rw [Nat.sub_eq_zero_of_le faster, Int.toNat_of_nonpos negative, Nat.zero_mul, Nat.zero_div]

/-! ## A record over the threshold (R56) -/

theorem Part.slipOver_of_unlimited (unlimited : p.slip.limit = 20000) : p.slipOver value = { p with
    slip := ⟨value, p.cutLimit, 0⟩
    flags := if p.cutLimit < 20000 then { p.flags with limitSet := true } else p.flags } := by
  by_cases low : p.cutLimit < 20000 <;> simp [Part.slipOver, unlimited, low, Part.setSlip, Part.flagLimitSet]

theorem Part.slipOver_of_third (limited : p.slip.limit ≠ 20000) (third : 2 ≤ p.slip.counter) :
    p.slipOver value = p.setSlip ⟨value, p.cutLimit, 0⟩ := by
  have third : 3 ≤ p.slip.counter + 1 := by omega
  simp [Part.slipOver, limited, third]

theorem Part.slipOver_of_early (limited : p.slip.limit ≠ 20000) (early : p.slip.counter < 2) :
    p.slipOver value = p.setSlip ⟨value, p.slip.limit, p.slip.counter + 1⟩ := by
  have early : ¬ 3 ≤ p.slip.counter + 1 := by omega
  simp [Part.slipOver, limited, early]

/-! ## A recovering record (R57) -/

theorem Part.slipRecover_of_unlimited (unlimited : 20000 ≤ p.slip.limit) :
    p.slipRecover value = p.setSlip ⟨value, p.slip.limit, 0⟩ := if_neg (by omega)

theorem Part.slipRecover_of_limited (limited : p.slip.limit < 20000) : p.slipRecover value =
    if p.cap.items.exhaust + p.cap.items.retarder ≤ p.slip.limit + p.setting idSlipStep ∨
        20000 ≤ p.slip.limit + p.setting idSlipStep
      then (p.setSlip ⟨value, 20000, 0⟩).flagLimitCleared
      else p.setSlip ⟨value, p.slip.limit + p.setting idSlipStep, 0⟩ := if_pos limited

/-! ## The record taken (R55) -/

/-- When the Slip Monitor evaluates a record (R55). -/
def Part.evaluates (p : Part) (reference : Nat) (drive : Option Nat) (nonDriven : Bool) : Prop :=
  (p.control.mode = .active ∨ p.control.mode = .standingDown) ∧ 300 ≤ reference ∧ drive.isSome = true ∧
    nonDriven = true

section Record

variable {reference : Nat} {drive : Option Nat} {nonDriven : Bool}

theorem Part.takeSlipRecord_of_not_evaluates (h : ¬ p.evaluates reference drive nonDriven) :
    p.takeSlipRecord reference drive nonDriven = p := by
  cases drive with
  | none => rfl
  | some d =>
    refine if_neg ?_
    rw [Part.passesRun_iff]
    exact fun ⟨passes, fast, others⟩ => h ⟨passes, fast, rfl, others⟩

theorem Part.takeSlipRecord_of_evaluates (h : p.evaluates reference drive nonDriven)
    (slips : slipValueOf reference (drive.getD 0) = value) : p.takeSlipRecord reference drive nonDriven =
      if p.setting idSlipThreshold < value then p.slipOver value else p.slipRecover value := by
  obtain ⟨mode, fast, present, others⟩ := h
  obtain ⟨d, rfl⟩ := Option.isSome_iff_exists.mp present
  subst slips
  exact if_pos ⟨Part.passesRun_iff.mpr mode, fast, others⟩

/-- The Slip Monitor takes the oldest record that waits for it (log entry 9). -/
theorem Part.slipEvaluation_of_oldest {l r : List Handoff}
    (handed : p.handed = l ++ .slipRecord reference drive nonDriven :: r)
    (older : ∀ h ∈ l, h.lane ≠ .slipRecord) :
    p.slipEvaluation = ({ p with handed := l ++ r }).takeSlipRecord reference drive nonDriven := by
  rw [Part.slipEvaluation, Part.waiting_of_oldest (lane := .slipRecord) handed rfl older,
    ← Part.taken_of_oldest (lane := .slipRecord) handed rfl older]

end Record

/-- Settles O18, from the outcome of each kind of record. -/
theorem slipLimitCutsAndRecovers : Obligations.SlipLimitCutsAndRecovers := by
  intro s l r reference drive nonDriven handed older m evaluated value cut raised result
  let q : Part := { s.part with handed := l ++ r }
  have slips : slipValueOf reference (drive.getD 0) = value := slipValueOf_eq_toNat _ _
  have outcome {q' : Part} (h : q.takeSlipRecord reference drive nonDriven = q') :
      exec .slipEvaluation s = .next { s with part := q' } :=
    State.next_congr ((Part.slipEvaluation_of_oldest handed older).trans h)
  refine ⟨fun h => outcome (Part.takeSlipRecord_of_not_evaluates h), fun h high => ?high, fun h low => ?low⟩
  case high =>
    have taken := (Part.takeSlipRecord_of_evaluates (p := q) h slips).trans (if_pos high)
    exact ⟨fun unlimited => outcome (taken.trans (Part.slipOver_of_unlimited unlimited)),
      fun limited third => outcome (taken.trans (Part.slipOver_of_third limited third)),
      fun limited early => outcome (taken.trans (Part.slipOver_of_early limited early))⟩
  case low =>
    have taken := (Part.takeSlipRecord_of_evaluates (p := q) h slips).trans (if_neg (Nat.not_lt.mpr low))
    have recovers (limited : m.limit < 20000) := taken.trans (Part.slipRecover_of_limited limited)
    refine ⟨fun unlimited => outcome (taken.trans (Part.slipRecover_of_unlimited unlimited)),
      fun limited reached => outcome ((recovers limited).trans (if_pos reached)),
      fun limited short below => outcome ((recovers limited).trans (if_neg ?_))⟩
    exact not_or.mpr ⟨Nat.not_le.mpr short, Nat.not_le.mpr below⟩

end Sys2Proof.Machine
end

section
/-! PROOF. What Motion Input reads of a record (R43 to R45): its fields limited, which of them were changed, when the
record is valid, and its reference speed. -/

namespace Sys2Proof.Machine

variable {p : Part} {c : ChassisRecord}

/-! ## The fields of a record (R43) -/

theorem Part.axles_of_chassis (chassis : p.store.chassis = some c) :
    p.axles = Axle.all.filter fun a => decide (a.val < c.axleCount) := by
  simp only [Part.axles]
  congr
  funext a
  simp [Part.hasAxle, Part.axleCount, chassis]

theorem Part.mem_axles_iff (chassis : p.store.chassis = some c) (a : Axle) : a ∈ p.axles ↔ a.val < c.axleCount := by
  simp [Part.axles_of_chassis chassis, Axles.mem_all]

theorem Part.isDrive_of_chassis (chassis : p.store.chassis = some c) (a : Axle) :
    p.isDrive a = decide (a.val = c.drive) := by
  rw [Bool.eq_iff_iff]
  simp [Part.isDrive, chassis]

theorem Part.gearCount_eq (p : Part) :
    p.gearCount = if (p.table .gearTable).state = .valid then p.store.gearCount else 0 := by
  simp [Part.gearCount, Part.tableValid]

/-- A gear code that the gear table does not hold (R43). -/
abbrev Part.badGear (p : Part) (code : Nat) : Prop :=
  code ≠ 0 ∧ code ≠ 15 ∧ (if (p.table .gearTable).state = .valid then p.store.gearCount else 0) < code

theorem Part.limitGear_eq (p : Part) (code : Nat) : limitGear p.gearCount code =
    (if code = 0 ∨ p.badGear code then .neutral else if code = 15 then .reverse else .forward code,
      decide (p.badGear code)) := by
  simp only [Part.badGear, ← Part.gearCount_eq]
  unfold limitGear
  by_cases neutral : code = 0
  · simp [neutral]
  · by_cases reverse : code = 15
    · simp [reverse]
    · by_cases held : code ≤ p.gearCount
      · simp [neutral, reverse, held]
      · simp [neutral, reverse, held, Nat.not_le.mp held]

theorem Part.limitRecord_gear (p : Part) (r : MotionRecord) : (p.limitRecord r).gear =
    if r.gear = 0 ∨ p.badGear r.gear then .neutral else if r.gear = 15 then .reverse else .forward r.gear :=
  congrArg Prod.fst (p.limitGear_eq r.gear)

/-- A gear that stands as a forward gear is the record's own, and the gear table holds it (R43). -/
theorem Part.limitRecord_forward {r : MotionRecord} {g : Nat} (forward : (p.limitRecord r).gear = .forward g) :
    g = r.gear ∧ 1 ≤ g ∧ g ≤ p.gearCount := by
  rw [Part.limitRecord_gear] at forward
  split at forward
  · cases forward
  · next held =>
    split at forward
    · cases forward
    · next reverse =>
      cases forward
      simp only [Part.badGear, ← Part.gearCount_eq, not_or, not_and, Nat.not_lt] at held
      exact ⟨rfl, Nat.pos_of_ne_zero held.1, held.2 held.1 reverse⟩

/-- The wheel speeds of a record after R43. -/
theorem Part.limitRecord_wheels (chassis : p.store.chassis = some c) (r : MotionRecord) :
    (p.limitRecord r).wheels = .ofFn fun a =>
      if a.val < c.axleCount ∧ r.wheels.get a ≠ 65535 then some (min (r.wheels.get a) 6000) else none := by
  refine Axles.ext_get fun a => ?_
  by_cases below : a.val < c.axleCount
  · by_cases absent : r.wheels.get a = 65535 <;>
      simp [Part.limitRecord, Part.hasAxle_of_chassis chassis, below, absent, limitSpeed]
  · simp [Part.limitRecord, Part.hasAxle_of_chassis chassis, below]

/-- Which records R43 marks as clamped. -/
theorem Part.limitRecord_changed (chassis : p.store.chassis = some c) (r : MotionRecord) :
    (p.limitRecord r).changed = true ↔
      (∃ a : Axle, a.val < c.axleCount ∧ r.wheels.get a ≠ 65535 ∧ 6000 < r.wheels.get a) ∨ p.badGear r.gear ∨
        4000 < r.engine ∨ 1000 < r.pedal ∨ 5 < r.lever ∨ r.ambient < -40 ∨ 60 < r.ambient := by
  have speeds : p.axles.any (fun a => speedLimited (r.wheels.get a)) = true ↔
      ∃ a : Axle, a.val < c.axleCount ∧ r.wheels.get a ≠ 65535 ∧ 6000 < r.wheels.get a := by
    simp [Part.mem_axles_iff chassis, speedLimited]
  simp only [Part.limitRecord, Bool.or_eq_true, speeds, Part.limitGear_eq, decide_eq_true_eq, or_assoc]
  exact or_congr_right or_left_comm

/-! ## The speeds of a record (R44, R45) -/

/-- An axle of the coach lacks its speed where its field is 0xFFFF (R44). -/
theorem Part.limitRecord_absent (chassis : p.store.chassis = some c) (r : MotionRecord) {a : Axle}
    (below : a.val < c.axleCount) :
    ((p.limitRecord r).wheels.get a).isNone = decide (r.wheels.get a = 65535) := by
  by_cases absent : r.wheels.get a = 65535 <;> simp [Part.limitRecord_wheels chassis, below, absent]

section Wheels

variable {wheels : Axles (Option Nat)}

theorem Part.speeds_congr {p q : Part} (store : q.store = p.store) (wheels : Axles (Option Nat)) :
    q.nonDrivenSpeeds wheels = p.nonDrivenSpeeds wheels ∧ q.driveSpeed wheels = p.driveSpeed wheels := by
  cases p
  cases q
  subst store
  exact ⟨rfl, rfl⟩

theorem Part.nonDrivenSpeeds_eq (chassis : p.store.chassis = some c)
    (beyond : ∀ a, p.hasAxle a = false → wheels.get a = none) :
    p.nonDrivenSpeeds wheels = Axle.all.filterMap fun a => if a.val = c.drive then none else wheels.get a := by
  rw [Part.nonDrivenSpeeds, Part.axles, List.filter_filter, List.filterMap_filter]
  refine List.filterMap_congr fun a _ => ?_
  rw [Part.isDrive_of_chassis chassis]
  cases held : p.hasAxle a with
  | false => simp [beyond a held]
  | true => by_cases drive : a.val = c.drive <;> simp [drive]

theorem Part.driveSpeed_eq (chassis : p.store.chassis = some c)
    (beyond : ∀ a, p.hasAxle a = false → wheels.get a = none) :
    p.driveSpeed wheels = Axle.all.findSome? fun a => if a.val = c.drive then wheels.get a else none := by
  rw [Part.driveSpeed, Part.axles, List.filter_filter, ← List.head?_filterMap, List.filterMap_filter,
    List.head?_filterMap]
  congr
  funext a
  rw [Part.isDrive_of_chassis chassis]
  cases held : p.hasAxle a with
  | false => simp [beyond a held]
  | true => by_cases drive : a.val = c.drive <;> simp [drive]

/-- The reference speed is the largest non-driven speed, or else the drive axle's (R45). -/
theorem Part.referenceOf_eq (p : Part) (wheels : Axles (Option Nat)) : p.referenceOf wheels =
    if p.nonDrivenSpeeds wheels = [] then p.driveSpeed wheels
    else some ((p.nonDrivenSpeeds wheels).foldl max 0) := by
  unfold Part.referenceOf
  cases p.nonDrivenSpeeds wheels with
  | nil => rfl
  | cons v vs => simp only [List.max?_cons', List.foldl_cons, Nat.zero_max, reduceCtorEq, if_false]

theorem Part.referenceOf_congr {p q : Part} (store : q.store = p.store) (wheels : Axles (Option Nat)) :
    q.referenceOf wheels = p.referenceOf wheels := by
  obtain ⟨nonDriven, drive⟩ := Part.speeds_congr store wheels
  rw [Part.referenceOf_eq, Part.referenceOf_eq, nonDriven, drive]

theorem Part.referenceOf_none_iff (chassis : p.store.chassis = some c)
    (beyond : ∀ a, p.hasAxle a = false → wheels.get a = none) :
    p.referenceOf wheels = none ↔ ∀ a, wheels.get a = none := by
  rw [Part.referenceOf_eq, Part.nonDrivenSpeeds_eq chassis beyond, Part.driveSpeed_eq chassis beyond]
  constructor
  · intro invalid a
    split at invalid
    · next none_ =>
      by_cases drive : a.val = c.drive
      · simpa [drive] using List.findSome?_eq_none_iff.mp invalid a (Axles.mem_all a)
      · simpa [drive] using List.filterMap_eq_nil_iff.mp none_ a (Axles.mem_all a)
    · cases invalid
  · intro absent
    simp [absent]

end Wheels

theorem Part.limitRecord_beyond (r : MotionRecord) (a : Axle) (beyond : p.hasAxle a = false) :
    (p.limitRecord r).wheels.get a = none := by
  simp [Part.limitRecord, beyond]

/-- A record is valid when some axle's speed is present (R45). -/
abbrev SpeedPresent (r : MotionRecord) (c : ChassisRecord) : Prop :=
  ∃ a : Axle, a.val < c.axleCount ∧ r.wheels.get a ≠ 65535

/-- The reference speed of a record, none for an invalid one. -/
def Part.recordReference (p : Part) (r : MotionRecord) : Option Nat := p.referenceOf (p.limitRecord r).wheels

theorem Part.recordReference_none_iff (chassis : p.store.chassis = some c) (r : MotionRecord) :
    p.recordReference r = none ↔ ¬ SpeedPresent r c := by
  rw [Part.recordReference, Part.referenceOf_none_iff chassis (Part.limitRecord_beyond r)]
  simp [Part.limitRecord_wheels chassis, SpeedPresent]

end Sys2Proof.Machine
end

section
/-! PROOF. What taking a record makes of Motion Input, the fault table and the hand-offs, before Mode Control acts on it
(R42 to R47, R51 to R53): each stage of it as one equation, and the stages put one after the other. -/

namespace Sys2Proof.Machine

/-! ## Reports of condition faults (R185) -/

/-- A report to the fault table: the source and the code, and whether the condition is present. -/
abbrev FaultReport := Source × FaultCode × Bool

/-- The fault table after a report. -/
def FaultTable.reported (now : Time) (t : FaultTable) (e : FaultReport) : FaultTable :=
  if e.2.2 then (t.occurred now e.1 e.2.1).1 else (t.ended e.1 e.2.1).1

/-- What an owner reports of a condition: the new state where it has changed (R185). -/
def changeReports (src : Source) (code : FaultCode) (old new : Bool) : List FaultReport :=
  if old = new then [] else [(src, code, new)]

/-- The owner of a condition reports its change. -/
def Part.reportChange (p : Part) (src : Source) (code : FaultCode) (old new : Bool) : Part :=
  if old = new then p else if new then p.faultOccurs src code else p.faultEnds src code

theorem Part.faultEnds_flags (p : Part) (src : Source) (code : FaultCode) : (p.faultEnds src code).flags =
    { p.flags with faultsChanged := (p.faultEnds src code).flags.faultsChanged } := by
  unfold Part.faultEnds
  dsimp only
  split <;> rfl

/-- What the stages of a record do to the part: Motion Input becomes `m`, the reports `es` go to the fault table, and
the hand-offs `hs` are made. Nothing else changes but FAULTS_CHANGED. -/
structure MotionNoted (p q : Part) (m : MotionInput) (es : List FaultReport) (hs : List Handoff) : Prop where
  frame : q = { p with motion := m, faults := q.faults, flags := q.flags, handed := p.handed ++ hs }
  faults : q.faults = es.foldl (FaultTable.reported p.now) p.faults
  flags : q.flags = { p.flags with faultsChanged := q.flags.faultsChanged }

namespace MotionNoted

variable {p q r : Part} {m m' : MotionInput} {es es' : List FaultReport} {hs hs' : List Handoff}

theorem refl (p : Part) : MotionNoted p p p.motion [] [] := ⟨Part.eq_of_fields, rfl, rfl⟩

theorem trans (h : MotionNoted p q m es hs) (h' : MotionNoted q r m' es' hs') :
    MotionNoted p r m' (es ++ es') (hs ++ hs') where
  frame := by
    rw [h'.frame, h.frame]
    simp
  faults := by
    have now : q.now = p.now := by rw [h.frame]
    rw [h'.faults, h.faults, now, List.foldl_append]
  flags := by
    rw [h'.flags, h.flags]

/-- Motion Input alone changes. -/
theorem ofMotion (p : Part) (m : MotionInput) : MotionNoted p { p with motion := m } m [] [] :=
  ⟨Part.eq_of_fields, rfl, rfl⟩

theorem motion_eq (h : MotionNoted p q m es hs) : q.motion = m := by rw [h.frame]

theorem handed_eq (h : MotionNoted p q m es hs) : q.handed = p.handed ++ hs := by rw [h.frame]

theorem now_eq (h : MotionNoted p q m es hs) : q.now = p.now := by rw [h.frame]

theorem control_eq (h : MotionNoted p q m es hs) : q.control = p.control := by rw [h.frame]

theorem store_eq (h : MotionNoted p q m es hs) : q.store = p.store := by rw [h.frame]

theorem demand_eq (h : MotionNoted p q m es hs) : q.demand = p.demand := by rw [h.frame]

theorem app_eq (h : MotionNoted p q m es hs) : q.app = p.app := by rw [h.frame]

theorem setting_eq (h : MotionNoted p q m es hs) (id : Nat) : q.setting id = p.setting id := by
  rw [Part.setting, h.store_eq]
  rfl

theorem handOn (h : MotionNoted p q m es hs) (x : Handoff) : MotionNoted p (q.handOn x) m es (hs ++ [x]) := by
  have handed : MotionNoted q (q.handOn x) q.motion [] [x] := ⟨Part.eq_of_fields, rfl, rfl⟩
  simpa [h.motion_eq] using h.trans handed

theorem needCapacities (h : MotionNoted p q m es hs) : MotionNoted p q.needCapacities m es (hs ++ [.recompute]) :=
  h.handOn .recompute

theorem reportChange (h : MotionNoted p q m es hs) (src : Source) (code : FaultCode) (old new : Bool) :
    MotionNoted p (q.reportChange src code old new) m (es ++ changeReports src code old new) hs := by
  have reported : MotionNoted q (q.reportChange src code old new) q.motion (changeReports src code old new) [] := by
    unfold Part.reportChange changeReports
    by_cases same : old = new
    · simpa [same] using refl q
    · cases new with
      | true =>
        simpa [same] using ⟨Part.eq_of_fields, by simp [FaultTable.reported], Part.faultOccurs_flags q src code⟩
      | false =>
        simpa [same] using ⟨Part.eq_of_fields, by simp [FaultTable.reported], Part.faultEnds_flags q src code⟩
  simpa [h.motion_eq] using h.trans reported

end MotionNoted

/-! ## The speeds of the axles (R44) -/

section Speeds

variable (wheels : Axles (Option Nat))

theorem Part.judgeSpeedMissing_eq (p : Part) (a : Axle) : p.judgeSpeedMissing wheels a =
    ({ p with motion := { p.motion with
      speedMissing := p.motion.speedMissing.set a (wheels.get a).isNone } }).reportChange (.axle a) .speedMissing
        (p.motion.speedMissing.get a) (wheels.get a).isNone := by
  have kept : p.motion.speedMissing.set a (p.motion.speedMissing.get a) = p.motion.speedMissing :=
    Axles.ext_get fun b => by by_cases same : b = a <;> simp [same]
  unfold Part.judgeSpeedMissing Part.reportChange
  cases speed : wheels.get a <;> cases present : p.motion.speedMissing.get a <;> rw [present] at kept <;>
    simp [kept]

/-- SPEED_MISSING of each axle once the axles listed are judged. -/
def speedsMissing (old : Axles Bool) (l : List Axle) : Axles Bool :=
  .ofFn fun a => if a ∈ l then (wheels.get a).isNone else old.get a

/-- The reports of the axles listed. -/
def speedReports (old : Axles Bool) (l : List Axle) : List FaultReport :=
  l.flatMap fun a => changeReports (.axle a) .speedMissing (old.get a) (wheels.get a).isNone

/-- Each axle is judged once, by the state that held before the record (R44). -/
theorem MotionNoted.ofSpeeds : ∀ (l : List Axle) (_ : l.Nodup) (p : Part),
    MotionNoted p (l.foldl (fun q a => q.judgeSpeedMissing wheels a) p)
      { p.motion with speedMissing := speedsMissing wheels p.motion.speedMissing l }
      (speedReports wheels p.motion.speedMissing l) []
  | [], _, p => by
    have kept : speedsMissing wheels p.motion.speedMissing [] = p.motion.speedMissing :=
      Axles.ext_get fun a => by simp [speedsMissing]
    simpa [kept, speedReports] using MotionNoted.refl p
  | a :: l, distinct, p => by
    obtain ⟨other, distinct⟩ := List.nodup_cons.mp distinct
    have first := (MotionNoted.ofMotion p { p.motion with
      speedMissing := p.motion.speedMissing.set a (wheels.get a).isNone }).reportChange (.axle a) .speedMissing
        (p.motion.speedMissing.get a) (wheels.get a).isNone
    rw [← Part.judgeSpeedMissing_eq] at first
    have rest := MotionNoted.ofSpeeds l distinct (p.judgeSpeedMissing wheels a)
    rw [first.motion_eq] at rest
    have missing : speedsMissing wheels (p.motion.speedMissing.set a (wheels.get a).isNone) l =
        speedsMissing wheels p.motion.speedMissing (a :: l) := Axles.ext_get fun b => by
      by_cases same : b = a <;> simp [speedsMissing, Axles.get_set, same]
    have reports : speedReports wheels (p.motion.speedMissing.set a (wheels.get a).isNone) l =
        speedReports wheels p.motion.speedMissing l := List.flatMap_congr fun b hb => by
      rw [Axles.get_set_ne _ _ (ne_of_mem_of_not_mem hb other)]
    rw [missing, reports] at rest
    exact first.trans rest

end Speeds

/-! ## The driveline check (R51 to R53) -/

/-- Motion Input once the engagement of a record is judged and its comparison made (R51, R52). -/
def Part.drivelineAfter (p : Part) (reference : Option Nat) (engine : Nat) (gear : Gear) (clutch : Bool) :
    MotionInput :=
  p.compareDriveline (Part.judgeEngagement p.motion gear clutch) reference engine gear

/-- Whether MISMATCH is present once the driveline state is the one given (R53). -/
def MotionInput.mismatchAfter (m : MotionInput) (new : Driveline) : Bool :=
  if new = .confirmed then false
  else m.mismatchPresent || (decide (new = .mismatch) && decide (m.driveline ≠ .mismatch))

/-- A record changes the engagement that stood before it (R51). -/
abbrev MotionInput.reengaged (m : MotionInput) (gear : Gear) (clutch : Bool) : Prop :=
  m.previous.isSome = true ∧ m.previous ≠ some (gear, clutch)

theorem judgeEngagement_eq (m : MotionInput) (gear : Gear) (clutch : Bool) :
    Part.judgeEngagement m gear clutch = { m with
      driveline := if Part.coupled gear clutch then if m.reengaged gear clutch then .uncertain else m.driveline
        else .decoupled
      matchCount := if Part.coupled gear clutch then if m.reengaged gear clutch then 0 else m.matchCount else 0
      mismatchCount := if Part.coupled gear clutch then if m.reengaged gear clutch then 0 else m.mismatchCount else 0
      previous := some (gear, clutch) } := by
  unfold Part.judgeEngagement MotionInput.reengaged
  cases before : m.previous with
  | none => cases Part.coupled gear clutch <;> simp
  | some engagement =>
    by_cases same : engagement = (gear, clutch) <;> cases Part.coupled gear clutch <;> simp [same]

theorem compareDriveline_frame (p : Part) (m : MotionInput) (reference : Option Nat) (engine : Nat) (gear : Gear) :
    ∃ state matches_ mismatches, p.compareDriveline m reference engine gear = { m with
      driveline := state, matchCount := matches_, mismatchCount := mismatches } := by
  unfold Part.compareDriveline Part.countComparison
  dsimp only
  (repeat' split) <;> exact ⟨_, _, _, rfl⟩

/-- The driveline check leaves the other items of Motion Input (R50 to R52). -/
theorem Part.drivelineAfter_frame (p : Part) (reference : Option Nat) (engine : Nat) (gear : Gear) (clutch : Bool) :
    ∃ state matches_ mismatches, p.drivelineAfter reference engine gear clutch = { p.motion with
      driveline := state, matchCount := matches_, mismatchCount := mismatches, previous := some (gear, clutch) } := by
  obtain ⟨state, matches_, mismatches, compared⟩ :=
    compareDriveline_frame p (Part.judgeEngagement p.motion gear clutch) reference engine gear
  refine ⟨state, matches_, mismatches, compared.trans ?_⟩
  rw [judgeEngagement_eq]

theorem Part.driveCheck_eq (p : Part) (reference : Option Nat) (engine : Nat) (gear : Gear) (clutch : Bool) :
    p.driveCheck reference engine gear clutch =
      let n := p.drivelineAfter reference engine gear clutch
      let present := p.motion.mismatchAfter n.driveline
      let q := ({ p with motion := { n with mismatchPresent := present } }).reportChange .driveline .mismatch
        p.motion.mismatchPresent present
      if n.driveline = p.motion.driveline then q else q.needCapacities := by
  obtain ⟨state, matches_, mismatches, after⟩ := p.drivelineAfter_frame reference engine gear clutch
  have checked : p.compareDriveline (Part.judgeEngagement p.motion gear clutch) reference engine gear = _ := after
  simp only [Part.driveCheck, checked, after, MotionInput.mismatchAfter, Part.reportChange]
  cases p.motion.mismatchPresent with
  | true => by_cases confirmed : state = .confirmed <;> simp [confirmed]
  | false =>
    by_cases entered : state = .mismatch
    · by_cases stood : p.motion.driveline = .mismatch <;> simp [entered, stood]
    · simp [entered]

theorem MotionNoted.ofDriveCheck (p : Part) (reference : Option Nat) (engine : Nat) (gear : Gear) (clutch : Bool) :
    let n := p.drivelineAfter reference engine gear clutch
    MotionNoted p (p.driveCheck reference engine gear clutch)
      { n with mismatchPresent := p.motion.mismatchAfter n.driveline }
      (changeReports .driveline .mismatch p.motion.mismatchPresent (p.motion.mismatchAfter n.driveline))
      (if n.driveline = p.motion.driveline then [] else [.recompute]) := by
  intro n
  have reported := (MotionNoted.ofMotion p { n with
    mismatchPresent := p.motion.mismatchAfter n.driveline }).reportChange .driveline .mismatch
      p.motion.mismatchPresent (p.motion.mismatchAfter n.driveline)
  rw [Part.driveCheck_eq]
  dsimp only
  split
  · exact reported
  · exact reported.needCapacities

/-! ## The stages of a record (R42 to R47) -/

/-- Motion Input once the fields of a record are limited, the speeds judged and the engine data published. -/
def Part.fieldsNoted (p : Part) (l : LimitedRecord) : MotionInput :=
  { p.motion with
    clamped := if l.changed then countTo255 p.motion.clamped else p.motion.clamped
    speedMissing := speedsMissing l.wheels p.motion.speedMissing p.axles
    engine := ⟨l.engine, l.gear, l.clutch, l.pedal, l.lever⟩ }

/-- The part once the clamped input counter has counted a record with a changed field. -/
def Part.counted (p : Part) (l : LimitedRecord) : Part := if l.changed then p.countClamped else p

/-- The part at the stage of `fieldsNoted`. -/
def Part.withFields (p : Part) (l : LimitedRecord) : Part :=
  ((p.counted l).axles.foldl (fun q a => q.judgeSpeedMissing l.wheels a) (p.counted l)).publishEngine l

theorem Part.axles_congr {p q : Part} (store : q.store = p.store) : q.axles = p.axles := by
  cases p
  cases q
  subst store
  rfl

theorem Part.axles_nodup (p : Part) : p.axles.Nodup := List.Nodup.filter _ (by decide)

theorem MotionNoted.ofFields (p : Part) (l : LimitedRecord) :
    MotionNoted p (p.withFields l) (p.fieldsNoted l) (speedReports l.wheels p.motion.speedMissing p.axles) [] := by
  have counted : MotionNoted p (p.counted l) { p.motion with
      clamped := if l.changed then countTo255 p.motion.clamped else p.motion.clamped } [] [] := by
    unfold Part.counted
    cases l.changed with
    | true => exact MotionNoted.ofMotion p _
    | false => exact MotionNoted.refl p
  have judged := counted.trans (MotionNoted.ofSpeeds l.wheels (p.counted l).axles (p.counted l).axles_nodup _)
  rw [counted.motion_eq, Part.axles_congr counted.store_eq] at judged
  have published := judged.trans (MotionNoted.ofMotion _ (p.fieldsNoted l))
  simpa [Part.withFields, Part.publishEngine, judged.motion_eq, Part.axles_congr counted.store_eq, Part.fieldsNoted]
    using published

/-- Motion Input after the stages that every taken record runs, valid or not. -/
def Part.recordNoted (p : Part) (r : MotionRecord) : MotionInput :=
  let l := p.limitRecord r
  let n := (p.withFields l).drivelineAfter (p.recordReference r) l.engine l.gear l.clutch
  { n with mismatchPresent := p.motion.mismatchAfter n.driveline }

/-- The part after those stages: what every taken record does (R42 to R46, R51 to R53). -/
def Part.recordTaken (p : Part) (r : MotionRecord) : Part :=
  let l := p.limitRecord r
  ((p.withFields l).driveCheck (p.recordReference r) l.engine l.gear l.clutch).handOn
    (.demandRecord l.pedal l.lever (p.recordReference r))

/-- The reports of SPEED_MISSING and MISMATCH at a record, in their order (log entry 13). -/
def Part.recordReports (p : Part) (r : MotionRecord) : List FaultReport :=
  speedReports (p.limitRecord r).wheels p.motion.speedMissing p.axles ++
    changeReports .driveline .mismatch p.motion.mismatchPresent (p.recordNoted r).mismatchPresent

/-- What every taken record hands on: a change of the driveline state, and the record itself (R46, R53). -/
def Part.recordHandoffs (p : Part) (r : MotionRecord) : List Handoff :=
  (if (p.recordNoted r).driveline = p.motion.driveline then [] else [.recompute]) ++
    [.demandRecord (min r.pedal 1000) (min r.lever 5) (p.recordReference r)]

theorem MotionNoted.ofRecord (p : Part) (r : MotionRecord) :
    MotionNoted p (p.recordTaken r) (p.recordNoted r) (p.recordReports r) (p.recordHandoffs r) := by
  have fields := MotionNoted.ofFields p (p.limitRecord r)
  have checked := fields.trans (MotionNoted.ofDriveCheck (p.withFields (p.limitRecord r)) (p.recordReference r)
    (p.limitRecord r).engine (p.limitRecord r).gear (p.limitRecord r).clutch)
  rw [fields.motion_eq] at checked
  exact checked.handOn _

/-- What every taken record leaves of Motion Input's items, and what it publishes (R45, R50). -/
theorem Part.recordNoted_frame (p : Part) (r : MotionRecord) : p.recordNoted r = { p.fieldsNoted (p.limitRecord r) with
    driveline := (p.recordNoted r).driveline
    matchCount := (p.recordNoted r).matchCount
    mismatchCount := (p.recordNoted r).mismatchCount
    previous := some ((p.limitRecord r).gear, r.clutch)
    mismatchPresent := p.motion.mismatchAfter (p.recordNoted r).driveline } := by
  obtain ⟨_, _, _, after⟩ := (p.withFields (p.limitRecord r)).drivelineAfter_frame (p.recordReference r)
    (p.limitRecord r).engine (p.limitRecord r).gear (p.limitRecord r).clutch
  rw [(MotionNoted.ofFields p (p.limitRecord r)).motion_eq] at after
  simp only [Part.recordNoted, after]
  rfl

/-! ## A valid record (R45 to R47) -/

/-- The part once a valid record has published the road data, refreshed motion and been handed on, before Mode Control
acts on it. -/
def Part.validTaken (p : Part) (l : LimitedRecord) (v : Nat) : Part :=
  ((p.publishRoad l v).refresh.handOn (.slipRecord v (p.driveSpeed l.wheels)
    (!(p.nonDrivenSpeeds l.wheels).isEmpty))).needCapacities

theorem Part.refresh_eq (p : Part) : p.refresh = ({ p with motion := { p.motion with
    freshness := .fresh, timer := p.startTimer (p.setting idMotionStale), stalePresent := false } }).reportChange
      .motion .staleMotion p.motion.stalePresent false := by
  unfold Part.refresh Part.reportChange
  cases p.motion.stalePresent <;> rfl

theorem MotionNoted.ofValid (p : Part) (l : LimitedRecord) (v : Nat) :
    MotionNoted p (p.validTaken l v) { p.motion with
        freshness := .fresh
        timer := some ⟨p.now, p.setting idMotionStale⟩
        road := some ⟨v, l.wheels, l.ambient, p.now⟩
        stalePresent := false }
      (changeReports .motion .staleMotion p.motion.stalePresent false)
      [.slipRecord v (p.driveSpeed l.wheels) (!(p.nonDrivenSpeeds l.wheels).isEmpty), .recompute] := by
  have refreshed := (MotionNoted.ofMotion p { p.motion with
    freshness := .fresh
    timer := some ⟨p.now, p.setting idMotionStale⟩
    road := some ⟨v, l.wheels, l.ambient, p.now⟩
    stalePresent := false }).reportChange .motion .staleMotion p.motion.stalePresent false
  have published : (p.publishRoad l v).refresh = _ := Part.refresh_eq _
  unfold Part.validTaken
  rw [published]
  exact (refreshed.handOn _).needCapacities

/-- Mode Control is informed of a valid record, and of the end of STALE before it (R172, R174). -/
def Part.modeOnMotion (p : Part) (wasStale : Bool) (pedal : Nat) : Part :=
  (if wasStale then p.modeOnFreshAgain else p).modeOnValidRecord pedal

theorem Part.takeValid_eq (p : Part) (l : LimitedRecord) (v : Nat) : p.takeValid l v =
    (p.validTaken l v).modeOnMotion (decide (p.motion.freshness = .stale)) l.pedal := by
  have store : (p.publishRoad l v).refresh.store = p.store := by simp [Part.publishRoad]
  have speeds := Part.speeds_congr store l.wheels
  simp only [Part.takeValid, Part.validTaken, Part.modeOnMotion, speeds, decide_eq_true_eq]

/-! ## A record taken (R42) -/

/-- The part after a valid record, before Mode Control acts on it. -/
def Part.validRecordTaken (p : Part) (r : MotionRecord) (v : Nat) : Part :=
  (p.recordTaken r).validTaken (p.limitRecord r) v

section Taken

variable {p : Part} {c : ChassisRecord} (chassis : p.store.chassis = some c) (r : MotionRecord)

include chassis

/-- The stages of a record, one after the other; those of a valid one by its reference speed. -/
theorem Part.takeMotion_eq : p.takeMotion r = (p.recordReference r).elim (p.recordTaken r) fun v =>
    (p.recordTaken r).takeValid (p.limitRecord r) v := by
  have judged : (p.withFields (p.limitRecord r)).referenceOf (p.limitRecord r).wheels = p.recordReference r :=
    Part.referenceOf_congr (MotionNoted.ofFields p (p.limitRecord r)).store_eq _
  unfold Part.takeMotion
  rw [if_neg (by simp [chassis])]
  dsimp only
  split
  · next v valid =>
    have reference : p.recordReference r = some v := judged.symm.trans valid
    rw [valid, reference, Option.elim_some, Part.recordTaken, reference]
    rfl
  · next invalid =>
    have reference : p.recordReference r = none := judged.symm.trans invalid
    rw [invalid, reference, Option.elim_none, Part.recordTaken, reference]
    rfl

theorem Part.takeMotion_of_invalid (invalid : p.recordReference r = none) : p.takeMotion r = p.recordTaken r := by
  rw [Part.takeMotion_eq chassis, invalid]
  rfl

theorem Part.takeMotion_of_valid {v : Nat} (valid : p.recordReference r = some v) :
    p.takeMotion r =
      (p.validRecordTaken r v).modeOnMotion (decide (p.motion.freshness = .stale)) (min r.pedal 1000) := by
  have freshness : (p.recordTaken r).motion.freshness = p.motion.freshness := by
    rw [(MotionNoted.ofRecord p r).motion_eq, Part.recordNoted_frame]
    rfl
  rw [Part.takeMotion_eq chassis, valid, Option.elim_some, Part.takeValid_eq, freshness]
  rfl

end Taken

end Sys2Proof.Machine
end

section
/-! PROOF. A taken record as a whole (R42 to R53, R172, R174): what Mode Control does at it, and what it leaves of every
item. -/

namespace Sys2Proof.Machine

/-! ## What Mode Control does at a record (R172, R174) -/

section Mode

variable {p : Part} {wasStale : Bool} {pedal : Nat}

/-- A stand-down is abandoned: ACTIVE again, with the total demand recomputed and the rotation timer started (R174). -/
def Part.abandoned (p : Part) : Part := (p.flagAbandoned.entering .active).retotal.startRotationTimer.needCapacities

/-- A valid record whose pedal value abandons a stand-down (R174). -/
abbrev Part.abandons (p : Part) (pedal : Nat) : Prop :=
  p.control.mode = .standingDown ∧ p.setting idAbandonPedal ≤ pedal

theorem Part.modeOnMotion_of_abandons (abandons : p.abandons pedal) : p.modeOnMotion wasStale pedal = p.abandoned := by
  have noRecovery : (if wasStale then p.modeOnFreshAgain else p) = p := by
    simp [Part.modeOnFreshAgain, abandons.1]
  have active : p.flagAbandoned.changeMode .active = p.abandoned := by
    rw [Part.changeMode_eq (by simp [abandons.1]), Part.actOnModeChange_active (by simp [ModeControl.entering]),
      if_pos (by simpa using abandons.1)]
    rfl
  rw [Part.modeOnMotion, noRecovery, Part.modeOnValidRecord, if_pos abandons, active]

theorem Part.modeOnMotion_of_recovers (fallback : p.control.mode = .fallback) : p.modeOnMotion true pedal =
    { p with control := { p.control with recovery := some ⟨p.now, p.setting idFallbackRecovery⟩ } } := by
  have recovering : p.modeOnFreshAgain = { p with control :=
    { p.control with recovery := some ⟨p.now, p.setting idFallbackRecovery⟩ } } := if_pos fallback
  rw [Part.modeOnMotion, if_pos rfl, recovering, Part.modeOnValidRecord, if_neg (by simp [fallback])]

theorem Part.modeOnMotion_of_neither (stays : ¬ p.abandons pedal)
    (staysOut : ¬ (p.control.mode = .fallback ∧ wasStale = true)) : p.modeOnMotion wasStale pedal = p := by
  have noRecovery : (if wasStale then p.modeOnFreshAgain else p) = p := by
    cases wasStale with
    | false => rfl
    | true => exact if_neg fun fallback => staysOut ⟨fallback, rfl⟩
  rw [Part.modeOnMotion, noRecovery, Part.modeOnValidRecord, if_neg stays]

theorem Part.modeOnMotion_frame (p : Part) (wasStale : Bool) (pedal : Nat) : p.modeOnMotion wasStale pedal =
    { p with
      control := (p.modeOnMotion wasStale pedal).control, demand := (p.modeOnMotion wasStale pedal).demand
      app := (p.modeOnMotion wasStale pedal).app, flags := (p.modeOnMotion wasStale pedal).flags
      handed := (p.modeOnMotion wasStale pedal).handed } := by
  by_cases abandons : p.abandons pedal
  · rw [Part.modeOnMotion_of_abandons abandons]
    unfold Part.abandoned
    exact Part.eq_of_fields
  · by_cases recovers : p.control.mode = .fallback ∧ wasStale = true
    · obtain ⟨fallback, rfl⟩ := recovers
      rw [Part.modeOnMotion_of_recovers fallback]
    · rw [Part.modeOnMotion_of_neither abandons recovers]

end Mode

/-! ## A valid record -/

/-- Motion Input after a valid record of the reference speed given (R45, R47). -/
def Part.validNoted (p : Part) (r : MotionRecord) (v : Nat) : MotionInput :=
  { p.recordNoted r with
    freshness := .fresh
    timer := some ⟨p.now, p.setting idMotionStale⟩
    road := some ⟨v, (p.limitRecord r).wheels, limitInt (-40) 60 r.ambient, p.now⟩
    stalePresent := false }

/-- What a valid record is handed on as, besides what every record is (R46). -/
def Part.validHandoffs (p : Part) (r : MotionRecord) (v : Nat) : List Handoff :=
  [.slipRecord v (p.driveSpeed (p.limitRecord r).wheels) (!(p.nonDrivenSpeeds (p.limitRecord r).wheels).isEmpty),
    .recompute]

theorem Part.recordNoted_stalePresent (p : Part) (r : MotionRecord) :
    (p.recordNoted r).stalePresent = p.motion.stalePresent := by
  rw [Part.recordNoted_frame]
  rfl

theorem MotionNoted.ofValidRecord (p : Part) (r : MotionRecord) (v : Nat) :
    MotionNoted p (p.validRecordTaken r v) (p.validNoted r v)
      (p.recordReports r ++ changeReports .motion .staleMotion p.motion.stalePresent false)
      (p.recordHandoffs r ++ p.validHandoffs r v) := by
  have taken := MotionNoted.ofRecord p r
  have valid := MotionNoted.ofValid (p.recordTaken r) (p.limitRecord r) v
  obtain ⟨nonDriven, drive⟩ := Part.speeds_congr taken.store_eq (p.limitRecord r).wheels
  rw [taken.motion_eq, taken.now_eq, taken.setting_eq, nonDriven, drive, Part.recordNoted_stalePresent] at valid
  exact taken.trans valid

/-! ## A taken record -/

/-- Motion Input after a taken record. -/
def Part.motionAfter (p : Part) (r : MotionRecord) : MotionInput :=
  (p.recordReference r).elim (p.recordNoted r) (p.validNoted r)

/-- The reports of a taken record, in their order (log entry 13). -/
def Part.reportsAfter (p : Part) (r : MotionRecord) : List FaultReport :=
  p.recordReports r ++
    if (p.recordReference r).isSome then changeReports .motion .staleMotion p.motion.stalePresent false else []

theorem Part.motionAfter_frame (p : Part) (r : MotionRecord) : p.motionAfter r = { p.motion with
    freshness := (p.motionAfter r).freshness
    timer := (p.motionAfter r).timer
    road := (p.motionAfter r).road
    engine := ⟨min r.engine 4000, (p.limitRecord r).gear, r.clutch, min r.pedal 1000, min r.lever 5⟩
    driveline := (p.recordNoted r).driveline
    matchCount := (p.recordNoted r).matchCount
    mismatchCount := (p.recordNoted r).mismatchCount
    previous := some ((p.limitRecord r).gear, r.clutch)
    clamped := if (p.limitRecord r).changed then countTo255 p.motion.clamped else p.motion.clamped
    speedMissing := speedsMissing (p.limitRecord r).wheels p.motion.speedMissing p.axles
    stalePresent := p.motion.stalePresent && !(p.recordReference r).isSome
    mismatchPresent := p.motion.mismatchAfter (p.recordNoted r).driveline } := by
  unfold Part.motionAfter Part.validNoted
  rw [Part.recordNoted_frame]
  cases p.recordReference r with
  | none => simp [Part.fieldsNoted, Part.limitRecord]
  | some v => simp [Part.fieldsNoted, Part.limitRecord]

/-- SPEED_MISSING, MISMATCH and STALE are reported in that order (R44, R47, R53, log entry 13). -/
theorem Part.reportsAfter_eq (p : Part) (r : MotionRecord) : p.reportsAfter r =
    speedReports (p.limitRecord r).wheels p.motion.speedMissing p.axles ++
    (if (p.motionAfter r).mismatchPresent = p.motion.mismatchPresent then []
      else [(Source.driveline, FaultCode.mismatch, (p.motionAfter r).mismatchPresent)]) ++
    if p.motion.stalePresent && (p.recordReference r).isSome then [(Source.motion, FaultCode.staleMotion, false)]
      else [] := by
  have line : (p.motionAfter r).mismatchPresent = (p.recordNoted r).mismatchPresent := by
    rw [Part.motionAfter_frame, Part.recordNoted_frame]
  have stale : (if (p.recordReference r).isSome then changeReports .motion .staleMotion p.motion.stalePresent false
      else []) = if p.motion.stalePresent && (p.recordReference r).isSome
        then [(Source.motion, FaultCode.staleMotion, false)] else [] := by
    unfold changeReports
    cases p.motion.stalePresent <;> cases (p.recordReference r).isSome <;> rfl
  rw [Part.reportsAfter, Part.recordReports, stale, line]
  simp only [changeReports, eq_comm]

section Taken

variable {p : Part} {c : ChassisRecord} (chassis : p.store.chassis = some c) (r : MotionRecord)

include chassis

/-- A valid record runs the stages of every record and of a valid one; what Mode Control does then leaves Motion Input
and the fault table. -/
theorem Part.takeMotion_frame : p.takeMotion r =
    { p with
      motion := p.motionAfter r
      control := (p.takeMotion r).control, demand := (p.takeMotion r).demand, app := (p.takeMotion r).app
      faults := (p.reportsAfter r).foldl (FaultTable.reported p.now) p.faults
      flags := (p.takeMotion r).flags, handed := (p.takeMotion r).handed } := by
  cases reference : p.recordReference r with
  | none =>
    have taken := MotionNoted.ofRecord p r
    have motion : p.motionAfter r = p.recordNoted r := by rw [Part.motionAfter, reference]; rfl
    have reports : p.reportsAfter r = p.recordReports r := by simp [Part.reportsAfter, reference]
    rw [Part.takeMotion_of_invalid chassis r reference, motion, reports, ← taken.faults]
    rw [taken.frame]
  | some v =>
    have taken := MotionNoted.ofValidRecord p r v
    have motion : p.motionAfter r = p.validNoted r v := by rw [Part.motionAfter, reference]; rfl
    have reports : p.reportsAfter r =
        p.recordReports r ++ changeReports .motion .staleMotion p.motion.stalePresent false := by
      simp [Part.reportsAfter, reference]
    have frame := (p.validRecordTaken r v).modeOnMotion_frame (decide (p.motion.freshness = .stale)) (min r.pedal 1000)
    rw [← Part.takeMotion_of_valid chassis r reference] at frame
    generalize p.takeMotion r = after at frame ⊢
    rw [motion, reports, ← taken.faults, frame]
    rw [taken.frame]

theorem Part.takeMotion_motion : (p.takeMotion r).motion = p.motionAfter r := by rw [Part.takeMotion_frame chassis r]

theorem Part.recordReference_isSome :
    (p.recordReference r).isSome = (Axle.all.filter fun a => decide (a.val < c.axleCount)).any
      fun a => !decide (r.wheels.get a = 65535) := by
  rw [Bool.eq_iff_iff, ← Option.ne_none_iff_isSome, Ne, Part.recordReference_none_iff chassis r, not_not]
  simp [SpeedPresent, Axles.mem_all]

/-- The reports of the coach's axles, by the speed fields of the record (R44). -/
theorem Part.speedReports_eq : speedReports (p.limitRecord r).wheels p.motion.speedMissing p.axles =
    (Axle.all.filter fun a => decide (a.val < c.axleCount)).filterMap fun a =>
      if p.motion.speedMissing.get a = decide (r.wheels.get a = 65535) then none
      else some (Source.axle a, FaultCode.speedMissing, decide (r.wheels.get a = 65535)) := by
  rw [speedReports, List.filterMap_eq_flatMap_toList, Part.axles_of_chassis chassis]
  refine List.flatMap_congr fun a mem => ?_
  have below : a.val < c.axleCount := by simpa [Axles.mem_all] using mem
  rw [Part.limitRecord_absent chassis r below, changeReports]
  split <;> rfl

theorem Part.speedMissing_after (a : Axle) : (p.motionAfter r).speedMissing.get a =
    if a.val < c.axleCount then decide (r.wheels.get a = 65535) else p.motion.speedMissing.get a := by
  have judged : (p.motionAfter r).speedMissing =
      speedsMissing (p.limitRecord r).wheels p.motion.speedMissing p.axles := by
    rw [Part.motionAfter_frame]
  rw [judged, speedsMissing, Axles.get_ofFn]
  by_cases below : a.val < c.axleCount
  · simp only [Part.mem_axles_iff chassis, below, if_true, Part.limitRecord_absent chassis r below]
  · simp only [Part.mem_axles_iff chassis, below, if_false]

end Taken

/-- Without a chassis record only the clamped input counter rises (R42). -/
theorem Part.takeMotion_of_no_chassis {p : Part} (chassis : p.store.chassis = none) (r : MotionRecord) :
    p.takeMotion r = p.countClamped := if_pos (by simp [chassis])

/-- Settles O14, from what a taken record makes of Motion Input and of the fault table. -/
theorem motionRecordIsLimited : Obligations.MotionRecordIsLimited := by
  refine ⟨fun s r => ⟨fun chassis => ?refused, fun c chassis => ?limited⟩, fun s r c chassis => ?faults⟩
  case refused => exact State.next_congr (Part.takeMotion_of_no_chassis chassis r)
  case limited =>
    have frame := Part.takeMotion_frame chassis r
    have changed := Part.limitRecord_changed chassis r
    have gear := s.part.limitRecord_gear r
    refine ⟨s.part.takeMotion r, rfl, by rw [frame], ?_⟩
    rw [Part.takeMotion_motion chassis r, Part.motionAfter_frame]
    exact ⟨rfl, gear, rfl, rfl, rfl, fun h => if_pos (changed.mpr h), fun h => if_neg (mt changed.mp h)⟩
  case faults =>
    have frame := Part.takeMotion_frame chassis r
    have motion := s.part.motionAfter_frame r
    have after := Part.takeMotion_motion chassis r
    have line : (s.part.takeMotion r).motion.driveline = (s.part.recordNoted r).driveline := by rw [after, motion]
    refine ⟨s.part.takeMotion r, rfl, ?_, ?_, ?_, ?_⟩
    · intro a
      rw [after]
      exact Part.speedMissing_after chassis r a
    · rw [line, after, motion]
      rfl
    · rw [after, motion, Part.recordReference_isSome chassis r]
    · have faults : (s.part.takeMotion r).faults =
          (s.part.reportsAfter r).foldl (FaultTable.reported s.part.now) s.part.faults := by rw [frame]
      rw [after, faults, Part.reportsAfter_eq, Part.recordReference_isSome chassis r, Part.speedReports_eq chassis r]
      rfl

end Sys2Proof.Machine
end

section
/-! PROOF. What a taken record hands on, and what Mode Control makes of it (R45 to R47, R53, R172, R174). -/

namespace Sys2Proof.Machine

/-! ## A stand-down abandoned (R174) -/

section Abandoned

variable {p : Part}

theorem Part.abandoned_control (standing : p.control.mode = .standingDown) :
    p.abandoned.control = { p.control with mode := .active, standDownStart := none } := by
  simp [Part.abandoned, ModeControl.entering, standing]

theorem Part.abandoned_app : p.abandoned.app =
    { p.app with rotationTimer := some ⟨p.now, p.setting idRotationInterval * 1000⟩ } := rfl

theorem Part.abandoned_demand : p.abandoned.demand =
    { p.demand with total := p.abandoned.totalDemand, lead := p.abandoned.leadingSource } :=
  Part.demand_of_retotal (p := p.flagAbandoned.entering .active) rfl rfl

/-- Mode Control hands the Capacity Unit the change of mode it makes, and nothing else (R59, R168). -/
theorem Part.modeOnMotion_handed (p : Part) (wasStale : Bool) (pedal : Nat) : (p.modeOnMotion wasStale pedal).handed =
    p.handed ++ if (p.modeOnMotion wasStale pedal).control.mode = p.control.mode then [] else [.recompute] := by
  by_cases abandons : p.abandons pedal
  · rw [Part.modeOnMotion_of_abandons abandons, Part.abandoned_control abandons.1, abandons.1]
    simp [Part.abandoned]
  · by_cases recovers : p.control.mode = .fallback ∧ wasStale = true
    · obtain ⟨fallback, rfl⟩ := recovers
      simp [Part.modeOnMotion_of_recovers fallback]
    · simp [Part.modeOnMotion_of_neither abandons recovers]

end Abandoned

/-! ## Mode Control at a taken record (R172, R174) -/

section Taken

variable {p : Part} {c : ChassisRecord} (chassis : p.store.chassis = some c) (r : MotionRecord)

include chassis

theorem Part.exists_reference (valid : SpeedPresent r c) : ∃ v, p.recordReference r = some v :=
  Option.ne_none_iff_exists'.mp fun none_ => (Part.recordReference_none_iff chassis r).mp none_ valid

theorem Part.takeMotion_of_abandons {v : Nat} (valid : p.recordReference r = some v)
    (abandons : p.abandons (min r.pedal 1000)) : p.takeMotion r = (p.validRecordTaken r v).abandoned := by
  have taken := MotionNoted.ofValidRecord p r v
  rw [Part.takeMotion_of_valid chassis r valid]
  refine Part.modeOnMotion_of_abandons (p := p.validRecordTaken r v) ?_
  rwa [Part.abandons, taken.control_eq, taken.setting_eq]

theorem Part.takeMotion_of_recovers {v : Nat} (valid : p.recordReference r = some v)
    (fallback : p.control.mode = .fallback) (stale : p.motion.freshness = .stale) : p.takeMotion r =
      { p.validRecordTaken r v with control :=
        { p.control with recovery := some ⟨p.now, p.setting idFallbackRecovery⟩ } } := by
  have taken := MotionNoted.ofValidRecord p r v
  rw [Part.takeMotion_of_valid chassis r valid, decide_eq_true stale, ← taken.now_eq, ← taken.setting_eq,
    ← taken.control_eq]
  exact Part.modeOnMotion_of_recovers (p := p.validRecordTaken r v) (by rw [taken.control_eq, fallback])

/-- A record that neither abandons a stand-down nor starts the recovery leaves Mode Control. -/
theorem Part.takeMotion_of_neither
    (stays : ¬ (SpeedPresent r c ∧ p.abandons (min r.pedal 1000)))
    (staysOut : ¬ (SpeedPresent r c ∧ p.control.mode = .fallback ∧ p.motion.freshness = .stale)) :
    ∃ m es hs, MotionNoted p (p.takeMotion r) m es hs := by
  cases reference : p.recordReference r with
  | none =>
    rw [Part.takeMotion_of_invalid chassis r reference]
    exact ⟨_, _, _, MotionNoted.ofRecord p r⟩
  | some v =>
    have taken := MotionNoted.ofValidRecord p r v
    have valid : SpeedPresent r c :=
      not_not.mp (mt (Part.recordReference_none_iff chassis r).mpr (by simp [reference]))
    have kept : p.takeMotion r = p.validRecordTaken r v := by
      rw [Part.takeMotion_of_valid chassis r reference]
      refine Part.modeOnMotion_of_neither (p := p.validRecordTaken r v) ?_ ?_
      · rw [Part.abandons, taken.control_eq, taken.setting_eq]
        exact fun abandons => stays ⟨valid, abandons⟩
      · rw [taken.control_eq]
        exact fun recovers => staysOut ⟨valid, recovers.1, of_decide_eq_true recovers.2⟩
    rw [kept]
    exact ⟨_, _, _, taken⟩

end Taken

/-- Settles O15, from the hand-offs of each kind of record and from what Mode Control does at it. -/
theorem motionRecordIsHandedOn : Obligations.MotionRecordIsHandedOn := by
  refine ⟨fun s r c chassis => ?handed, fun s r c chassis => ?mode⟩
  case handed =>
    intro wheels drive nonDriven reference demandOf
    have wheels_eq : (s.part.limitRecord r).wheels = wheels := Part.limitRecord_wheels chassis r
    have beyond := Part.limitRecord_beyond (p := s.part) r
    have drive_eq : s.part.driveSpeed (s.part.limitRecord r).wheels = drive := by
      rw [Part.driveSpeed_eq chassis beyond, wheels_eq]
    have nonDriven_eq : s.part.nonDrivenSpeeds (s.part.limitRecord r).wheels = nonDriven := by
      rw [Part.nonDrivenSpeeds_eq chassis beyond, wheels_eq]
    have reference_eq : s.part.recordReference r = reference := by
      rw [Part.recordReference, Part.referenceOf_eq, drive_eq, nonDriven_eq]
    refine ⟨s.part.takeMotion r, rfl, fun none_ => ?invalid, fun v some_ => ?valid⟩
    case invalid =>
      have invalid := reference_eq.trans none_
      have taken := MotionNoted.ofRecord s.part r
      rw [Part.takeMotion_of_invalid chassis r invalid, taken.motion_eq]
      refine ⟨?_, ?_, ?_, s.part.recordNoted_stalePresent r, taken.control_eq, taken.demand_eq, taken.app_eq, ?_⟩
      · rw [Part.recordNoted_frame]
        rfl
      · rw [Part.recordNoted_frame]
        rfl
      · rw [Part.recordNoted_frame]
        rfl
      · rw [taken.handed_eq, Part.recordHandoffs, invalid, List.append_assoc]
    case valid =>
      have valid := reference_eq.trans some_
      have taken := MotionNoted.ofValidRecord s.part r v
      have outcome := Part.takeMotion_of_valid chassis r valid
      have motion : (s.part.takeMotion r).motion = s.part.validNoted r v := by
        rw [outcome, Part.modeOnMotion_frame]
        exact taken.motion_eq
      have handed := (s.part.validRecordTaken r v).modeOnMotion_handed (decide (s.part.motion.freshness = .stale))
        (min r.pedal 1000)
      rw [← outcome, taken.handed_eq, taken.control_eq, Part.recordHandoffs, Part.validHandoffs, valid, drive_eq,
        nonDriven_eq] at handed
      rw [motion, handed]
      refine ⟨?_, rfl, rfl, rfl, ?_⟩
      · rw [← wheels_eq]
        rfl
      · simp only [List.append_assoc]
        rfl
  case mode =>
    intro valid abandons recovers
    refine ⟨s.part.takeMotion r, rfl, fun h => ?abandons, fun h => ?recovers, fun stays staysOut => ?neither,
      fun stays => ?stays⟩
    case abandons =>
      obtain ⟨v, reference⟩ := Part.exists_reference chassis r h.1
      have taken := MotionNoted.ofValidRecord s.part r v
      have standing : (s.part.validRecordTaken r v).control.mode = .standingDown := by rw [taken.control_eq, h.2.1]
      rw [Part.takeMotion_of_abandons chassis r reference h.2]
      refine ⟨?_, rfl, rfl, ?_, ?_⟩
      · rw [Part.abandoned_control standing, taken.control_eq]
      · rw [Part.abandoned_app, taken.app_eq, taken.now_eq, taken.setting_eq]
      · rw [← taken.demand_eq]
        exact Part.abandoned_demand
    case recovers =>
      obtain ⟨v, reference⟩ := Part.exists_reference chassis r h.1
      rw [Part.takeMotion_of_recovers chassis r reference h.2.1 h.2.2]
    case neither =>
      obtain ⟨_, _, _, taken⟩ := Part.takeMotion_of_neither chassis r stays staysOut
      exact taken.control_eq
    case stays =>
      by_cases h : recovers
      · obtain ⟨v, reference⟩ := Part.exists_reference chassis r h.1
        have taken := MotionNoted.ofValidRecord s.part r v
        rw [Part.takeMotion_of_recovers chassis r reference h.2.1 h.2.2]
        exact ⟨taken.app_eq, taken.demand_eq, taken.flags⟩
      · obtain ⟨_, _, _, taken⟩ := Part.takeMotion_of_neither chassis r stays h
        exact ⟨taken.app_eq, taken.demand_eq, taken.flags⟩

end Sys2Proof.Machine
end

section
/-! PROOF. The driveline check of a taken record (R49 to R52): when a comparison is made, and what it decides. -/

namespace Sys2Proof.Machine

/-! ## The comparison (R49, R52) -/

theorem absDiff_eq_natAbs (a b : Nat) : absDiff a b = ((a : Int) - b).natAbs := by
  unfold absDiff
  omega

theorem Part.coupled_iff (gear : Gear) (clutch : Bool) :
    Part.coupled gear clutch = true ↔ clutch = true ∧ gear ≠ .neutral ∧ gear ≠ .reverse := by
  cases gear <;> simp [Part.coupled]

/-- Three matches in a row confirm the driveline (R52). -/
theorem countComparison_match (m : MotionInput) : Part.countComparison m true = { m with
    mismatchCount := 0, matchCount := min (m.matchCount + 1) 3
    driveline := if 3 ≤ m.matchCount + 1 then .confirmed else m.driveline } := by
  simp [Part.countComparison]

/-- Three mismatches in a row make it MISMATCH (R52). -/
theorem countComparison_mismatch (m : MotionInput) : Part.countComparison m false = { m with
    matchCount := 0, mismatchCount := min (m.mismatchCount + 1) 3
    driveline := if 3 ≤ m.mismatchCount + 1 then .mismatch else m.driveline } := by
  simp [Part.countComparison]

section Compare

variable {p : Part} {c : ChassisRecord} {m : MotionInput} {reference : Option Nat} {engine v : Nat} {gear : Gear}

theorem Part.compareDriveline_congr {q : Part} (store : q.store = p.store) :
    q.compareDriveline = p.compareDriveline := by
  cases p
  cases q
  subst store
  rfl

/-- Without a valid record of at least 300 cm/s, or while DECOUPLED, there is no comparison (R52). -/
theorem Part.compareDriveline_skipped (skipped : m.driveline = .decoupled ∨ ∀ v, reference = some v → v < 300) :
    p.compareDriveline m reference engine gear = m := by
  unfold Part.compareDriveline
  split
  · next v g _ =>
    refine if_neg fun ⟨engaged, fast⟩ => ?_
    obtain decoupled | slow := skipped
    · exact engaged decoupled
    · have := slow v rfl
      omega
  · rfl

/-- The expected engine speed of a record in a gear of the gear table (R49). -/
def Part.expectedAt (p : Part) (c : ChassisRecord) (v gear : Nat) : Nat :=
  expectedEngineSpeed c v ((p.table .gearTable).entry (gear - 1)).first ((p.table .gearTable).entry (gear - 1)).second

/-- A forward gear of a record is one that the gear table holds, so that its ratio is stated (R43, R49). -/
theorem Part.compareDriveline_compared (chassis : p.store.chassis = some c) (engaged : m.driveline ≠ .decoupled)
    (fast : 300 ≤ v) (r : MotionRecord) {g : Nat} (forward : (p.limitRecord r).gear = .forward g) :
    p.compareDriveline m (some v) engine (p.limitRecord r).gear = Part.countComparison m
      (decide (((engine : Int) - p.expectedAt c v r.gear).natAbs * 1000 ≤
        p.setting idDrivelineTolerance * p.expectedAt c v r.gear)) := by
  obtain ⟨rfl, held⟩ := Part.limitRecord_forward forward
  have ratio : p.gearRatio r.gear = (((p.table .gearTable).entry (r.gear - 1)).first,
      ((p.table .gearTable).entry (r.gear - 1)).second) := if_pos held
  rw [forward]
  simp only [Part.compareDriveline, chassis, ratio, absDiff_eq_natAbs, Part.expectedAt]
  exact if_pos ⟨engaged, fast⟩

end Compare

/-! ## The check of a record (R51, R52) -/

/-- Motion Input with the engagement of a record judged (R51). -/
def Part.recordJudged (p : Part) (r : MotionRecord) : MotionInput :=
  Part.judgeEngagement (p.fieldsNoted (p.limitRecord r)) (p.limitRecord r).gear r.clutch

/-- Motion Input with the comparison of a record made (R52). -/
def Part.recordCompared (p : Part) (r : MotionRecord) : MotionInput :=
  p.compareDriveline (p.recordJudged r) (p.recordReference r) (min r.engine 4000) (p.limitRecord r).gear

theorem Part.recordNoted_eq (p : Part) (r : MotionRecord) : p.recordNoted r = { p.recordCompared r with
    mismatchPresent := p.motion.mismatchAfter (p.recordCompared r).driveline } := by
  have fields := MotionNoted.ofFields p (p.limitRecord r)
  rw [Part.recordNoted, Part.drivelineAfter, fields.motion_eq, Part.compareDriveline_congr fields.store_eq]
  rfl

theorem Part.recordJudged_of_uncoupled {p : Part} {r : MotionRecord}
    (uncoupled : ¬ Part.coupled (p.limitRecord r).gear r.clutch = true) : p.recordJudged r =
      { p.fieldsNoted (p.limitRecord r) with
        driveline := .decoupled, matchCount := 0, mismatchCount := 0
        previous := some ((p.limitRecord r).gear, r.clutch) } := by
  rw [Part.recordJudged, judgeEngagement_eq]
  simp only [if_neg uncoupled]

theorem Part.recordJudged_of_coupled {p : Part} {r : MotionRecord}
    (coupled : Part.coupled (p.limitRecord r).gear r.clutch = true) : p.recordJudged r =
      { p.fieldsNoted (p.limitRecord r) with
        driveline := if p.motion.reengaged (p.limitRecord r).gear r.clutch then .uncertain else p.motion.driveline
        matchCount := if p.motion.reengaged (p.limitRecord r).gear r.clutch then 0 else p.motion.matchCount
        mismatchCount := if p.motion.reengaged (p.limitRecord r).gear r.clutch then 0 else p.motion.mismatchCount
        previous := some ((p.limitRecord r).gear, r.clutch) } := by
  rw [Part.recordJudged, judgeEngagement_eq]
  simp only [if_pos coupled]
  rfl

theorem Part.recordCompared_skipped {p : Part} {r : MotionRecord}
    (skipped : (p.recordJudged r).driveline = .decoupled ∨ ∀ v, p.recordReference r = some v → v < 300) :
    p.recordCompared r = p.recordJudged r := Part.compareDriveline_skipped skipped

/-- Whether a record's engine speed lies outside the tolerance of the one expected (R52). -/
abbrev Part.mismatches (p : Part) (c : ChassisRecord) (r : MotionRecord) (v : Nat) : Prop :=
  p.setting idDrivelineTolerance * p.expectedAt c v r.gear <
    (((min r.engine 4000 : Nat) : Int) - p.expectedAt c v r.gear).natAbs * 1000

theorem Part.recordCompared_compared {p : Part} {c : ChassisRecord} (chassis : p.store.chassis = some c)
    {r : MotionRecord} (coupled : Part.coupled (p.limitRecord r).gear r.clutch = true) {v : Nat}
    (reference : p.recordReference r = some v) (engaged : (p.recordJudged r).driveline ≠ .decoupled)
    (fast : 300 ≤ v) :
    p.recordCompared r = Part.countComparison (p.recordJudged r) (decide ¬ p.mismatches c r v) := by
  obtain ⟨g, forward⟩ : ∃ g, (p.limitRecord r).gear = .forward g := by
    cases gear : (p.limitRecord r).gear <;> simp [gear, Part.coupled] at coupled ⊢
  rw [Part.recordCompared, reference, Part.compareDriveline_compared chassis engaged fast r forward]
  simp only [Part.mismatches, Nat.not_lt]

theorem Part.motionAfter_reference {p : Part} {r : MotionRecord} {v : Nat} (reference : p.recordReference r = some v) :
    (p.motionAfter r).road.elim 0 (·.reference) = v := by
  rw [Part.motionAfter, reference]
  rfl

/-- Settles O16, from the engagement judged and the comparison made. -/
theorem drivelineFollowsTheRecords : Obligations.DrivelineFollowsTheRecords := by
  intro s r c chassis m
  refine ⟨s.part.takeMotion r, rfl, ?_⟩
  rw [Part.takeMotion_motion chassis r, Part.motionAfter_frame]
  dsimp only
  rw [s.part.recordNoted_eq r]
  dsimp only
  rw [← Part.coupled_iff (s.part.limitRecord r).gear r.clutch]
  refine ⟨rfl, fun uncoupled => ?uncoupled, fun coupled skipped => ?skipped,
    fun coupled valid engaged fast isMatch => ?isMatch, fun coupled valid engaged fast isMismatch => ?isMismatch⟩
  case uncoupled =>
    have judged := Part.recordJudged_of_uncoupled uncoupled
    rw [Part.recordCompared_skipped (.inl (by rw [judged])), judged]
    exact ⟨rfl, rfl, rfl⟩
  case skipped =>
    have judged := Part.recordJudged_of_coupled coupled
    have none_ : (s.part.recordJudged r).driveline = .decoupled ∨
        ∀ v, s.part.recordReference r = some v → v < 300 := by
      obtain invalid | decoupled | slow := skipped
      · refine .inr fun v reference => ?_
        cases reference.symm.trans ((Part.recordReference_none_iff chassis r).mpr invalid)
      · exact .inl (by rw [judged]; exact decoupled)
      · exact .inr fun v reference => Part.motionAfter_reference reference ▸ slow
    rw [Part.recordCompared_skipped none_, judged]
    exact ⟨rfl, rfl, rfl⟩
  case isMatch =>
    have judged := Part.recordJudged_of_coupled coupled
    obtain ⟨v, reference⟩ := Part.exists_reference chassis r valid
    rw [Part.motionAfter_reference reference] at fast isMatch
    rw [Part.recordCompared_compared chassis coupled reference (by rw [judged]; exact engaged) fast,
      decide_eq_true (p := ¬ s.part.mismatches c r v) isMatch, countComparison_match, judged]
    exact ⟨rfl, rfl, rfl⟩
  case isMismatch =>
    have judged := Part.recordJudged_of_coupled coupled
    obtain ⟨v, reference⟩ := Part.exists_reference chassis r valid
    rw [Part.motionAfter_reference reference] at fast isMismatch
    rw [Part.recordCompared_compared chassis coupled reference (by rw [judged]; exact engaged) fast,
      decide_eq_false (p := ¬ s.part.mismatches c r v) (not_not.mpr isMismatch), countComparison_mismatch, judged]
    exact ⟨rfl, rfl, rfl⟩

end Sys2Proof.Machine
end

section
/-! PROOF. Every step keeps every pressure demand within its axle's p_max (R70, R91), and every channel in the state
that its demand calls for (R139, R142, R144). This file: what the laws ask of a part, the operations of the
Channel Units, the Apportioner and the Capacity Unit. -/

namespace Sys2Proof.Machine

open Safety

/-! ## The laws of the pressure demands -/

/-- What a channel holds of a pressure demand, where its axle's p_max is `pMax` and passes run if `runs` holds (R91,
R139, R142, R144). -/
structure ChannelHeld (runs : Bool) (pMax : Nat) (c : Channel) : Prop where
  idle : c.state ≠ some .commanded → c.lastDemand = 0 ∧ c.tracking = none
  commanded : c.state = some .commanded → runs = true ∧ c.available = true
  routed : c.state = none ↔ c.route = .unrouted
  bounded : c.lastDemand ≤ pMax

/-- The pressure demands of the part are held within p_max, where COMMANDED channels are allowed if `runs` holds. -/
structure DemandsHeld (runs : Bool) (p : Part) : Prop where
  channel : ∀ a, ChannelHeld runs (p.axleDesc a).pMax (p.chan.get a)
  absent : ∀ a, p.hasAxle a = false → (p.chan.get a).route = .unrouted
  service : ∀ a, p.cap.items.service.get a * 100000 ≤
    (p.axleDesc a).pMax * ((p.axleDesc a).brakeFactor * p.cap.items.fade.get a)
  demand : ∀ a, p.app.demands.get a ≤ (p.axleDesc a).pMax
  handed : ∀ a, ∀ h ∈ p.handed, demandedOf h a ≤ (p.axleDesc a).pMax

/-- Both laws of a part: its demands are held, with COMMANDED channels while passes run alone. -/
def PressuresLawful (p : Part) : Prop := DemandsHeld p.passesRun p

theorem pressuresLawful_iff {p : Part} : PressuresLawful p ↔ PressureWithinPmax p ∧ ChannelsHeld p := by
  constructor
  · intro h
    exact ⟨fun a => ⟨h.service a, h.demand a, (h.channel a).bounded, h.handed a⟩,
      fun a => ⟨(h.channel a).idle, (h.channel a).commanded, (h.channel a).routed, h.absent a⟩⟩
  · rintro ⟨within, channels⟩
    exact
      { channel := fun a =>
          have ⟨_, _, bounded, _⟩ := within a
          have ⟨idle, commanded, routed, _⟩ := channels a
          ⟨idle, commanded, routed, bounded⟩
        absent := fun a => have ⟨_, _, _, absent⟩ := channels a; absent
        service := fun a => (within a).1
        demand := fun a => have ⟨_, demand, _⟩ := within a; demand
        handed := fun a => have ⟨_, _, _, handed⟩ := within a; handed }

/-! ## A channel's items -/

namespace ChannelHeld

variable {runs runs' : Bool} {pMax : Nat} {c : Channel} {st : ChannelState}

theorem mono (h : ChannelHeld runs pMax c) (more : runs = true → runs' = true) : ChannelHeld runs' pMax c :=
  { h with commanded := fun state => ⟨more (h.commanded state).1, (h.commanded state).2⟩ }

theorem ite {p : Prop} [Decidable p] {d : Channel} (h : ChannelHeld runs pMax c) (h' : ChannelHeld runs pMax d) :
    ChannelHeld runs pMax (if p then c else d) := by
  split
  · exact h
  · exact h'

theorem route_of_state (h : ChannelHeld runs pMax c) {st : ChannelState} (state : c.state = some st) :
    c.route ≠ .unrouted := fun unrouted => by simp [h.routed.mpr unrouted] at state

/-- A channel that enters a state other than COMMANDED with no demand and no tracking timer. -/
theorem entered (routed : c.route ≠ .unrouted) (other : st ≠ .commanded) (state : c.state = some st)
    (demand : c.lastDemand = 0) (tracking : c.tracking = none) : ChannelHeld runs pMax c where
  idle _ := ⟨demand, tracking⟩
  commanded commanded := absurd (Option.some.inj (state.symm.trans commanded)) other
  routed := iff_of_false (by simp [state]) routed
  bounded := by omega

/-- A channel that leaves its state drops the demand of COMMANDED; in another state it holds none (R144). -/
theorem released (h : ChannelHeld runs pMax c) (routed : c.route ≠ .unrouted) (other : st ≠ .commanded) :
    ChannelHeld runs pMax (c.released st) := by
  unfold Channel.released
  split
  · exact entered routed other rfl rfl rfl
  · next idle => exact entered routed other rfl (h.idle idle).1 (h.idle idle).2

theorem unreachable (routed : c.route ≠ .unrouted) : ChannelHeld runs pMax c.unreachable :=
  entered (st := .unreachable) (by simpa using routed) (by simp)
    (by simp only [Channel.unreachable, Channel.released]; split <;> rfl) rfl rfl

/-- A channel that is not routed holds nothing, and is not COMMANDED. -/
theorem unrouted (state : c.state = none) (route : c.route = .unrouted) (demand : c.lastDemand = 0)
    (tracking : c.tracking = none) : ChannelHeld runs pMax c where
  idle _ := ⟨demand, tracking⟩
  commanded commanded := by simp [state] at commanded
  routed := iff_of_true state route
  bounded := by omega

end ChannelHeld

/-! ## What keeps the demands held -/

theorem Part.axleDesc_congr {p q : Part} (chassis : q.store.chassis = p.store.chassis) (a : Axle) :
    q.axleDesc a = p.axleDesc a := by
  simp only [Part.axleDesc, chassis]

theorem Part.hasAxle_congr {p q : Part} (chassis : q.store.chassis = p.store.chassis) (a : Axle) :
    q.hasAxle a = p.hasAxle a := by
  unfold Part.hasAxle Part.axleCount
  rw [chassis]

theorem DemandsHeld.mono {runs runs' : Bool} {p : Part} (h : DemandsHeld runs p) (more : runs = true → runs' = true) :
    DemandsHeld runs' p :=
  { h with channel := fun a => (h.channel a).mono more }

/-- What an operation that changes no mode leaves of the pressure demands: they stay held, whatever bounds the modes in
which COMMANDED channels are allowed. -/
structure DemandsKept (p q : Part) : Prop where
  control : q.control = p.control
  held : ∀ runs, (p.passesRun = true → runs = true) → DemandsHeld runs p → DemandsHeld runs q

theorem Part.passesRun_congr {p q : Part} (control : q.control = p.control) : q.passesRun = p.passesRun := by
  simp only [Part.passesRun, control]

/-- The part with a COMMANDED channel that is not available released (R144), as R142 judges it. -/
def Part.releasedUnlessAvailable (p : Part) (a : Axle) : Part :=
  if !p.channelAvailable a && decide ((p.chan.get a).state = some .commanded) then p.releaseChannel a .backup else p

theorem Part.releaseChannel_state (p : Part) (a : Axle) (st : ChannelState) :
    ((p.releaseChannel a st).chan.get a).state = some st := by
  have kept := congrArg Prod.fst ((p.setChannel a ((p.chan.get a).released st)).postTarget_service a a)
  refine kept.trans ?_
  simp only [Part.setChannel_chan, Axles.get_set_same, Channel.service, Channel.released]
  split <;> rfl

/-- A channel that is still COMMANDED then is available. -/
theorem Part.available_of_commanded (p : Part) {a : Axle}
    (state : ((p.releasedUnlessAvailable a).chan.get a).state = some .commanded) : p.channelAvailable a = true := by
  unfold Part.releasedUnlessAvailable at state
  split at state
  · simp [Part.releaseChannel_state] at state
  · next kept =>
    by_contra lost
    exact kept (by simp [lost, state])

theorem DemandsKept.lawful {p q : Part} (k : DemandsKept p q) (h : PressuresLawful p) : PressuresLawful q := by
  rw [PressuresLawful, Part.passesRun_congr k.control]
  exact k.held _ id h

namespace DemandsKept

variable {p q r : Part}

theorem refl (p : Part) : DemandsKept p p := ⟨rfl, fun _ _ => id⟩

theorem trans (h : DemandsKept p q) (h' : DemandsKept q r) : DemandsKept p r where
  control := h'.control.trans h.control
  held runs more held := h'.held runs (by rwa [Part.passesRun_congr h.control]) (h.held runs more held)

theorem ite {c : Prop} [Decidable c] (h : DemandsKept p q) (h' : DemandsKept p r) :
    DemandsKept p (if c then q else r) := by
  split
  · exact h
  · exact h'

theorem foldl {α : Type} {f : Part → α → Part}
    (step : ∀ (q : Part) (a : α), DemandsKept p q → DemandsKept p (f q a)) (h : DemandsKept p q)
    (l : List α) : DemandsKept p (l.foldl f q) := by
  induction l generalizing q with
  | nil => exact h
  | cons a l ih => exact ih (step q a h)

/-- An operation on the demands, the channels, the capacities or the hand-offs that leaves the record and the mode. -/
theorem next (h : DemandsKept p q) (same : r.control = q.control ∧ r.store.chassis = q.store.chassis)
    (channel : ∀ runs, (q.passesRun = true → runs = true) → DemandsHeld runs q →
      ∀ a, ChannelHeld runs (q.axleDesc a).pMax (r.chan.get a))
    (routes : ∀ a, (r.chan.get a).route = (q.chan.get a).route)
    (service : DemandsHeld true q → ∀ a, r.cap.items.service.get a * 100000 ≤
      (q.axleDesc a).pMax * ((q.axleDesc a).brakeFactor * r.cap.items.fade.get a))
    (demand : DemandsHeld true q → ∀ a, r.app.demands.get a ≤ (q.axleDesc a).pMax)
    (handed : DemandsHeld true q → ∀ a, ∀ x ∈ r.handed, demandedOf x a ≤ (q.axleDesc a).pMax) : DemandsKept p r := by
  obtain ⟨control, chassis⟩ := same
  refine h.trans ⟨control, fun runs more held => ?_⟩
  have any : DemandsHeld true q := held.mono fun _ => rfl
  have desc := Part.axleDesc_congr chassis
  exact
    { channel := fun a => by rw [desc]; exact channel runs more held a
      absent := fun a none_ => by rw [routes]; exact held.absent a (by rw [← none_, Part.hasAxle_congr chassis])
      service := fun a => by rw [desc]; exact service any a
      demand := fun a => by rw [desc]; exact demand any a
      handed := fun a => by rw [desc]; exact handed any a }

/-- An operation that touches none of the items that the laws read. -/
theorem framed (h : DemandsKept p q)
    (same : r.control = q.control ∧ r.store.chassis = q.store.chassis ∧ r.chan = q.chan ∧
      r.cap.items.service = q.cap.items.service ∧ r.cap.items.fade = q.cap.items.fade ∧
      r.app.demands = q.app.demands ∧ r.handed = q.handed) : DemandsKept p r := by
  obtain ⟨control, chassis, chan, service, fade, demands, handed⟩ := same
  exact h.next ⟨control, chassis⟩ (by rw [chan]; exact fun _ _ held => held.channel) (by simp [chan])
    (by rw [service, fade]; exact fun held => held.service) (by rw [demands]; exact fun held => held.demand)
    (by rw [handed]; exact fun held => held.handed)

/-- An operation on the hand-offs alone, with no demand that did not wait before. -/
theorem handedOn (h : DemandsKept p q)
    (same : r.control = q.control ∧ r.store.chassis = q.store.chassis ∧ r.chan = q.chan ∧ r.cap = q.cap ∧
      r.app = q.app)
    (handed : ∀ x ∈ r.handed, x ∈ q.handed ∨ ∀ a, demandedOf x a = 0) : DemandsKept p r := by
  obtain ⟨control, chassis, chan, cap, app⟩ := same
  refine h.next ⟨control, chassis⟩ (by rw [chan]; exact fun _ _ held => held.channel) (by simp [chan])
    (by rw [cap]; exact fun held => held.service) (by rw [app]; exact fun held => held.demand) fun held a x hx => ?_
  obtain old | new := handed x hx
  · exact held.handed a x old
  · rw [new a]
    exact Nat.zero_le _

theorem handOn (h : DemandsKept p q) {x : Handoff} (none_ : ∀ a, demandedOf x a = 0) : DemandsKept p (q.handOn x) := by
  refine h.handedOn (by simp) fun y hy => ?_
  obtain old | new := List.mem_append.mp hy
  · exact .inl old
  · obtain rfl := List.mem_singleton.mp new
    exact .inr none_

theorem needCapacities (h : DemandsKept p q) : DemandsKept p q.needCapacities := h.handOn fun _ => rfl

theorem taken (h : DemandsKept p q) (l : Lane) : DemandsKept p (q.taken l) :=
  h.handedOn (by simp) fun _ hx => .inl (List.mem_of_mem_eraseP hx)

theorem discardLanes (h : DemandsKept p q) (gone : Lane → Bool) : DemandsKept p (q.discardLanes gone) :=
  h.handedOn (by simp) fun _ hx => .inl (List.mem_filter.mp hx).1

theorem answer (h : DemandsKept p q) (kind tag : Byte) (r : Reply) : DemandsKept p (q.answer kind tag r) :=
  h.framed (by simp)

theorem faultOccurs (h : DemandsKept p q) (src : Source) (code : FaultCode) :
    DemandsKept p (q.faultOccurs src code) := h.framed (by simp)

theorem faultEnds (h : DemandsKept p q) (src : Source) (code : FaultCode) :
    DemandsKept p (q.faultEnds src code) := h.framed (by simp)

theorem chooseNext (h : DemandsKept p q) : DemandsKept p q.chooseNext := h.framed (by simp)

theorem post (h : DemandsKept p q) (addr : Nat) (payload : Payload) : DemandsKept p (q.post addr payload) :=
  h.framed (by simp)

/-! ### The Channel Units -/

/-- A channel set to one that holds its demand, with its route unchanged. -/
theorem setChannel (h : DemandsKept p q) {a : Axle} {c : Channel} (route : c.route = (q.chan.get a).route)
    (channel : ∀ runs, (q.passesRun = true → runs = true) → DemandsHeld runs q →
      ChannelHeld runs (q.axleDesc a).pMax c) : DemandsKept p (q.setChannel a c) := by
  refine h.next (by simp) (fun runs more held b => ?_) (fun b => ?_) (fun held => held.service)
    (fun held => held.demand) (fun held => held.handed)
  · by_cases same : b = a
    · subst same
      simpa using channel runs more held
    · simpa [same] using held.channel b
  · by_cases same : b = a
    · simp [same, route]
    · simp [same]

/-- A channel's items beside its route, state, demand, tracking timer and availability are no concern of the laws. -/
theorem setOther (h : DemandsKept p q) {a : Axle} {c : Channel}
    (same : c.route = (q.chan.get a).route ∧ c.state = (q.chan.get a).state ∧
      c.lastDemand = (q.chan.get a).lastDemand ∧ c.tracking = (q.chan.get a).tracking ∧
      c.available = (q.chan.get a).available) : DemandsKept p (q.setChannel a c) := by
  obtain ⟨route, state, demand, tracking, available⟩ := same
  refine h.setChannel route fun runs _ held => ?_
  obtain ⟨idle, commanded, routed, bounded⟩ := held.channel a
  exact ⟨by rwa [state, demand, tracking], by rwa [state, available], by rwa [state, route], by rwa [demand]⟩

theorem postTarget (h : DemandsKept p q) (a : Axle) : DemandsKept p (q.postTarget a) := by
  unfold Part.postTarget
  dsimp only
  split
  · exact h.ite ((h.setOther (by simp)).post _ _)
  · exact h
  · exact h

/-- A channel with a state, and so with a route, changes to a state other than COMMANDED (R144). -/
theorem releaseChannel (h : DemandsKept p q) {a : Axle} {st : ChannelState}
    (routed : ∀ runs, DemandsHeld runs q → (q.chan.get a).route ≠ .unrouted) (other : st ≠ .commanded) :
    DemandsKept p (q.releaseChannel a st) :=
  DemandsKept.postTarget (h.setChannel (by simp) fun runs _ held =>
    (held.channel a).released (routed runs held) other) a

theorem withdrawShare (h : DemandsKept p q) (a : Axle) : DemandsKept p (q.withdrawShare a) := by
  refine DemandsKept.ite (h.next ⟨rfl, rfl⟩ (fun _ _ held => held.channel) (fun _ => rfl) (fun held => held.service)
    (fun held b => ?_) fun held b x hx => ?_) h
  · by_cases same : b = a
    · simp [same]
    · simpa [same] using held.demand b
  · obtain old | new := List.mem_append.mp hx
    · exact held.handed b x old
    · obtain rfl := List.mem_singleton.mp new
      simp [demandedOf]

/-- A channel judged again: a COMMANDED one that is not available has left COMMANDED before it is published so (R142,
R144). -/
theorem judgeChannel (h : DemandsKept p q) (a : Axle) : DemandsKept p (q.judgeChannel a) := by
  have judged : DemandsKept p (q.releasedUnlessAvailable a) := by
    unfold Part.releasedUnlessAvailable
    split
    · next lost =>
      obtain ⟨-, commanded⟩ := (Bool.and_eq_true _ _).mp lost
      exact h.releaseChannel (fun runs held => (held.channel a).route_of_state (of_decide_eq_true commanded)) (by simp)
    · exact h
  have published : DemandsKept p ((q.releasedUnlessAvailable a).setChannel a
      { (q.releasedUnlessAvailable a).chan.get a with available := q.channelAvailable a }) :=
    judged.setChannel rfl fun runs _ held =>
      { held.channel a with
        commanded := fun state => ⟨((held.channel a).commanded state).1, q.available_of_commanded state⟩ }
  exact judged.ite (published.needCapacities.ite (published.needCapacities.withdrawShare a))

theorem stopChannels (h : DemandsKept p q) : DemandsKept p q.stopChannels := by
  refine h.foldl (fun q a h => ?_) _
  unfold Part.stopChannel
  split
  · next commanded =>
    exact h.releaseChannel (fun runs held => (held.channel a).route_of_state commanded) (by simp)
  · exact h

/-- A demand within p_max is taken; BACKUP is left for COMMANDED while passes run, by an available channel (R143). -/
theorem takeDemand (h : DemandsKept p q) (a : Axle) {kPa : Nat}
    (within : ∀ runs, DemandsHeld runs q → kPa ≤ (q.axleDesc a).pMax) : DemandsKept p (q.takeDemand a kPa) := by
  unfold Part.takeDemand
  dsimp only
  split
  · exact h
  · next running =>
    split
    · next commanded =>
      refine DemandsKept.postTarget (h.setChannel (a := a) ?_ fun runs _ held => ?_) a
      · rfl
      exact { held.channel a with
        idle := fun idle => absurd commanded idle
        bounded := within runs held }
    · split
      · next entering =>
        obtain ⟨backup, available⟩ := entering
        refine DemandsKept.postTarget (h.setChannel (a := a) ?_ fun runs more held => ?_) a
        · rfl
        exact
          { idle := fun idle => absurd rfl idle
            commanded := fun _ => ⟨more (by simpa using running), available⟩
            routed := iff_of_false (by simp) ((held.channel a).route_of_state backup)
            bounded := within runs held }
      · exact h

theorem pressureDemand (h : DemandsKept p q) (a : Axle) : DemandsKept p (q.pressureDemand a) := by
  unfold Part.pressureDemand
  split
  · next b kPa waits =>
    obtain rfl : b = a := by simpa [Part.waiting, Handoff.lane] using List.find?_some waits
    have waited := List.mem_of_find?_eq_some waits
    refine h.trans ⟨by simp, fun runs more held => ?_⟩
    have within : kPa ≤ (q.axleDesc b).pMax := by simpa [demandedOf] using held.handed b _ waited
    exact (((DemandsKept.refl q).taken _).takeDemand b fun _ _ => within).held runs more held
  · exact h

theorem trackPressure (h : DemandsKept p q) (a : Axle) (kPa : Nat) : DemandsKept p (q.trackPressure a kPa) := by
  unfold Part.trackPressure
  dsimp only
  split
  · next commanded =>
    have tracked : ∀ t, DemandsKept p (q.setChannel a { q.chan.get a with tracking := t }) := fun t =>
      h.setChannel rfl fun _ _ held => { held.channel a with idle := fun idle => absurd commanded idle }
    refine DemandsKept.ite ?_ (tracked none)
    split
    · exact h
    · exact tracked _
  · exact h

theorem judgeSample (h : DemandsKept p q) (a : Axle) (kPa : Int) : DemandsKept p (q.judgeSample a kPa) :=
  DemandsKept.ite
    (((((h.setOther (by simp)).faultEnds _ _).ite (h.setOther (by simp))).judgeChannel a).trackPressure a _)
    (((h.setOther (by simp)).ite ((h.setOther (by simp)).faultOccurs _ _)).judgeChannel a)

theorem localSample (h : DemandsKept p q) (a : Axle) (kPa : Int) : DemandsKept p (q.localSample a kPa) :=
  DemandsKept.ite ((h.setOther (by simp)).ite ((h.setOther (by simp)).judgeSample a kPa)) h

theorem takeMeasurement (h : DemandsKept p q) (a : Axle) (kPa : Nat) :
    DemandsKept p (q.takeMeasurement a kPa) :=
  (h.setOther (by simp)).trackPressure a kPa

theorem remoteMeasurement (h : DemandsKept p q) (a : Axle) : DemandsKept p (q.remoteMeasurement a) := by
  unfold Part.remoteMeasurement
  split
  · exact (h.taken _).takeMeasurement a _
  · exact h

theorem channelLost (h : DemandsKept p q) (a : Axle) : DemandsKept p (q.channelLost a) := by
  unfold Part.channelLost
  dsimp only
  split
  · next standing =>
    refine DemandsKept.judgeChannel (DemandsKept.postTarget (h.setChannel (by simp) fun runs _ held => ?_) a) a
    exact .unreachable (standing.elim (held.channel a).route_of_state (held.channel a).route_of_state)
  · exact h.judgeChannel a

theorem channelFound (h : DemandsKept p q) (a : Axle) : DemandsKept p (q.channelFound a) := by
  unfold Part.channelFound
  dsimp only
  split
  · next lost =>
    refine DemandsKept.judgeChannel (h.setChannel (a := a) ?_ fun runs _ held => ?_) a
    · rfl
    obtain ⟨demand, tracking⟩ := (held.channel a).idle (by simp [lost])
    exact .entered (st := .backup) ((held.channel a).route_of_state lost) (by simp) rfl demand tracking
  · exact h.judgeChannel a

theorem channelPresenceChange (h : DemandsKept p q) (a : Axle) : DemandsKept p (q.channelPresenceChange a) := by
  unfold Part.channelPresenceChange
  split
  · exact ((h.taken _).channelFound a).chooseNext
  · exact ((h.taken _).channelLost a).chooseNext
  · exact h

/-- A tracking timer runs in COMMANDED alone, and so only a routed channel trips (R144, R151). -/
theorem trackingTimerExpiry (h : DemandsKept p q) (a : Axle) : DemandsKept p (q.trackingTimerExpiry a) := by
  unfold Part.trackingTimerExpiry
  split
  · next due =>
    have stopped : DemandsKept p (q.setChannel a { q.chan.get a with tracking := none }) :=
      h.setChannel rfl fun _ _ held =>
        { held.channel a with idle := fun idle => ⟨((held.channel a).idle idle).1, rfl⟩ }
    exact h.trans ⟨by simp, fun runs more held => by
      have commanded : (q.chan.get a).state = some .commanded := by
        by_contra idle
        simp [((held.channel a).idle idle).2, timerDue] at due
      have routed := (held.channel a).route_of_state commanded
      have tripped := ((DemandsKept.refl q).setChannel (a := a) (c := { q.chan.get a with tracking := none }) rfl
        fun _ _ held => { held.channel a with
          idle := fun idle => ⟨((held.channel a).idle idle).1, rfl⟩ }).faultOccurs (.axle a) .tracking
      exact ((tripped.releaseChannel (st := .faulted) (fun _ _ => by simpa using routed) (by simp)).judgeChannel a).held
        runs more held⟩
  · exact h

theorem readmitChannel (h : DemandsKept p q) (a : Axle) : DemandsKept p (q.readmitChannel a) := by
  unfold Part.readmitChannel
  dsimp only
  split
  · next faulted =>
    refine DemandsKept.judgeChannel (DemandsKept.postTarget (h.setChannel ?_ fun runs _ held => ?_) a) a
    · simp only [apply_ite Channel.route, Channel.unreachable_route, Channel.released_route, ite_self]
    · have routed := (held.channel a).route_of_state faulted
      exact (ChannelHeld.unreachable routed).ite ((held.channel a).released routed (by simp))
  · exact h

end DemandsKept
end Sys2Proof.Machine
end

section
/-! PROOF. What Retarder Control, Flap Control, the clears, the transactions of the actuator link and ROUTE leave of the
pressure demands and of the channels. -/

namespace Sys2Proof.Machine

/-- A ROUTE that passes check 3 names no route for a position without an axle (R140). -/
theorem Part.unrouted_of_routeFault_none {p : Part} {fields : Axles RouteField} {retarder : Nat}
    (passed : p.routeFault fields retarder = none) (a : Axle) (none_ : p.hasAxle a = false) :
    (Part.routesOf fields).get a = .unrouted := by
  unfold Part.routeFault at passed
  split at passed
  · cases passed
  · next fits =>
    have ok : p.routeFieldOk a (fields.get a) = true := by
      simpa using List.find?_eq_none.mp fits a (Axles.mem_all a)
    simp only [Part.routesOf, Axles.get_map]
    unfold Part.routeFieldOk at ok
    split at ok
    · next r field => simpa [none_, field] using ok
    · cases ok

namespace DemandsKept

variable {p q r : Part}

/-! ### Retarder Control -/

theorem retarderWantTaken (h : DemandsKept p q) : DemandsKept p q.retarderWantTaken := by
  unfold Part.retarderWantTaken
  split
  · exact (h.taken .retarderWant).framed (by simp)
  · exact h

theorem retarderNodeStateTaken (h : DemandsKept p q) : DemandsKept p q.retarderNodeStateTaken := by
  unfold Part.retarderNodeStateTaken
  split
  · exact (h.taken .retarderLink).framed (by simp)
  · exact h

theorem loseRetarder (h : DemandsKept p q) : DemandsKept p q.loseRetarder := h.framed (by simp)

theorem retarderNodeLostTaken (h : DemandsKept p q) : DemandsKept p q.retarderNodeLostTaken := by
  unfold Part.retarderNodeLostTaken
  split
  · exact (h.taken _).loseRetarder.chooseNext
  · exact h

theorem fillTimerExpiry (h : DemandsKept p q) : DemandsKept p q.fillTimerExpiry :=
  DemandsKept.ite ((h.faultOccurs .retarder .fillTimeout).framed (by simp)) h

theorem drainTimerExpiry (h : DemandsKept p q) : DemandsKept p q.drainTimerExpiry :=
  DemandsKept.ite ((h.faultOccurs .retarder .drainTimeout).framed (by simp)) h

theorem readmitRetarder (h : DemandsKept p q) : DemandsKept p q.readmitRetarder := h.framed (by simp)

theorem stopRetarder (h : DemandsKept p q) : DemandsKept p q.stopRetarder := h.framed (by simp)

/-! ### Flap Control -/

theorem setFlap (h : DemandsKept p q) (f : FlapControl) : DemandsKept p (q.setFlap f) := h.framed (by simp)

/-- A change of the flap state hands on a recomputation alone (R131). -/
theorem changeFlap (h : DemandsKept p q) (f : FlapControl) : DemandsKept p (q.changeFlap f) :=
  (h.setFlap f).ite (h.setFlap f).needCapacities

theorem flapOpened (h : DemandsKept p q) : DemandsKept p q.flapOpened := h.changeFlap _

theorem flapOpening (h : DemandsKept p q) : DemandsKept p q.flapOpening := h.changeFlap _

theorem flapTrips (h : DemandsKept p q) (code : FaultCode) : DemandsKept p (q.flapTrips code) :=
  (h.faultOccurs .flap code).changeFlap _

theorem flapOpenWant (h : DemandsKept p q) : DemandsKept p q.flapOpenWant := by
  unfold Part.flapOpenWant
  split
  · exact h.flapOpening.ite h.flapOpened
  · exact h.flapOpening.ite h.flapOpened
  · exact h
  · exact h
  · exact h

theorem flapCloseWant (h : DemandsKept p q) : DemandsKept p q.flapCloseWant := by
  unfold Part.flapCloseWant
  split
  · exact (h.changeFlap _).ite h
  · exact h
  · exact h
  · exact h
  · exact h

theorem exhaustWantTaken (h : DemandsKept p q) : DemandsKept p q.exhaustWantTaken := by
  unfold Part.exhaustWantTaken
  split
  · exact (h.taken _).flapCloseWant
  · exact (h.taken _).flapOpenWant
  · exact h

theorem takeSwitch (h : DemandsKept p q) (closed : Bool) : DemandsKept p (q.takeSwitch closed) := by
  have read := h.setFlap { q.flap with switchClosed := closed }
  unfold Part.takeSwitch
  dsimp only
  split
  · exact read.flapTrips _
  · exact read
  · exact read.changeFlap _
  · exact read
  · exact read
  · exact read.flapTrips _
  · exact read
  · exact read.flapOpened
  · exact read.needCapacities
  · exact read.needCapacities

theorem takeWaitingSwitch (h : DemandsKept p q) : DemandsKept p q.takeWaitingSwitch := (h.takeSwitch _).ite h

theorem flapSwitchChange (h : DemandsKept p q) (e : SwitchEvent) : DemandsKept p (q.flapSwitchChange e) := by
  have levelled : DemandsKept p
      (if e.closed = q.fswClosed then q else { q.takeWaitingSwitch with fswClosed := e.closed }) :=
    h.ite (h.takeWaitingSwitch.framed (by simp))
  exact levelled.takeWaitingSwitch.ite levelled

theorem flapTimerExpiry (h : DemandsKept p q) : DemandsKept p q.flapTimerExpiry := by
  have stopped := h.setFlap { q.flap with timer := none }
  unfold Part.flapTimerExpiry
  refine DemandsKept.ite (DemandsKept.ite ?_ stopped) h
  split
  · exact h.flapTrips _
  · exact h.flapTrips _
  · exact stopped
  · exact stopped
  · exact stopped

theorem readmitFlap (h : DemandsKept p q) : DemandsKept p q.readmitFlap :=
  (h.flapOpened.ite ((h.changeFlap _).ite h.flapOpening)).ite h

theorem judgeFlap (h : DemandsKept p q) : DemandsKept p q.judgeFlap :=
  (h.setFlap _).flapOpening.ite (h.setFlap _).flapOpened

theorem flapAtAcceptance (h : DemandsKept p q) : DemandsKept p q.flapAtAcceptance := h.judgeFlap.ite (h.changeFlap _)

theorem flapAtWarmReset (h : DemandsKept p q) : DemandsKept p q.flapAtWarmReset := (h.changeFlap _).ite h.judgeFlap

/-! ### Clears -/

theorem readmitNamed (h : DemandsKept p q) (mask : BitVec 16) : DemandsKept p (q.readmitNamed mask) := by
  have retarder := h.readmitRetarder.ite h (c := maskNames mask .retarder)
  exact (retarder.readmitFlap.ite retarder).foldl (fun _ a h => (h.readmitChannel a).ite h) _

theorem applyClear (h : DemandsKept p q) (mask : BitVec 16) : DemandsKept p (q.applyClear mask) := by
  have cleared : DemandsKept p { q with faults := { q.faults with
    entries := q.faults.entries.filter fun e => !e.clearedBy mask } } := h.framed (by simp)
  exact (DemandsKept.ite (cleared.framed (by simp)) cleared).readmitNamed mask

theorem applyHeld (h : DemandsKept p q) (c : HeldClear) : DemandsKept p (q.applyHeld c) :=
  (DemandsKept.applyClear (q := { q with faults := { q.faults with held := none } })
    (h.framed (by simp)) _).answer _ _ _

theorem noLongerWaiting (h : DemandsKept p q) (gone : Nat → Bool) : DemandsKept p (q.noLongerWaiting gone) := by
  unfold Part.noLongerWaiting
  split
  · exact (h.applyHeld _).ite (h.framed (by simp))
  · exact h

theorem clearFaults (h : DemandsKept p q) (tag : Byte) (mask : BitVec 16) : DemandsKept p (q.clearFaults tag mask) := by
  unfold Part.clearFaults
  refine DemandsKept.ite (h.answer _ _ _) (DemandsKept.ite (h.answer _ _ _) ?_)
  split
  · exact (h.applyClear mask).answer _ _ _
  · exact DemandsKept.foldl (fun _ addr h => h.post addr .poll) (h.framed (by simp)) _

theorem holdoffExpiry (h : DemandsKept p q) : DemandsKept p q.holdoffExpiry := by
  unfold Part.holdoffExpiry
  split
  · exact (h.applyHeld _).ite h
  · exact h

/-! ### Transactions of the actuator link -/

theorem setNode (h : DemandsKept p q) (addr : Nat) (f : NodeEntry → NodeEntry) : DemandsKept p (q.setNode addr f) :=
  h.framed (by simp)

theorem handPresence (h : DemandsKept p q) (use : NodeUse) (present : Bool) :
    DemandsKept p (q.handPresence use present) := by
  unfold Part.handPresence
  split
  · exact h.handOn fun _ => rfl
  · exact (h.ite (h.handOn fun _ => rfl)).needCapacities

theorem handReported (h : DemandsKept p q) (use : NodeUse) : DemandsKept p (q.handReported use) := by
  unfold Part.handReported
  split
  · exact h.judgeChannel _
  · exact h.needCapacities

theorem setLink (h : DemandsKept p q) (link : LinkController) : DemandsKept p { q with link := link } :=
  h.framed (by simp)

theorem afterTransaction (h : DemandsKept p q) (addr : Nat) : DemandsKept p (q.afterTransaction addr) :=
  ((h.noLongerWaiting _).ite h).chooseNext

theorem judgeFaultCode (h : DemandsKept p q) (e : NodeEntry) (code : Nat) : DemandsKept p (q.judgeFaultCode e code) :=
  DemandsKept.ite (((((h.setNode _ _).faultEnds _ _).handReported _)).ite h)
    ((h.setNode _ _).ite (((h.setNode _ _).faultOccurs _ _).handReported _))

theorem holdOil (h : DemandsKept p q) (oil : Option Int) : DemandsKept p (q.holdOil oil) :=
  h.framed ⟨rfl, rfl, rfl, rfl, rfl, rfl, rfl⟩

theorem handPayload (h : DemandsKept p q) (e : NodeEntry) (ans : NodeAnswer) : DemandsKept p (q.handPayload e ans) := by
  unfold Part.handPayload
  split
  · exact h.handOn fun _ => rfl
  · next st oil _ _ =>
    have noted : DemandsKept p { q with ret := { q.ret with lastNodeState := some st } } := h.framed (by simp)
    exact ((noted.handOn (x := .retarderNodeState st) fun _ => rfl).holdOil (some oil)).needCapacities
  · exact h
  · exact h

theorem takeGoodAnswer (h : DemandsKept p q) (e : NodeEntry) (ans : NodeAnswer) :
    DemandsKept p (q.takeGoodAnswer e ans) := by
  unfold Part.takeGoodAnswer
  dsimp only
  refine (DemandsKept.judgeFaultCode (DemandsKept.ite ?_ (DemandsKept.handPresence ?_ _ _)) e _).handPayload e ans
  all_goals exact ((h.setNode _ _).faultEnds _ _).ite (h.setNode _ _)

theorem requeueMissed (h : DemandsKept p q) (r : Request) : DemandsKept p (q.requeueMissed r) := h.framed (by simp)

theorem takeMiss (h : DemandsKept p q) (e : NodeEntry) (r : Request) : DemandsKept p (q.takeMiss e r) := by
  have counted := (h.setNode e.addr fun x => { x with misses := min (e.misses + 1) 3 }).requeueMissed r
  have lost := counted.setNode e.addr fun x => { x with presence := .lost, lostPresent := true }
  exact ((lost.ite (lost.faultOccurs _ _)).handPresence _ _).ite counted

theorem completeTransaction (h : DemandsKept p q) (t : Transaction) (received : Option (List Byte)) :
    DemandsKept p (q.completeTransaction t received) := by
  have ended : DemandsKept p q.endTransaction := h.setLink _
  unfold Part.completeTransaction
  dsimp only
  split
  · exact ended.chooseNext
  · split
    · exact ended.chooseNext
    · refine DemandsKept.afterTransaction ?_ _
      split
      · exact ended.takeGoodAnswer _ _
      · exact ended.takeMiss _ _

theorem actuatorAnswer (h : DemandsKept p q) (received : List Byte) : DemandsKept p (q.actuatorAnswer received) := by
  unfold Part.actuatorAnswer
  split
  · split
    · exact (h.completeTransaction _ _).ite h
    · exact h
  · exact h
  · exact h

theorem answerTimeout (h : DemandsKept p q) : DemandsKept p q.answerTimeout := by
  unfold Part.answerTimeout
  split
  · exact (h.completeTransaction _ _).ite h
  · exact h
  · exact h

theorem commandFrameSent (h : DemandsKept p q) : DemandsKept p q.commandFrameSent := by
  unfold Part.commandFrameSent
  split
  · exact (h.setLink _).ite h
  · exact (h.setLink _).ite h
  · exact h

theorem abandonedWindowEnd (h : DemandsKept p q) : DemandsKept p q.abandonedWindowEnd := by
  unfold Part.abandonedWindowEnd
  split
  · exact (h.setLink _).chooseNext.ite h
  · exact h
  · exact h

theorem pollTimerExpiry (h : DemandsKept p q) (addr : Nat) : DemandsKept p (q.pollTimerExpiry addr) := by
  unfold Part.pollTimerExpiry
  split
  · exact ((h.setNode _ _).post _ _).ite h
  · exact h

/-! ### ROUTE -/

/-- A channel set to one of another route holds its demand, and a position without an axle stays unrouted. -/
theorem rerouteChannel (h : DemandsKept p q) {a : Axle} {c : Channel}
    (channel : ∀ runs, ChannelHeld runs (q.axleDesc a).pMax c)
    (absent : q.hasAxle a = false → c.route = .unrouted) : DemandsKept p (q.setChannel a c) := by
  refine h.trans ⟨rfl, fun runs _ held => ⟨fun b => ?_, fun b none_ => ?_, held.service, held.demand, held.handed⟩⟩
  · by_cases same : b = a
    · subst same
      rw [Part.setChannel_chan, Axles.get_set_same]
      exact channel runs
    · rw [Part.setChannel_chan, Axles.get_set_ne _ _ same]
      exact held.channel b
  · by_cases same : b = a
    · subst same
      rw [Part.setChannel_chan, Axles.get_set_same]
      exact absent none_
    · rw [Part.setChannel_chan, Axles.get_set_ne _ _ same]
      exact held.absent b none_

/-- A reset channel is routed as asked, in BACKUP unless it is unrouted, and holds no demand (R141). -/
theorem resetChannel (h : DemandsKept p q) {a : Axle} {x : Route} (absent : q.hasAxle a = false → x = .unrouted) :
    DemandsKept p (q.resetChannel a x) := by
  have ended := (h.faultEnds (.axle a) .sensor).ite h (c := (q.chan.get a).sensorOut)
  unfold Part.resetChannel
  dsimp only
  refine DemandsKept.discardLanes (ended.rerouteChannel (fun runs => ?_) fun none_ => ?_) _
  · by_cases unrouted : x = .unrouted
    · exact .unrouted (by simp [unrouted]) unrouted rfl rfl
    · exact .entered (st := .backup) unrouted (by simp) (by simp [unrouted]) rfl rfl
  · refine absent ?_
    rw [← none_]
    exact (Part.hasAxle_congr (by split <;> simp) a).symm

theorem channelsReset (h : DemandsKept p q) {l : List Axle} {routes : Axles Route}
    (absent : ∀ a, q.hasAxle a = false → routes.get a = .unrouted) : DemandsKept p (q.channelsReset l routes) := by
  induction l generalizing q with
  | nil => exact h
  | cons a l ih =>
    refine ih (h.resetChannel (absent a)) fun b none_ => absent b ?_
    rw [← none_]
    exact (Part.hasAxle_congr (by simp) b).symm

theorem removeNode (h : DemandsKept p q) (e : NodeEntry) : DemandsKept p (q.removeNode e) := by
  have lost := (h.faultEnds (.node e.addr) .nodeLost).ite h (c := e.lostPresent)
  have reported := (lost.faultEnds (.node e.addr) .reported).ite lost (c := e.reported)
  exact reported.setLink _

theorem updateNodes (h : DemandsKept p q) (routes : Axles Route) (retarder : Option Nat) :
    DemandsKept p (q.updateNodes routes retarder) :=
  (h.foldl (fun _ e h => h.removeNode e) _).setLink _

theorem rerouteRetarder (h : DemandsKept p q) (old : Option Nat) : DemandsKept p (q.rerouteRetarder old) := by
  have discarded := h.discardLanes fun l => decide (l = .retarderLink)
  exact h.ite (DemandsKept.loseRetarder (DemandsKept.holdOil (discarded.framed (by simp)) none)).needCapacities

theorem applyRoute (h : DemandsKept p q) {routes : Axles Route} {retarder : Option Nat}
    (absent : ∀ a, q.hasAxle a = false → routes.get a = .unrouted) : DemandsKept p (q.applyRoute routes retarder) := by
  have reset := h.channelsReset (l := q.changedAxles routes) absent
  have routed : DemandsKept p (q.routed routes retarder) :=
    DemandsKept.updateNodes (q := { q.channelsReset (q.changedAxles routes) routes with retRoute := retarder })
      (reset.framed ⟨rfl, rfl, rfl, rfl, rfl, rfl, rfl⟩) routes retarder
  have judged := routed.foldl (fun _ a h => h.judgeChannel a) (q.changedAxles routes)
  have posted := judged.foldl (fun _ a h => h.postTarget a) (q.changedAxles routes)
  have rerouted := (posted.rerouteRetarder q.retRoute).chooseNext
  exact (rerouted.noLongerWaiting _).ite rerouted

theorem routeRequest (h : DemandsKept p q) (fields : Axles RouteField) (retarder : Nat) :
    DemandsKept p (q.routeRequest fields retarder).1 := by
  unfold Part.routeRequest
  split
  · exact h
  · split
    · exact h
    · split
      · exact h
      · next passed => exact h.applyRoute (Part.unrouted_of_routeFault_none passed)

end DemandsKept

end Sys2Proof.Machine
end

section
/-! PROOF. The recomputed service capacities, the shares and the pressure demands of a pass stay within p_max (R69, R70,
R85 to R91); what the Apportioner, the Demand Arbiter, the Slip Monitor, Motion Input, the Thermal Model and the tables
leave of the demands. -/

namespace Sys2Proof.Machine

open Safety

/-! ## A recomputation (R69, R70) -/

/-- Judging OVERTEMP leaves the items of the Capacity Unit (R68). -/
@[simp] theorem Part.judgeOvertemp_items (p : Part) : p.judgeOvertemp.cap.items = p.cap.items := by
  unfold Part.judgeOvertemp
  (repeat' split) <;> simp

@[simp] theorem Part.recompute_items (p : Part) : p.recompute.cap.items = p.capacities := by
  rw [Part.recompute, Part.judgeOvertemp_items]

/-- A service capacity is what the axle gives at its p_max (R70). -/
theorem Part.serviceCapacity_le (p : Part) (a : Axle) : p.serviceCapacity a * 100000 ≤
    (p.axleDesc a).pMax * ((p.axleDesc a).brakeFactor * p.fadeFactor a) := by
  unfold Part.serviceCapacity
  split
  · rw [← Nat.mul_assoc]
    exact Nat.div_mul_le_self _ _
  · simp

/-! ## The shares of a pass (R86 to R88) -/

/-- An axle that a round would raise above its capacity is capped (R88). -/
theorem shareRounds_shares_le (w cap : Axles Nat) (a : Axle) (fuel : Nat) (set : List Axle) (shares : Axles Nat)
    (remainder rounds : Nat) (within : shares.get a ≤ cap.get a) :
    (shareRounds w cap fuel set shares remainder rounds).shares.get a ≤ cap.get a := by
  induction fuel generalizing set shares remainder rounds with
  | zero => exact within
  | succ fuel ih =>
    rw [shareRounds]
    split
    · exact within
    · refine ih _ _ _ _ ?_
      rw [Axles.get_ofFn]
      split
      · exact Nat.le_refl _
      · next uncapped =>
        by_cases member : a ∈ set
        · simpa [member] using uncapped
        · simpa [raisedShare, member] using within

theorem Part.sharing_le (p : Part) (a : Axle) : p.sharing.shares.get a ≤ p.cap.items.service.get a := by
  unfold Part.sharing
  split
  · next trim =>
    have fits : p.wantedService ≤ p.cap.items.service.get p.app.pointer := by
      simp only [Part.usesTrim, Bool.and_eq_true, decide_eq_true_eq] at trim
      exact trim.2
    by_cases pointed : a = p.app.pointer
    · simpa [pointed] using fits
    · simp [pointed]
  · exact shareRounds_shares_le _ _ _ _ _ _ _ _ (by simp)

/-! ## The pressure demands of a pass (R91) -/

theorem ceilDiv_le_of_le_mul {x y z : Nat} (h : x ≤ z * y) : ceilDiv x y ≤ z := by
  obtain rfl | positive := y.eq_zero_or_pos
  · simp [ceilDiv]
  · refine Nat.le_of_lt_succ ((Nat.div_lt_iff_lt_mul positive).mpr ?_)
    rw [Nat.succ_mul]
    omega

/-- The pressure for a share within the service capacity is within p_max. -/
theorem Part.pressureFor_le {p : Part} {a : Axle} {share : Nat} (within : share ≤ p.cap.items.service.get a)
    (service : p.cap.items.service.get a * 100000 ≤
      (p.axleDesc a).pMax * ((p.axleDesc a).brakeFactor * p.cap.items.fade.get a)) :
    p.pressureFor share a ≤ (p.axleDesc a).pMax := by
  unfold Part.pressureFor
  split
  · exact Nat.zero_le _
  · exact ceilDiv_le_of_le_mul ((Nat.mul_le_mul_right _ within).trans service)

theorem Part.passResults_demands_le {p : Part} {runs : Bool} (held : DemandsHeld runs p) (a : Axle) :
    p.passResults.demands.get a ≤ (p.axleDesc a).pMax := by
  have demand : p.passResults.demands.get a = p.pressureFor (p.sharing.shares.get a) a := by simp [Part.passResults]
  rw [demand]
  exact Part.pressureFor_le (p.sharing_le a) (held.service a)

/-- A hand-off once the axles of a list have been handed their demands. -/
theorem Part.mem_foldl_handOn_demand {l : List Axle} {x : Handoff} {p : Part}
    (mem : x ∈ (l.foldl (fun p a => p.handOn (.pressureDemand a (p.app.demands.get a))) p).handed) :
    x ∈ p.handed ∨ ∃ a, x = .pressureDemand a (p.app.demands.get a) := by
  induction l generalizing p with
  | nil => exact .inl mem
  | cons a l ih =>
    obtain earlier | later := ih mem
    · obtain old | new := List.mem_append.mp earlier
      · exact .inl old
      · exact .inr ⟨a, List.mem_singleton.mp new⟩
    · exact .inr later

/-- A pass hands on its wants, and to each axle its demand (R77). -/
theorem Part.mem_handOnPass {p : Part} {x : Handoff} (mem : x ∈ p.handOnPass.handed) :
    x ∈ p.handed ∨ (∀ a, demandedOf x a = 0) ∨
      ∃ a, x = .pressureDemand a (p.app.demands.get a) := by
  obtain wants | demanded := Part.mem_foldl_handOn_demand mem
  · simp only [Part.handOn, List.mem_append, List.mem_singleton] at wants
    obtain (old | rfl) | rfl := wants
    · exact .inl old
    · exact .inr (.inl fun _ => rfl)
    · exact .inr (.inl fun _ => rfl)
  · exact .inr (.inr demanded)

namespace DemandsKept

variable {p q r : Part}

/-! ### The Capacity Unit -/

theorem judgeOvertemp (h : DemandsKept p q) : DemandsKept p q.judgeOvertemp := h.framed (by simp)

theorem recompute (h : DemandsKept p q) : DemandsKept p q.recompute := by
  refine DemandsKept.judgeOvertemp (h.next ⟨rfl, rfl⟩ (fun _ _ held => held.channel) (fun _ => rfl) (fun _ a => ?_)
    (fun held => held.demand) fun held => held.handed)
  simpa [Part.capacities] using q.serviceCapacity_le a

theorem capacityRecomputation (h : DemandsKept p q) : DemandsKept p q.capacityRecomputation := by
  unfold Part.capacityRecomputation
  split
  · exact (h.taken _).recompute
  · exact h

/-! ### The Apportioner -/

theorem flagAlarm (h : DemandsKept p q) (old : Alarm) : DemandsKept p (q.flagAlarm old) := h.framed (by simp)

theorem handOnPass (h : DemandsKept p q) : DemandsKept p q.handOnPass := by
  refine h.next (by simp) (fun _ _ held => ?_) (by simp) (fun held => ?_) (fun held => ?_) fun held a x hx => ?_
  · simpa using held.channel
  · simpa using held.service
  · simpa using held.demand
  · obtain old | none_ | ⟨b, rfl⟩ := Part.mem_handOnPass hx
    · exact held.handed a x old
    · rw [none_ a]
      exact Nat.zero_le _
    · simp only [demandedOf]
      split
      · next same => exact same ▸ held.demand b
      · exact Nat.zero_le _

theorem runPass (h : DemandsKept p q) : DemandsKept p q.runPass := by
  have published : DemandsKept p { q with app := q.passResults } :=
    h.next ⟨rfl, rfl⟩ (fun _ _ held => held.channel) (fun _ => rfl) (fun held => held.service)
      (fun held a => Part.passResults_demands_le held a) fun held => held.handed
  exact (published.flagAlarm _).handOnPass

/-- The Apportioner's items beside its demands are no concern of the laws. -/
theorem setApp (h : DemandsKept p q) {x : Apportioner} (demands : x.demands = q.app.demands) :
    DemandsKept p { q with app := x } := h.framed ⟨rfl, rfl, rfl, rfl, rfl, demands, rfl⟩

theorem rotationTimerExpiry (h : DemandsKept p q) : DemandsKept p q.rotationTimerExpiry :=
  DemandsKept.ite (h.framed ⟨rfl, rfl, rfl, rfl, rfl, rfl, rfl⟩) h

theorem setMask (h : DemandsKept p q) (flags : Axles Nat) : DemandsKept p (q.setMask flags).1 := by
  have masked (mask : Axles Bool) : DemandsKept p { q with app := { q.app with mask := mask } } := h.setApp rfl
  unfold Part.setMask
  split
  · exact h
  · split
    · exact h
    · dsimp only
      split
      · exact h
      · exact (masked _).needCapacities.foldl (fun _ a h => (h.withdrawShare a).ite h) _

theorem judgeAlarm (h : DemandsKept p q) : DemandsKept p q.judgeAlarm := h.framed (by simp [Part.judgeAlarm_app])

/-! ### The Demand Arbiter -/

/-- The Demand Arbiter's items are no concern of the laws. -/
theorem setDemand (h : DemandsKept p q) (d : DemandArbiter) : DemandsKept p { q with demand := d } :=
  h.framed ⟨rfl, rfl, rfl, rfl, rfl, rfl, rfl⟩

theorem retotal (h : DemandsKept p q) : DemandsKept p q.retotal := h.setDemand _

theorem cancelHold (h : DemandsKept p q) : DemandsKept p q.cancelHold := h.setDemand _

theorem setAssists (h : DemandsKept p q) (l : List AssistEntry) : DemandsKept p (q.setAssists l) := h.setDemand _

theorem dropAssists (h : DemandsKept p q) : DemandsKept p q.dropAssists := h.framed (by simp)

theorem speedHoldUpdate (h : DemandsKept p q) : DemandsKept p q.speedHoldUpdate := by
  unfold Part.speedHoldUpdate
  split
  · exact (h.taken _).setDemand _
  · exact h

theorem holdSet (h : DemandsKept p q) (setpoint : Nat) : DemandsKept p (q.holdSet setpoint).1 := by
  unfold Part.holdSet
  split
  · exact h
  · exact h.setDemand _

theorem assist (h : DemandsKept p q) (requester decel hold : Nat) :
    DemandsKept p (q.assist requester decel hold).1 := by
  unfold Part.assist
  dsimp only
  split
  · exact h
  · split
    · exact h
    · split
      · exact h.setAssists _
      · split
        · exact h
        · exact h.setAssists _

theorem assistCancel (h : DemandsKept p q) (requester : Nat) : DemandsKept p (q.assistCancel requester).1 := by
  unfold Part.assistCancel
  split
  · exact h
  · split
    · exact h.setAssists _
    · exact h

theorem assistExpiry (h : DemandsKept p q) (requester : Nat) : DemandsKept p (q.assistExpiry requester) :=
  (h.setAssists _).ite h

theorem setMass (h : DemandsKept p q) (kg : Nat) : DemandsKept p (q.setMass kg) := h.setDemand _

theorem mass (h : DemandsKept p q) (kg : Nat) : DemandsKept p (q.mass kg).1 := by
  unfold Part.mass
  split
  · exact h
  · exact h.setMass _

/-! ### The Slip Monitor and Motion Input -/

theorem slipEvaluation (h : DemandsKept p q) : DemandsKept p q.slipEvaluation := by
  unfold Part.slipEvaluation
  split
  · exact (h.taken .slipRecord).framed (by simp)
  · exact h

/-- Motion Input's items are no concern of the laws. -/
theorem setMotion (h : DemandsKept p q) (m : MotionInput) : DemandsKept p { q with motion := m } :=
  h.framed ⟨rfl, rfl, rfl, rfl, rfl, rfl, rfl⟩

theorem countClamped (h : DemandsKept p q) : DemandsKept p q.countClamped := h.setMotion _

theorem publishEngine (h : DemandsKept p q) (l : LimitedRecord) : DemandsKept p (q.publishEngine l) := h.setMotion _

theorem judgeSpeedMissing (h : DemandsKept p q) (wheels : Axles (Option Nat)) (a : Axle) :
    DemandsKept p (q.judgeSpeedMissing wheels a) := by
  unfold Part.judgeSpeedMissing
  dsimp only
  split
  · exact DemandsKept.faultOccurs (h.setMotion _) _ _
  · exact DemandsKept.faultEnds (h.setMotion _) _ _
  · exact h
  · exact h

theorem driveCheck (h : DemandsKept p q) (reference : Option Nat) (engine : Nat) (gear : Gear) (clutch : Bool) :
    DemandsKept p (q.driveCheck reference engine gear clutch) := by
  have judged := fun m => h.setMotion m
  have raised := fun m c => ((judged m).faultOccurs .driveline .mismatch).ite (judged m) (c := c = true)
  have ended := fun m c c' => ((raised m c).faultEnds .driveline .mismatch).ite (raised m c) (c := c' = true)
  exact (ended _ _ _).ite (ended _ _ _).needCapacities

theorem refresh (h : DemandsKept p q) : DemandsKept p q.refresh := h.framed (by simp)

theorem madeStale (h : DemandsKept p q) : DemandsKept p q.madeStale :=
  (h.setMotion _).ite (DemandsKept.faultOccurs (h.setMotion _) _ _)

/-! ### The Thermal Model -/

/-- The Thermal Model's items are no concern of the laws. -/
theorem setThermal (h : DemandsKept p q) (t : ThermalModel) : DemandsKept p { q with thermal := t } :=
  h.framed ⟨rfl, rfl, rfl, rfl, rfl, rfl, rfl⟩

theorem tierChangeAlarm (h : DemandsKept p q) : DemandsKept p q.tierChangeAlarm := h.ite h.judgeAlarm

theorem thermalReplaced (h : DemandsKept p q) (t : ThermalModel) : DemandsKept p (q.thermalReplaced t) :=
  DemandsKept.ite (h.setThermal t).needCapacities.tierChangeAlarm (h.setThermal t)

theorem thermalUpdate (h : DemandsKept p q) : DemandsKept p q.thermalUpdate := by
  cases running : q.thermal.timer with
  | none => rwa [Part.thermalUpdate_of_not_due (by rw [running]; rfl)]
  | some t =>
    rw [Part.thermalUpdate_of_timer running]
    exact (h.thermalReplaced _).ite h

theorem seedTemps (h : DemandsKept p q) (temps : List Int) : DemandsKept p (q.seedTemps temps).1 := by
  have seeded := h.thermalReplaced { q.thermal with axles := .ofFn (q.seededAxle temps) }
  unfold Part.seedTemps
  split
  · exact h
  · split
    · exact h
    · split
      · exact h
      · split
        · exact h
        · exact seeded

theorem statusReport (h : DemandsKept p q) : DemandsKept p q.statusReport :=
  DemandsKept.ite (h.framed ⟨rfl, rfl, rfl, rfl, rfl, rfl, rfl⟩) h

/-! ### Settings and tables -/

/-- The Table Store's items beside the chassis record are no concern of the laws. -/
theorem setStore (h : DemandsKept p q) {st : TableStore} (chassis : st.chassis = q.store.chassis) :
    DemandsKept p { q with store := st } := h.framed ⟨rfl, chassis, rfl, rfl, rfl, rfl, rfl⟩

theorem settingsRequest (h : DemandsKept p q) (pairs : List (Nat × Nat)) :
    DemandsKept p (q.settingsRequest pairs).1 := by
  unfold Part.settingsRequest
  split
  · exact h
  · split
    · exact h
    · split
      · exact h
      · exact h.setStore rfl

theorem setTable (h : DemandsKept p q) (id : TableId) (t : Table) : DemandsKept p (q.setTable id t) := by
  cases id <;> exact h.setStore rfl

theorem setCursor (h : DemandsKept p q) (c : Option Cursor) : DemandsKept p (q.setCursor c) := h.setStore rfl

theorem setGearCount (h : DemandsKept p q) (n : Nat) : DemandsKept p (q.setGearCount n) := h.setStore rfl

theorem tableServiceChanged (h : DemandsKept p q) (id : TableId) : DemandsKept p (q.tableServiceChanged id) := by
  cases id with
  | pedalMap | leverMap => exact h.setDemand _
  | retarderCurve | exhaustCurve | gearTable => exact h.needCapacities

theorem abandonTable (h : DemandsKept p q) : DemandsKept p q.abandonTable := by
  unfold Part.abandonTable
  split
  · exact (h.setTable _ _).setCursor none
  · exact h

theorem tableOpen (h : DemandsKept p q) (n start : Nat) : DemandsKept p (q.tableOpen n start).1 := by
  have opened : ∀ id, DemandsKept p (q.opened id start) := fun id => by
    have abandoned : DemandsKept p (q.othersAbandoned id) := h.abandonTable.ite h
    have placed := fun t => (abandoned.setTable id t).setCursor (some ⟨id, start⟩)
    exact ((placed _).setGearCount 0).ite (placed _)
  unfold Part.tableOpen
  split
  · exact h
  · split
    · exact h
    · next id _ =>
      split
      · rw [Part.openTable_eq]
        exact ((opened id).tableServiceChanged id).ite (opened id)
      · exact h

theorem tableData (h : DemandsKept p q) (fields : List Nat) : DemandsKept p (q.tableData fields).1 := by
  unfold Part.tableData
  split
  · exact h
  · split
    · exact h
    · split
      · exact h
      · split
        · exact h
        · exact (h.setTable _ _).setCursor _

theorem tableClose (h : DemandsKept p q) : DemandsKept p q.tableClose.1 := by
  have closed : ∀ c st, DemandsKept p (q.closed c st) := fun _ _ => (h.setTable _ _).setCursor _
  cases hc : q.store.cursor with
  | none => rwa [Part.tableClose_none_open hc]
  | some c =>
    cases hk : firstOffending c.table (q.table c.table) c.index with
    | some k =>
      rw [Part.tableClose_offending hc hk]
      exact closed c .invalid
    | none =>
      rw [Part.tableClose_passing hc hk]
      have passed : DemandsKept p (q.passed c) := ((closed c .valid).setGearCount _).ite (closed c .valid)
      exact passed.tableServiceChanged _

theorem tableRead (h : DemandsKept p q) (n first count : Nat) : DemandsKept p (q.tableRead n first count).1 := by
  unfold Part.tableRead
  (repeat' split) <;> exact h

end DemandsKept

end Sys2Proof.Machine
end

section
/-! PROOF. A change of mode, the acceptance of the chassis record and the two resets keep both laws of the pressure
demands; so does every command, and every step (R70, R91, R139, R142, R144). -/

namespace Sys2Proof.Machine

open Safety

/-! ## The laws across a change of mode -/

/-- While passes run, a channel may be COMMANDED. -/
theorem pressuresLawful_of_running {p : Part} (running : p.passesRun = true) (held : DemandsHeld true p) :
    PressuresLawful p := by
  rwa [PressuresLawful, running]

theorem pressuresLawful_of_stopped {p : Part} (held : DemandsHeld false p) : PressuresLawful p :=
  held.mono nofun

/-- Demands held with no channel COMMANDED are held in every mode. -/
theorem DemandsHeld.of_none_commanded {p : Part} (held : DemandsHeld true p)
    (none_ : ∀ a, (p.chan.get a).state ≠ some .commanded) : DemandsHeld false p :=
  { held with channel := fun a => { held.channel a with commanded := fun commanded => absurd commanded (none_ a) } }

/-- What an operation makes of a part that meets both laws of the pressure demands meets them. -/
structure PressuresKept (p q : Part) : Prop where
  lawful : PressuresLawful p → PressuresLawful q

namespace PressuresKept

variable {p q r : Part}

theorem refl (p : Part) : PressuresKept p p := ⟨id⟩

theorem trans (h : PressuresKept p q) (h' : PressuresKept q r) : PressuresKept p r := ⟨h'.lawful ∘ h.lawful⟩

theorem ite {c : Prop} [Decidable c] (h : PressuresKept p q) (h' : PressuresKept p r) :
    PressuresKept p (if c then q else r) := by
  split
  · exact h
  · exact h'

theorem answer (h : PressuresKept p q) (kind tag : Byte) (r : Reply) : PressuresKept p (q.answer kind tag r) :=
  h.trans ⟨((DemandsKept.refl q).answer kind tag r).lawful⟩

end PressuresKept

theorem DemandsKept.pressures {p q : Part} (k : DemandsKept p q) : PressuresKept p q := ⟨k.lawful⟩

/-! ## Passes stop (R98, R144) -/

theorem Part.stopChannels_none_commanded (p : Part) (a : Axle) :
    (p.stopChannels.chan.get a).state ≠ some .commanded := by
  have stopped : (p.stopChannels.chan.get a).state = (p.chan.get a).stopped.1 :=
    congrArg Prod.fst (p.stopChannels_service a)
  rw [stopped, Channel.stopped]
  split
  · simp
  · next other => exact other

/-- The Apportioner's items with passes stopped hold no demand (R98). -/
theorem DemandsKept.stopApportioner {p q : Part} (h : DemandsKept p q) :
    DemandsKept p { q with app := Part.stoppedApportioner q.app } :=
  h.next ⟨rfl, rfl⟩ (fun _ _ held => held.channel) (fun _ => rfl) (fun held => held.service)
    (fun _ a => by simp [Part.stoppedApportioner, Apportioner.cold]) fun held => held.handed

theorem demandsHeld_stopPasses {p : Part} (held : DemandsHeld true p) : DemandsHeld false p.stopPasses := by
  have kept : DemandsKept p p.stopPasses :=
    ((DemandsKept.refl p).stopApportioner.discardLanes _).flapOpenWant.stopRetarder.stopChannels
  exact (kept.held true (fun _ => rfl) held).of_none_commanded (Part.stopChannels_none_commanded _)

/-! ## The modes (R168) -/

/-- Mode Control's items are no concern of what the demands hold. -/
theorem DemandsHeld.setControl {runs : Bool} {p : Part} (held : DemandsHeld runs p) (c : ModeControl) :
    DemandsHeld runs { p with control := c } :=
  ⟨held.channel, held.absent, held.service, held.demand, held.handed⟩

theorem demandsHeld_entering {runs : Bool} {p : Part} (held : DemandsHeld runs p) (new : Mode) :
    DemandsHeld runs (p.entering new) :=
  ⟨held.channel, held.absent, held.service, held.demand, held.handed⟩

/-- Every mode in which passes are stopped stops them at its entry, but STANDBY from FALLBACK, where they are
stopped. -/
theorem pressuresLawful_actOnModeChange {p : Part} {old : Mode} (held : DemandsHeld true p)
    (stopped : old = .fallback → DemandsHeld false p) : PressuresLawful (p.actOnModeChange old) := by
  have stoppedFor {q : Part} (k : DemandsKept p.stopPasses q) (still : p.passesRun = false) : PressuresLawful q :=
    pressuresLawful_of_stopped (k.held false (by simp [Part.passesRun_congr (q := p.stopPasses) (p := p), still])
      (demandsHeld_stopPasses held))
  have keeps := DemandsKept.refl p
  have stops := DemandsKept.refl p.stopPasses
  unfold Part.actOnModeChange
  split
  · next active =>
    have running : DemandsKept p
        (if old = .standingDown then p.retotal.startRotationTimer else p.startPassTimer.startRotationTimer) :=
      DemandsKept.ite (keeps.framed ⟨rfl, rfl, rfl, rfl, rfl, rfl, rfl⟩)
        (keeps.framed ⟨rfl, rfl, rfl, rfl, rfl, rfl, rfl⟩)
    exact running.lawful (pressuresLawful_of_running (Part.passesRun_iff.mpr (.inl active)) held)
  · next standing =>
    have running : DemandsKept p p.cancelHold.dropAssists.retotal.stopRotationTimer :=
      keeps.cancelHold.dropAssists.retotal.framed ⟨rfl, rfl, rfl, rfl, rfl, rfl, rfl⟩
    exact running.lawful (pressuresLawful_of_running (Part.passesRun_iff.mpr (.inr standing)) held)
  · next fallback => exact stoppedFor stops.cancelHold.dropAssists.judgeAlarm (by simp [Part.passesRun, fallback])
  · next standby =>
    split
    · next left => exact pressuresLawful_of_stopped (stopped left)
    · exact stoppedFor stops.retotal.judgeAlarm (by simp [Part.passesRun, standby])
  · next config => exact stoppedFor stops.retotal.judgeAlarm (by simp [Part.passesRun, config])

theorem pressuresKept_changeMode (p : Part) (new : Mode) : PressuresKept p (p.changeMode new) := by
  refine ⟨fun lawful => ?_⟩
  by_cases change : p.control.mode = new
  · rwa [Part.changeMode_same change]
  · rw [Part.changeMode_eq change]
    refine (DemandsKept.refl _).needCapacities.lawful (pressuresLawful_actOnModeChange
      (demandsHeld_entering (lawful.mono fun _ => rfl) new) fun fallback => demandsHeld_entering ?_ new)
    rwa [PressuresLawful, show p.passesRun = false by simp [Part.passesRun, fallback]] at lawful

/-- The start times of Mode Control leave the mode, and so the laws. -/
theorem pressuresKept_setControl {p : Part} {c : ModeControl} (mode : c.mode = p.control.mode) :
    PressuresKept p { p with control := c } := by
  refine ⟨fun lawful => ?_⟩
  have same : Part.passesRun { p with control := c } = p.passesRun := by simp only [Part.passesRun, mode]
  rw [PressuresLawful, same]
  exact lawful.setControl c

/-! ## The causes of a change of mode (R169 to R175) -/

theorem pressuresKept_flagged {p q : Part} (flagged : q = { p with flags := q.flags }) (new : Mode) :
    PressuresKept p (q.changeMode new) := by
  have kept : DemandsKept p q := by
    rw [flagged]
    exact (DemandsKept.refl p).framed ⟨rfl, rfl, rfl, rfl, rfl, rfl, rfl⟩
  exact kept.pressures.trans (pressuresKept_changeMode q new)

theorem pressuresKept_start (p : Part) : PressuresKept p p.start.1 := by
  have ready : PressuresKept p (if p.motion.freshness = .fresh then (p.changeMode .active, Reply.done)
      else (p, .refused (.notReady 10 0))).1 := by
    split
    · exact pressuresKept_changeMode p _
    · exact .refl p
  unfold Part.start
  split
  · exact .refl p
  · exact .refl p
  · exact .refl p
  · split
    · exact .refl p
    · exact ready
  · split
    · exact .refl p
    · exact ready

theorem pressuresKept_standDown (p : Part) : PressuresKept p p.standDown.1 := by
  unfold Part.standDown
  split
  · have noted : PressuresKept p { p with control := { p.control with standDownStart := some p.now } } :=
      pressuresKept_setControl rfl
    exact noted.trans (pressuresKept_changeMode _ _)
  · exact .refl p
  · exact pressuresKept_changeMode p _
  · exact .refl p
  · exact .refl p

theorem pressuresKept_modeOnStale (p : Part) : PressuresKept p p.modeOnStale := by
  have forgotten : PressuresKept p { p with control := { p.control with recovery := none } } :=
    pressuresKept_setControl rfl
  unfold Part.modeOnStale
  split
  · exact forgotten.trans (pressuresKept_flagged rfl _)
  · exact pressuresKept_changeMode p _
  · exact forgotten
  · exact .refl p
  · exact .refl p

theorem pressuresKept_modeOnFreshAgain (p : Part) : PressuresKept p p.modeOnFreshAgain := by
  unfold Part.modeOnFreshAgain
  split
  · exact pressuresKept_setControl rfl
  · exact .refl p

theorem pressuresKept_modeOnValidRecord (p : Part) (pedal : Nat) : PressuresKept p (p.modeOnValidRecord pedal) :=
  (pressuresKept_flagged rfl _).ite (.refl p)

theorem pressuresKept_recoveryExpiry (p : Part) : PressuresKept p p.recoveryExpiry :=
  (pressuresKept_flagged rfl _).ite (.refl p)

theorem pressuresKept_judgeStandDown (p : Part) : PressuresKept p p.judgeStandDown := by
  unfold Part.judgeStandDown
  split
  · exact (pressuresKept_changeMode p _).ite (.refl p)
  · exact .refl p

theorem pressuresKept_motionTimerExpiry (p : Part) : PressuresKept p p.motionTimerExpiry := by
  rw [Part.motionTimerExpiry_eq]
  exact PressuresKept.ite ((DemandsKept.refl p).madeStale.pressures.trans (pressuresKept_modeOnStale _)) (.refl p)

theorem pressuresKept_pass (p : Part) : PressuresKept p p.pass := by
  have passed : DemandsKept p p.runPass.startPassTimer :=
    (DemandsKept.refl p).runPass.framed ⟨rfl, rfl, rfl, rfl, rfl, rfl, rfl⟩
  exact PressuresKept.ite (passed.pressures.trans (pressuresKept_judgeStandDown _)) (.refl p)

/-! ## A MOTION record (R42 to R53) -/

theorem pressuresKept_takeValid (p : Part) (l : LimitedRecord) (v : Nat) : PressuresKept p (p.takeValid l v) := by
  have refreshed : DemandsKept p (p.publishRoad l v).refresh := ((DemandsKept.refl p).setMotion _).refresh
  have handed := (refreshed.handOn (x := .slipRecord v ((p.publishRoad l v).refresh.driveSpeed l.wheels)
    (!((p.publishRoad l v).refresh.nonDrivenSpeeds l.wheels).isEmpty)) fun _ => rfl).needCapacities
  have keeps : PressuresKept p _ := handed.pressures
  exact ((keeps.trans (pressuresKept_modeOnFreshAgain _)).ite keeps).trans (pressuresKept_modeOnValidRecord _ _)

theorem pressuresKept_takeMotion (p : Part) (r : MotionRecord) : PressuresKept p (p.takeMotion r) := by
  unfold Part.takeMotion
  split
  · exact (DemandsKept.refl p).countClamped.pressures
  · have counted : DemandsKept p (if (p.limitRecord r).changed then p.countClamped else p) :=
      (DemandsKept.refl p).countClamped.ite (.refl p)
    have judged := counted.foldl (fun _ a h => h.judgeSpeedMissing (p.limitRecord r).wheels a)
    have checked := fun axles reference => (((judged axles).publishEngine (p.limitRecord r)).driveCheck reference
      (p.limitRecord r).engine (p.limitRecord r).gear (p.limitRecord r).clutch).handOn
        (x := .demandRecord (p.limitRecord r).pedal (p.limitRecord r).lever reference) fun _ => rfl
    dsimp only
    split
    · exact (checked _ _).pressures.trans (pressuresKept_takeValid _ _ _)
    · exact (checked _ _).pressures

/-! ## The acceptance of the chassis record (R5) -/

/-- Without a record every p_max is 0, and so is every demand: none of them exceeds the record's p_max. -/
theorem pressuresKept_acceptChassis {p : Part} {c : ChassisRecord} (unset : p.store.chassis = none) :
    PressuresKept p (p.acceptChassis c) := by
  refine ⟨fun lawful => ?_⟩
  have pMax : ∀ a, (p.axleDesc a).pMax = 0 := fun a => by simp [Part.axleDesc, unset]
  have started : PressuresLawful (p.described c).startThermal.startFade :=
    { channel := fun a => by
        simpa [Part.startThermal, Part.startFade] using ChannelHeld.unrouted (c := .created) rfl rfl rfl rfl
      absent := fun a _ => by simp [Part.startThermal, Part.startFade, Channel.created]
      service := fun a => by
        have none_ := lawful.service a
        rw [pMax a, Nat.zero_mul] at none_
        exact none_.trans (Nat.zero_le _)
      demand := fun a => (lawful.demand a).trans (by rw [pMax a]; exact Nat.zero_le _)
      handed := fun a h mem => (lawful.handed a h mem).trans (by rw [pMax a]; exact Nat.zero_le _) }
  rw [Part.acceptChassis_eq]
  exact ((DemandsKept.refl _).setMass _).flapAtAcceptance.needCapacities.lawful started

theorem pressuresKept_chassisRequest (p : Part) (c : ChassisRecord) : PressuresKept p (p.chassisRequest c).1 := by
  have keeps : PressuresKept p p := .refl p
  unfold Part.chassisRequest
  split
  · exact keeps
  · split
    · exact keeps
    · split
      · exact keeps
      · next unset =>
        split
        · exact keeps
        · split
          · exact keeps
          · split
            · exact keeps
            · exact pressuresKept_acceptChassis (by simpa using unset)

/-! ## The two resets (R153, R177, R178) -/

/-- A warm reset leaves no channel COMMANDED, and no demand (R153). -/
theorem ChannelHeld.warm {runs : Bool} {pMax : Nat} {c : Channel} (h : ChannelHeld runs pMax c) :
    ChannelHeld false pMax c.warm := by
  unfold Channel.warm
  split
  · next unrouted =>
    have state := h.routed.mpr unrouted
    exact { h with commanded := by simp [state] }
  · next stage => exact .entered (st := .backup) (by simp [stage]) (by simp) rfl rfl rfl
  · next node => exact .entered (st := .backup) (by simp [node]) (by simp) rfl rfl rfl

theorem demandsHeld_warmChannels {runs : Bool} {p : Part} (held : DemandsHeld runs p) :
    DemandsHeld false p.warmChannels where
  channel a := by
    rw [Part.warmChannels, Axles.get_map]
    exact (held.channel a).warm
  absent a none_ := by
    rw [Part.warmChannels, Axles.get_map, Channel.warm_route]
    exact held.absent a none_
  service := held.service
  demand := held.demand
  handed := held.handed

theorem DemandsKept.warmDemand {p q : Part} (h : DemandsKept p q) : DemandsKept p q.warmDemand := h.setDemand _

theorem DemandsKept.warmMotion {p q : Part} (h : DemandsKept p q) : DemandsKept p q.warmMotion := h.setMotion _

theorem DemandsKept.warmShares {p q : Part} (h : DemandsKept p q) : DemandsKept p q.warmShares :=
  h.stopApportioner.framed ⟨rfl, rfl, rfl, rfl, rfl, rfl, rfl⟩

theorem DemandsKept.warmThermal {p q : Part} (h : DemandsKept p q) : DemandsKept p q.warmThermal := h.setThermal _

theorem DemandsKept.warmRetarder {p q : Part} (h : DemandsKept p q) : DemandsKept p q.warmRetarder :=
  h.framed ⟨rfl, rfl, rfl, rfl, rfl, rfl, rfl⟩

/-- What the clears, the link and the hand-offs of a pass and of the link lose is no demand that is held. -/
theorem demandsHeld_warmLink {runs : Bool} {p : Part} (held : DemandsHeld runs p) (gone : Lane → Bool) :
    DemandsHeld runs (p.warmLink.warmClear.discardLanes gone) :=
  ⟨held.channel, held.absent, held.service, held.demand, fun a h mem => held.handed a h (List.mem_filter.mp mem).1⟩

theorem demandsHeld_warmBlocks {p : Part} (held : DemandsHeld true p) : DemandsHeld false p.warmBlocks := by
  have stopped := (DemandsKept.refl p).abandonTable.warmDemand.warmMotion.warmShares.warmThermal.warmRetarder
  exact demandsHeld_warmLink (demandsHeld_warmChannels (stopped.flapAtWarmReset.held true (fun _ => rfl) held))
    fun l => l.ofPass || l.ofLink

theorem demandsHeld_warmMode {runs : Bool} {p : Part} (held : DemandsHeld runs p) : DemandsHeld runs p.warmMode := by
  unfold Part.warmMode
  dsimp only
  generalize (if p.missingItem.isNone = true then Mode.standby else .config) = new
  split
  · exact held.setControl _
  · exact ⟨held.channel, held.absent, held.service, held.demand, held.handed⟩

theorem pressuresKept_warmReset (p : Part) : PressuresKept p p.warmReset := by
  refine ⟨fun lawful => ?_⟩
  have stopped := demandsHeld_warmMode (demandsHeld_warmBlocks (lawful.mono fun _ => rfl))
  rw [Part.warmReset_eq]
  generalize p.warmBlocks.warmMode = q at stopped ⊢
  have judged := (DemandsKept.refl q).retotal.judgeAlarm.foldl (fun _ a h => h.judgeChannel a) Axle.all
  have sent := judged.needCapacities.framed (r := (List.foldl Part.judgeChannel q.retotal.judgeAlarm
    Axle.all).needCapacities.sendRetarder ⟨false, 0⟩) (by simp)
  exact (sent.foldl (fun _ a h => h.postTarget a) Axle.all).lawful (pressuresLawful_of_stopped stopped)

theorem pressuresKept_resetWarm (p : Part) (tag : Byte) : PressuresKept p (p.resetWarm tag) :=
  ((PressuresKept.refl p).answer _ _ _).trans (pressuresKept_warmReset _)

theorem pressuresLawful_cold (closed : Bool) (phase : LinkPhase) : PressuresLawful (Part.cold closed phase) where
  channel a := by simpa [Part.cold] using ChannelHeld.unrouted (c := .created) rfl rfl rfl rfl
  absent a _ := by simp [Part.cold, Channel.created]
  service a := by simp [Part.cold, Capacity.cold]
  demand a := by simp [Part.cold, Apportioner.cold]
  handed a := nofun

/-! ## Frames, commands and steps -/

theorem pressuresKept_takeRequest (p : Part) (i : Instr) : PressuresKept p (p.takeRequest i) := by
  have k := DemandsKept.refl p
  cases i with
  | chassis tag record => exact (pressuresKept_chassisRequest p record).answer _ _ _
  | settings tag pairs => exact (k.settingsRequest pairs).pressures.answer _ _ _
  | tableOpen tag table start => exact (k.tableOpen table start).pressures.answer _ _ _
  | tableData tag fields => exact (k.tableData fields).pressures.answer _ _ _
  | tableClose tag => exact k.tableClose.pressures.answer _ _ _
  | tableRead tag table first count => exact (k.tableRead table first count).pressures.answer _ _ _
  | route tag axles retarder => exact (k.routeRequest axles retarder).pressures.answer _ _ _
  | mask tag flags => exact (k.setMask flags).pressures.answer _ _ _
  | seedTemps tag temps => exact (k.seedTemps temps).pressures.answer _ _ _
  | start tag => exact (pressuresKept_start p).answer _ _ _
  | standDown tag => exact (pressuresKept_standDown p).answer _ _ _
  | resetWarm tag => exact pressuresKept_resetWarm p tag
  | holdSet tag setpoint => exact (k.holdSet setpoint).pressures.answer _ _ _
  | holdCancel tag => exact k.cancelHold.pressures.answer _ _ _
  | assist tag requester decel hold => exact (k.assist requester decel hold).pressures.answer _ _ _
  | assistCancel tag requester => exact (k.assistCancel requester).pressures.answer _ _ _
  | mass tag kg => exact (k.mass kg).pressures.answer _ _ _
  | queryCapacities tag => exact (PressuresKept.refl p).answer _ _ _
  | queryAxles tag => exact (PressuresKept.refl p).answer _ _ _
  | queryFaults tag => exact (PressuresKept.refl p).answer _ _ _
  | queryEngagements tag => exact (PressuresKept.refl p).answer _ _ _
  | queryAssist tag => exact (PressuresKept.refl p).answer _ _ _
  | queryChassis tag => exact (PressuresKept.refl p).answer _ _ _
  | querySettings tag => exact (PressuresKept.refl p).answer _ _ _
  | queryRoute tag => exact (PressuresKept.refl p).answer _ _ _
  | motion record => exact pressuresKept_takeMotion p record
  | clearFaults tag sources => exact (k.clearFaults tag sources).pressures
  | _ => exact .refl p

theorem pressuresKept_takeFrame (p : Part) (kind tag : Byte) (payload : List Byte) :
    PressuresKept p (p.takeFrame kind tag payload) := by
  unfold Part.takeFrame
  split
  · exact (PressuresKept.refl p).answer _ _ _
  · exact (PressuresKept.refl p).answer _ _ _
  · exact (PressuresKept.refl p).answer _ _ _
  · exact pressuresKept_takeRequest p _

/-- The Vehicle Link Interface's items are no concern of the laws. -/
theorem pressuresKept_setLink (p : Part) (vl : VehicleLink) : PressuresKept p { p with vl := vl } :=
  ((DemandsKept.refl p).framed (r := { p with vl := vl }) ⟨rfl, rfl, rfl, rfl, rfl, rfl, rfl⟩).pressures

theorem pressuresKept_abandonFrame (p : Part) : PressuresKept p p.abandonFrame := pressuresKept_setLink p _

theorem pressuresKept_huntByte (p : Part) (b : Byte) : PressuresKept p (p.huntByte b) :=
  (pressuresKept_setLink p _).ite (.refl p)

theorem pressuresKept_completeFrame (p : Part) (bytes : List Byte) : PressuresKept p (p.completeFrame bytes) := by
  unfold Part.completeFrame
  dsimp only
  split
  · exact (pressuresKept_setLink p _).trans (pressuresKept_takeFrame _ _ _ _)
  · exact pressuresKept_abandonFrame p

theorem pressuresKept_frameByte (p : Part) (bytes : List Byte) (b : Byte) : PressuresKept p (p.frameByte bytes b) :=
  (pressuresKept_abandonFrame p).ite ((pressuresKept_completeFrame p _).ite (pressuresKept_setLink p _))

theorem pressuresKept_receiveByte (p : Part) (x : LineByte) : PressuresKept p (p.receiveByte x) := by
  unfold Part.receiveByte
  split
  · exact pressuresKept_huntByte p _
  · split
    · exact (pressuresKept_abandonFrame p).trans (pressuresKept_huntByte _ _)
    · exact pressuresKept_frameByte p _ _

theorem pressuresKept_receiveBytes (p : Part) (received : List LineByte) :
    PressuresKept p (p.receiveBytes received) := by
  induction received generalizing p with
  | nil => exact .refl p
  | cons x rest ih => exact (pressuresKept_receiveByte p x).trans (ih _)

theorem pressuresKept_frameAbandoned (p : Part) (received : List LineByte) :
    PressuresKept p (p.frameAbandoned received) := by
  cases received with
  | nil => exact (pressuresKept_abandonFrame p).ite (.refl p)
  | cons x rest => exact pressuresKept_receiveBytes p (x :: rest)

/-- Every command keeps both laws of the pressure demands; a cold reset leaves a part that meets them outright. -/
theorem exec_keeps_pressures (c : Instr) (s : State) :
    ∃ q, exec c s = .next { s with part := q } ∧ PressuresKept s.part q := by
  have k := DemandsKept.refl s.part
  have request := pressuresKept_takeRequest s.part c
  cases c with
  | coldReset => exact ⟨_, rfl, ⟨fun _ => pressuresLawful_cold s.part.fswClosed s.part.coldPhase⟩⟩
  | speedHoldUpdate => exact ⟨_, rfl, k.speedHoldUpdate.pressures⟩
  | slipEvaluation => exact ⟨_, rfl, k.slipEvaluation.pressures⟩
  | capacityRecomputation => exact ⟨_, rfl, k.capacityRecomputation.pressures⟩
  | motionTimerExpiry => exact ⟨_, rfl, pressuresKept_motionTimerExpiry s.part⟩
  | recoveryExpiry => exact ⟨_, rfl, pressuresKept_recoveryExpiry s.part⟩
  | assistExpiry requester => exact ⟨_, rfl, (k.assistExpiry requester).pressures⟩
  | holdoffExpiry => exact ⟨_, rfl, k.holdoffExpiry.pressures⟩
  | vehicleLinkFrame received => exact ⟨_, rfl, pressuresKept_receiveBytes s.part received⟩
  | frameAbandoned received => exact ⟨_, rfl, pressuresKept_frameAbandoned s.part received⟩
  | statusReport => exact ⟨_, rfl, k.statusReport.pressures⟩
  | pass => exact ⟨_, rfl, pressuresKept_pass s.part⟩
  | rotationTimerExpiry => exact ⟨_, rfl, k.rotationTimerExpiry.pressures⟩
  | thermalUpdate => exact ⟨_, rfl, k.thermalUpdate.pressures⟩
  | retarderWant => exact ⟨_, rfl, k.retarderWantTaken.pressures⟩
  | retarderNodeState => exact ⟨_, rfl, k.retarderNodeStateTaken.pressures⟩
  | fillTimerExpiry => exact ⟨_, rfl, k.fillTimerExpiry.pressures⟩
  | drainTimerExpiry => exact ⟨_, rfl, k.drainTimerExpiry.pressures⟩
  | retarderNodeLost => exact ⟨_, rfl, k.retarderNodeLostTaken.pressures⟩
  | exhaustWant => exact ⟨_, rfl, k.exhaustWantTaken.pressures⟩
  | flapSwitchChange e => exact ⟨_, rfl, (k.flapSwitchChange e).pressures⟩
  | flapTimerExpiry => exact ⟨_, rfl, k.flapTimerExpiry.pressures⟩
  | pressureDemand axle => exact ⟨_, rfl, (k.pressureDemand axle).pressures⟩
  | localSample axle kPa => exact ⟨_, rfl, (k.localSample axle kPa).pressures⟩
  | remoteMeasurement axle => exact ⟨_, rfl, (k.remoteMeasurement axle).pressures⟩
  | channelPresenceChange axle => exact ⟨_, rfl, (k.channelPresenceChange axle).pressures⟩
  | trackingTimerExpiry axle => exact ⟨_, rfl, (k.trackingTimerExpiry axle).pressures⟩
  | pollTimerExpiry addr => exact ⟨_, rfl, (k.pollTimerExpiry addr).pressures⟩
  | commandFrameSent => exact ⟨_, rfl, k.commandFrameSent.pressures⟩
  | actuatorAnswer received => exact ⟨_, rfl, (k.actuatorAnswer received).pressures⟩
  | answerTimeout => exact ⟨_, rfl, k.answerTimeout.pressures⟩
  | abandonedWindowEnd => exact ⟨_, rfl, k.abandonedWindowEnd.pressures⟩
  | transmitFrameSent => exact ⟨_, rfl, pressuresKept_setLink s.part _⟩
  | _ => exact ⟨_, rfl, request⟩

theorem exec_next_keeps_pressures {c : Instr} {s t : State} (h : exec c s = .next t) : PressuresKept s.part t.part := by
  obtain ⟨q, next, kept⟩ := exec_keeps_pressures c s
  cases next.symm.trans h
  exact kept

/-- One step, whether a command waits, an event of the part comes next, or 1 ms passes. -/
theorem step_keeps_pressures {s t : State} (h : step s = .next t) : PressuresKept s.part t.part := by
  unfold step at h
  split at h
  · have kept := exec_next_keeps_pressures h
    exact kept
  · split at h
    · exact exec_next_keeps_pressures h
    · cases h
      exact ((DemandsKept.refl s.part).framed (r := s.part.tick) (by simp)).pressures

/-- Settles O54: every command, every event of the part and the passing of time keep the pressure demands within p_max
and the channels in the states that their demands call for. -/
theorem pressuresStayWithinPmax : Obligations.PressuresStayWithinPmax :=
  fun _ _ h held => pressuresLawful_iff.mp ((step_keeps_pressures h).lawful (pressuresLawful_iff.mpr held))

end Sys2Proof.Machine
end

section
/-! PROOF. A recomputation of the capacities (R59, R60): what the Capacity Unit takes, and what it forms anew. Then
the oil derate, the retarder capacity and its zero reason (R66, R67), and the exhaust capacity and its zero reason (R62,
R63). -/

namespace Sys2Proof.Machine

/-! ## The event that is taken (R59) -/

section

variable {p : Part} {l r : List Handoff}

/-- The part once the Capacity Unit has taken the oldest event handed to it. -/
def Part.recomputed (p : Part) (handed : List Handoff) : Part := Part.recompute { p with handed := handed }

theorem Part.capacityRecomputation_of_oldest (handed : p.handed = l ++ .recompute :: r)
    (older : ∀ h ∈ l, h.lane ≠ .capacity) : p.capacityRecomputation = p.recomputed (l ++ r) := by
  rw [Part.capacityRecomputation, Part.waiting_of_oldest (lane := .capacity) handed rfl older, Part.recomputed,
    ← Part.taken_of_oldest (lane := .capacity) handed rfl older]

theorem exec_capacityRecomputation_of_oldest {s : State} (handed : s.part.handed = l ++ .recompute :: r)
    (older : ∀ h ∈ l, h.lane ≠ .capacity) :
    exec .capacityRecomputation s = .next { s with part := s.part.recomputed (l ++ r) } :=
  State.next_congr (Part.capacityRecomputation_of_oldest handed older)

/-- Every item is formed from the blocks as they stand; what waits to be taken is no input (R60). -/
@[simp] theorem Part.recomputed_items (p : Part) (handed : List Handoff) :
    (p.recomputed handed).cap.items = p.capacities := Part.recompute_items _

end

/-! ## The conditions as the manual states them -/

section

variable {p : Part}

theorem Part.retarderFitted_iff : p.retarderFitted = true ↔ p.store.chassis.map (·.retarderFitted) = some 1 := by
  cases chassis : p.store.chassis <;> simp [Part.retarderFitted, chassis]

theorem Part.exhaustFitted_iff : p.exhaustFitted = true ↔ p.store.chassis.map (·.exhaustFitted) = some 1 := by
  cases chassis : p.store.chassis <;> simp [Part.exhaustFitted, chassis]

theorem Part.tableValid_iff {id : TableId} : p.tableValid id = true ↔ (p.table id).state = .valid := decide_eq_true_iff

theorem Part.retarderPresent_iff : p.retarderPresent = true ↔ p.retarderNode.map (·.presence) = some .present := by
  cases node : p.retarderNode <;> simp [Part.retarderPresent, node]

theorem Part.retarderReported_iff : p.retarderReported = true ↔ p.retarderNode.map (·.reported) = some true := by
  cases node : p.retarderNode <;> simp [Part.retarderReported, node]

theorem Part.oilAtCutout_eq (p : Part) :
    p.oilAtCutout = p.cap.items.oilTemp.any fun t => decide ((p.setting idCutout : Int) ≤ t) := by
  cases oil : p.cap.items.oilTemp <;> simp [Part.oilAtCutout, oil]

theorem Part.reference_isNone_iff : p.reference.isNone = true ↔ p.motion.road = none := by
  simp [Part.reference]

theorem Part.flapFaultedOpen_iff :
    p.flapFaultedOpen = true ↔ p.flap.state = .faulted ∧ p.flap.switchClosed = false := by
  simp [Part.flapFaultedOpen]

end

/-! ## The oil derate (R66) -/

section

variable {t : Int} {start cutout : Nat}

theorem oilDerate_of_cool (cool : t ≤ start) : oilDerate (some t) start cutout = 1000 := if_pos cool

theorem oilDerate_of_cutout (warm : (start : Int) < t) (hot : (cutout : Int) ≤ t) :
    oilDerate (some t) start cutout = 0 := by
  rw [oilDerate, if_neg (Int.not_le.mpr warm), if_pos hot]

/-- Between the derate start and the cutout the derate is the manual's quotient, which stays below 1000 ‰. -/
theorem oilDerate_between (warm : (start : Int) < t) (below : t < cutout) :
    (oilDerate (some t) start cutout : Int) = 1000 - (t - start) * 1000 / (cutout - start) := by
  obtain ⟨n, above⟩ : ∃ n : Nat, t - start = n := ⟨(t - start).toNat, by omega⟩
  have range : ((cutout - start : Nat) : Int) = cutout - start := by omega
  have lost : n * 1000 / (cutout - start) ≤ 1000 :=
    Nat.div_le_of_le_mul (Nat.mul_le_mul_right 1000 (by omega))
  have derate : oilDerate (some t) start cutout = 1000 - n * 1000 / (cutout - start) := by
    rw [oilDerate, if_neg (Int.not_le.mpr warm), if_neg (Int.not_le.mpr below), above]
    rfl
  rw [derate, above, ← range, Int.ofNat_sub lost]
  push_cast
  rfl

end

/-! ## The retarder capacity (R67) -/

section

variable {p : Part}

theorem Part.retarderCapacity_of_barred (barred : p.retarderBar ≠ .nothing) : p.retarderCapacity = 0 := if_neg barred

theorem Part.retarderReason_of_barred (barred : p.retarderBar ≠ .nothing) : p.retarderReason = p.retarderBar :=
  if_neg fun free => barred free.1

theorem Part.retarderCapacity_of_free (free : p.retarderBar = .nothing) :
    p.retarderCapacity = p.retarderCurveValue * p.derate / 1000 := if_pos free

theorem Part.retarderReason_of_free (free : p.retarderBar = .nothing) :
    p.retarderReason = if p.retarderCapacity = 0 then .noForce else .nothing := by
  rw [Part.retarderReason, free]
  simp only [true_and]

end

/-- Settles O22: the derate by the range of the oil temperature, and the conditions of R67 one by one. -/
theorem retarderCapacityAndReason : Obligations.RetarderCapacityAndReason := by
  intro s l r handed older q oil start cutout node bar
  have barIs : bar = q.retarderBar := by
    simp only [bar, Part.retarderBar, Bool.not_eq_true', ← Bool.not_eq_true, Part.retarderFitted_iff,
      Part.tableValid_iff, Part.retarderPresent_iff, Part.retarderReported_iff, Part.oilAtCutout_eq,
      Part.reference_isNone_iff]
    rfl
  refine ⟨_, exec_capacityRecomputation_of_oldest handed older, fun none_ => ?_, fun t held => ⟨fun cool => ?_,
    fun warm hot => ?_, fun warm below => ?_⟩, fun barred => ?_, fun free => ?_⟩
  all_goals rw [Part.recomputed_items]
  · change oilDerate oil _ _ = 1000
    rw [none_]
    rfl
  · change oilDerate oil _ _ = 1000
    rw [held, oilDerate_of_cool cool]
  · change oilDerate oil _ _ = 0
    rw [held, oilDerate_of_cutout warm hot]
  · change (oilDerate oil _ _ : Int) = _
    rw [held, oilDerate_between warm below]
  · rw [barIs] at barred ⊢
    exact ⟨Part.retarderCapacity_of_barred barred, Part.retarderReason_of_barred barred⟩
  · rw [barIs] at free
    exact ⟨Part.retarderCapacity_of_free free, Part.retarderReason_of_free free⟩

/-! ## The exhaust capacity (R62, R63) -/

section

variable {p : Part} {c : ChassisRecord} {g : Nat}

/-- The ratio of a gear that the VALID gear table holds. -/
theorem Part.gearRatio_of_held (valid : (p.table .gearTable).state = .valid) (low : 1 ≤ g)
    (held : g ≤ p.store.gearCount) : p.gearRatio g =
      (((p.table .gearTable).entry (g - 1)).first, ((p.table .gearTable).entry (g - 1)).second) := by
  have count : p.gearCount = p.store.gearCount := if_pos (Part.tableValid_iff.mpr valid)
  exact if_pos ⟨low, count ▸ held⟩

/-- The condition that zeroes the exhaust capacity, once the record is known (R63). -/
theorem Part.exhaustBar_of_chassis (chassis : p.store.chassis = some c) : p.exhaustBar =
    if c.exhaustFitted ≠ 1 then .unfitted
    else if (p.table .exhaustCurve).state ≠ .valid ∨ (p.table .gearTable).state ≠ .valid then .noTable
    else if p.flap.state = .faulted ∧ p.flap.switchClosed = false then .flapFaultedOpen
    else if p.motion.driveline = .decoupled then .notCoupled
    else if p.motion.driveline ≠ .confirmed then .notConfirmed
    else if p.motion.engine.speed < c.exhaustMin then .lowEngineSpeed else .nothing := by
  simp [Part.exhaustBar, Part.exhaustFitted, Part.tableValid, Part.flapFaultedOpen, chassis]

theorem Part.exhaustCapacity_of_barred (barred : p.exhaustBar ≠ .nothing) : p.exhaustCapacity = 0 := if_neg barred

theorem Part.exhaustReason_of_barred (barred : p.exhaustBar ≠ .nothing) : p.exhaustReason = p.exhaustBar :=
  if_neg fun free => barred free.1

theorem Part.exhaustReason_of_free (free : p.exhaustBar = .nothing) :
    p.exhaustReason = if p.exhaustCapacity = 0 then .noTorque else .nothing := by
  rw [Part.exhaustReason, free]
  simp only [true_and]

/-- With nothing that bars the exhaust, the gear table is VALID. -/
theorem Part.gearTable_valid_of_free (free : p.exhaustBar = .nothing) : (p.table .gearTable).state = .valid := by
  unfold Part.exhaustBar at free
  split at free
  · cases free
  · split at free
    · cases free
    · next tables =>
      simp only [Bool.or_eq_true, Bool.not_eq_true', not_or, Bool.not_eq_false] at tables
      exact Part.tableValid_iff.mp tables.2

theorem Part.exhaustCapacity_of_free (free : p.exhaustBar = .nothing) (chassis : p.store.chassis = some c)
    (gear : p.motion.engine.gear = .forward g) (low : 1 ≤ g) (held : g ≤ p.store.gearCount) :
    p.exhaustCapacity = min (p.exhaustTorqueFor p.motion.engine.speed * 100 *
      ((p.table .gearTable).entry (g - 1)).first * c.ma /
        (((p.table .gearTable).entry (g - 1)).second * c.na * c.radius)) 20000 := by
  have ratio := Part.gearRatio_of_held (Part.gearTable_valid_of_free free) low held
  rw [Part.exhaustCapacity, if_pos free, gear]
  simp only [Part.exhaustForceIn, chassis, ratio]
  rfl

end

/-- Settles O21: the conditions of R63 one by one, and the torque taken through the gear. -/
theorem exhaustCapacityAndReason : Obligations.ExhaustCapacityAndReason := by
  intro s l r handed older q bar
  have barIs : bar = q.exhaustBar := by
    cases chassis : q.store.chassis with
    | none => simp [bar, Part.exhaustBar, Part.exhaustFitted, chassis]
    | some c =>
      rw [Part.exhaustBar_of_chassis chassis]
      cases driveline : q.motion.driveline <;> simp [bar, chassis, driveline]
  refine ⟨_, exec_capacityRecomputation_of_oldest handed older, fun barred => ?_, fun free => ⟨?_,
    fun c chassis g gear low held => ?_⟩⟩
  all_goals
    rw [Part.recomputed_items]
    rw [barIs] at *
  · exact ⟨Part.exhaustCapacity_of_barred barred, Part.exhaustReason_of_barred barred⟩
  · exact Part.exhaustReason_of_free free
  · exact Part.exhaustCapacity_of_free free chassis gear low held

end Sys2Proof.Machine
end

section
/-! PROOF. The exhaust and retarder curves at a recomputation (R61, R65): below the first point, between two points and
from the last point on. -/

namespace Sys2Proof.Machine

/-! ## A straight line between two points -/

/-- The line between two points, rounded toward the earlier one whether it rises or falls. -/
theorem interpolate_eq {x x0 x1 : Nat} (from_ : x0 ≤ x) (below : x < x1) (y0 y1 : Nat) :
    (interpolate x x0 y0 x1 y1 : Int) =
      y0 + (((x : Int) - x0) * ((y1 : Int) - y0)).tdiv ((x1 : Int) - x0) := by
  have run : ((x - x0 : Nat) : Int) = x - x0 := by omega
  have range : ((x1 - x0 : Nat) : Int) = x1 - x0 := by omega
  rw [← run, ← range]
  unfold interpolate
  split
  · next rising =>
    have rise : ((y1 - y0 : Nat) : Int) = y1 - y0 := by omega
    rw [← rise]
    rfl
  · next falling =>
    have drop : ((y1 : Int) - y0) = -((y0 - y1 : Nat) : Int) := by omega
    have lost : (x - x0) * (y0 - y1) / (x1 - x0) ≤ y0 :=
      (Nat.div_le_of_le_mul (Nat.mul_le_mul_right _ (by omega))).trans (Nat.sub_le y0 y1)
    rw [drop, Int.mul_neg, Int.neg_tdiv, Int.ofNat_sub lost]
    rfl

/-! ## A curve of increasing points -/

section

variable {e : Nat → Entry} {m : Nat} {x : Nat}

/-- A curve through the points 0 to m. -/
def curveThrough (e : Nat → Entry) (m : Nat) : List Entry := (List.range (m + 1)).map e

theorem curveThrough_succ (e : Nat → Entry) (m : Nat) :
    curveThrough e (m + 1) = e 0 :: curveThrough (fun k => e (k + 1)) m := by
  simp only [curveThrough, List.range_succ_eq_map (n := m + 1), List.map_cons, List.map_map]
  rfl

theorem curveThrough_eq_cons (e : Nat → Entry) (m : Nat) : ∃ rest, curveThrough e m = e 0 :: rest :=
  ⟨_, by rw [curveThrough, List.range_succ_eq_map, List.map_cons]⟩

theorem first_le_of_increasing (increasing : ∀ k < m, (e k).first < (e (k + 1)).first) {i j : Nat} (before : i ≤ j)
    (within : j ≤ m) : (e i).first ≤ (e j).first := by
  induction j, before using Nat.le_induction with
  | base => exact Nat.le_refl _
  | succ j _ ih => exact (ih (by omega)).trans (increasing j within).le

/-- The part of the curve after its first point holds a value at or beyond the second. -/
theorem curveWithin_succ (e : Nat → Entry) (m : Nat) (x : Nat) : curveWithin x (curveThrough e (m + 1)) =
    if x < (e 1).first then interpolate x (e 0).first (e 0).second (e 1).first (e 1).second
    else curveWithin x (curveThrough (fun k => e (k + 1)) m) := by
  obtain ⟨rest, points⟩ := curveThrough_eq_cons (fun k => e (k + 1)) m
  rw [curveThrough_succ, points]
  rfl

theorem curveWithin_of_beyond (increasing : ∀ k < m, (e k).first < (e (k + 1)).first) (beyond : (e m).first ≤ x) :
    curveWithin x (curveThrough e m) = (e m).second := by
  induction m generalizing e with
  | zero => rfl
  | succ m ih =>
    have second : (e 1).first ≤ (e (m + 1)).first := first_le_of_increasing increasing (by omega) (Nat.le_refl _)
    rw [curveWithin_succ, if_neg (by omega)]
    exact ih (fun k hk => increasing (k + 1) (by omega)) beyond

theorem curveWithin_of_between (increasing : ∀ k < m, (e k).first < (e (k + 1)).first) {k : Nat} (within : k < m)
    (from_ : (e k).first ≤ x) (below : x < (e (k + 1)).first) : curveWithin x (curveThrough e m) =
      interpolate x (e k).first (e k).second (e (k + 1)).first (e (k + 1)).second := by
  induction m generalizing e k with
  | zero => omega
  | succ m ih =>
    rw [curveWithin_succ]
    cases k with
    | zero => exact if_pos below
    | succ k =>
      have second : (e 1).first ≤ (e (k + 1)).first := first_le_of_increasing increasing (by omega) within.le
      rw [if_neg (by omega)]
      exact ih (fun j hj => increasing (j + 1) (by omega)) (by omega) from_ below

/-! ## The two curves (R61, R65) -/

theorem exhaustTorqueAt_eq (e : Nat → Entry) (m n : Nat) : exhaustTorqueAt (curveThrough e m) n =
    if n < (e 0).first then 0 else curveWithin n (curveThrough e m) := by
  obtain ⟨rest, points⟩ := curveThrough_eq_cons e m
  rw [points]
  rfl

theorem retarderForceAt_eq (e : Nat → Entry) (m v : Nat) : retarderForceAt (curveThrough e m) v =
    if v < (e 0).first then (e 0).second * v / (e 0).first else curveWithin v (curveThrough e m) := by
  obtain ⟨rest, points⟩ := curveThrough_eq_cons e m
  rw [points]
  rfl

/-- A curve of increasing points has the last point's value from the last point on, and a straight line between two
points. -/
theorem curve_from_first (increasing : ∀ k < m, (e k).first < (e (k + 1)).first) :
    ((e m).first ≤ x → (e 0).first ≤ x ∧ curveWithin x (curveThrough e m) = (e m).second) ∧
      ∀ k < m, (e k).first ≤ x → x < (e (k + 1)).first → (e 0).first ≤ x ∧
        (curveWithin x (curveThrough e m) : Int) = (e k).second + (((x : Int) - (e k).first) *
          (((e (k + 1)).second : Int) - (e k).second)).tdiv ((e (k + 1)).first - (e k).first) := by
  refine ⟨fun beyond => ⟨?_, curveWithin_of_beyond increasing beyond⟩, fun k within from_ below => ⟨?_, ?_⟩⟩
  · exact (first_le_of_increasing increasing (Nat.zero_le m) (Nat.le_refl m)).trans beyond
  · exact (first_le_of_increasing increasing (Nat.zero_le k) within.le).trans from_
  · rw [curveWithin_of_between increasing within from_ below, interpolate_eq from_ below]

end

section

variable {p : Part}

theorem Part.retarderCurveValue_of_unread
    (unread : (p.table .retarderCurve).state ≠ .valid ∨ p.motion.road = none) : p.retarderCurveValue = 0 := by
  unfold Part.retarderCurveValue Part.reference
  cases road : p.motion.road with
  | none => rfl
  | some d =>
    have notValid : (p.table .retarderCurve).state ≠ .valid := by simpa [road] using unread
    exact if_neg (mt Part.tableValid_iff.mp notValid)

theorem Part.retarderCurveValue_of_read {d : RoadData} (valid : (p.table .retarderCurve).state = .valid)
    (road : p.motion.road = some d) : p.retarderCurveValue =
      retarderForceAt (curveThrough (p.table .retarderCurve).entry 11) d.reference := by
  simp only [Part.retarderCurveValue, Part.reference, road, Option.map_some]
  exact if_pos (Part.tableValid_iff.mpr valid)

end

/-- Settles O20: the curve's part that holds the value, and the point that its line starts from. -/
theorem curvesAreInterpolated : Obligations.CurvesAreInterpolated := by
  intro s l r handed older between xe re n
  have torque : s.part.capacities.exhaustTorque =
      if s.part.tableValid .exhaustCurve then exhaustTorqueAt (curveThrough xe 7) n else 0 := rfl
  refine ⟨_, exec_capacityRecomputation_of_oldest handed older, fun notValid => ?_, fun valid increasing => ?_,
    fun unread => ?_, fun valid d road increasing => ?_⟩
  all_goals rw [Part.recomputed_items]
  · rw [torque, if_neg (mt Part.tableValid_iff.mp notValid)]
  · rw [torque, if_pos (Part.tableValid_iff.mpr valid), exhaustTorqueAt_eq]
    obtain ⟨last, line⟩ := curve_from_first (x := n) increasing
    refine ⟨fun below => if_pos below, fun beyond => ?_, fun k within from_ below => ?_⟩
    · obtain ⟨reached, value⟩ := last beyond
      rw [if_neg (Nat.not_lt.mpr reached), value]
    · obtain ⟨reached, value⟩ := line k within from_ below
      rw [if_neg (Nat.not_lt.mpr reached), value]
  · exact Part.retarderCurveValue_of_unread unread
  · have value : s.part.capacities.curveValue = retarderForceAt (curveThrough re 11) d.reference :=
      Part.retarderCurveValue_of_read valid road
    rw [value, retarderForceAt_eq]
    obtain ⟨last, line⟩ := curve_from_first (x := d.reference) increasing
    refine ⟨fun below => if_pos below, fun beyond => ?_, fun k within from_ below => ?_⟩
    · obtain ⟨reached, value⟩ := last beyond
      rw [if_neg (Nat.not_lt.mpr reached), value]
    · obtain ⟨reached, value⟩ := line k within from_ below
      rw [if_neg (Nat.not_lt.mpr reached), value]

end Sys2Proof.Machine
end

section
/-! PROOF. What a recomputation forms for each axle, OVERTEMP, and the advised gear (R68 to R72). -/

namespace Sys2Proof.Machine

section

variable {p : Part}

/-! ## OVERTEMP (R68) -/

/-- Without a held oil temperature, or with no retarder fitted, OVERTEMP is not judged. -/
theorem Part.judgeOvertemp_of_unjudged (unjudged : p.cap.items.oilTemp = none ∨ p.retarderFitted = false) :
    p.judgeOvertemp = p := by
  refine if_neg fun judged => ?_
  obtain ⟨held, fitted⟩ := (Bool.and_eq_true _ _).mp judged
  obtain none_ | unfitted := unjudged
  · simp [none_] at held
  · simp [unfitted] at fitted

/-- A judged OVERTEMP is present while the oil temperature is at the cutout, and the fault table follows its changes. -/
theorem Part.judgeOvertemp_of_judged {oil : Int} (held : p.cap.items.oilTemp = some oil)
    (fitted : p.retarderFitted = true) : p.judgeOvertemp.cap.overtempPresent = p.oilAtCutout ∧
      p.judgeOvertemp.faults = if p.oilAtCutout = p.cap.overtempPresent then p.faults
        else if p.oilAtCutout then (p.faults.occurred p.now .retarder .overtemp).1
        else (p.faults.ended .retarder .overtemp).1 := by
  have judged : (p.cap.items.oilTemp.isSome && p.retarderFitted) = true := by rw [held, fitted]; rfl
  rw [Part.judgeOvertemp, if_pos judged]
  cases hot : p.oilAtCutout <;> cases present : p.cap.overtempPresent <;>
    simp [present, Part.faultOccurs_faults, Part.faultEnds_faults]

theorem Part.judgeOvertemp_flags (p : Part) :
    p.judgeOvertemp.flags = { p.flags with faultsChanged := p.judgeOvertemp.flags.faultsChanged } := by
  unfold Part.judgeOvertemp
  split
  · split
    · exact Part.faultOccurs_flags _ _ _
    · exact Part.faultEnds_flags _ _ _
    · rfl
    · rfl
  · rfl

end

/-! ## The axles (R69, R70) -/

theorem sum_map_filter {α : Type} (l : List α) (f : α → Bool) (v : α → Nat) :
    ((l.filter f).map v).sum = (l.map fun a => if f a = true then v a else 0).sum := by
  induction l with
  | nil => rfl
  | cons a l ih => cases member : f a <;> simp [member, ih]

theorem Part.hasAxle_iff {p : Part} {a : Axle} : p.hasAxle a = true ↔ a.val < p.axleCount := decide_eq_true_iff

/-- What a recomputation forms for an axle of the coach. -/
theorem Part.capacities_of_axle {p : Part} {a : Axle} (axle : a.val < p.axleCount) :
    p.capacities.fade.get a = (p.thermal.axles.get a).tier.fadeFactor ∧
      p.capacities.service.get a = if (p.chan.get a).available
        then (p.axleDesc a).pMax * (p.axleDesc a).brakeFactor * (p.thermal.axles.get a).tier.fadeFactor / 100000
        else 0 := by
  have has := Part.hasAxle_iff.mpr axle
  simp [Part.capacities, Part.serviceCapacity, Part.fadeFactor, has]

theorem Part.unmaskedServiceSum_eq (p : Part) : p.unmaskedServiceSum = (Axle.all.map fun a =>
    if a.val < p.axleCount ∧ p.app.mask.get a = false then p.capacities.service.get a else 0).sum := by
  rw [Part.unmaskedServiceSum, Part.axles, List.filter_filter, sum_map_filter]
  simp [Part.capacities, and_comm, Part.hasAxle_iff]

/-! ## The advised gear (R71, R72) -/

section

variable {p : Part}

/-- The conditions of R71 beside the gear and the road data. -/
def Part.gearJudged (p : Part) : Prop :=
  p.store.chassis.map (·.exhaustFitted) = some 1 ∧ (p.table .exhaustCurve).state = .valid ∧
    (p.table .gearTable).state = .valid ∧ p.motion.driveline = .confirmed ∧
    ¬ (p.flap.state = .faulted ∧ p.flap.switchClosed = false)

theorem Part.gearJudged_iff : p.gearJudged ↔ (p.exhaustFitted && p.tableValid .exhaustCurve &&
    p.tableValid .gearTable && decide (p.motion.driveline = .confirmed) && !p.flapFaultedOpen) = true := by
  simp only [Bool.and_eq_true, Part.exhaustFitted_iff, Part.tableValid_iff, decide_eq_true_eq, Bool.not_eq_true',
    ← Bool.not_eq_true, Part.flapFaultedOpen_iff, Part.gearJudged, and_assoc]

theorem Part.advisedGear_of_unjudged (unjudged : ¬ p.gearJudged ∨ p.motion.road = none ∨
    p.motion.engine.gear = .neutral ∨ p.motion.engine.gear = .reverse ∨ p.motion.engine.gear = .forward 1) :
    p.advisedGear = 0 := by
  unfold Part.advisedGear
  split
  · next c g v chassis gear read =>
    refine if_neg fun judged => ?_
    obtain ⟨conditions, second⟩ := (Bool.and_eq_true _ _).mp judged
    have road : p.motion.road ≠ none := by rintro none_; simp [Part.reference, none_] at read
    obtain ⟨rfl⟩ : g = 1 := by simpa [Part.gearJudged_iff.mpr conditions, road, gear] using unjudged
    simp at second
  · rfl

/-- The expected engine speed in the gear below, and the exhaust force that it gives there (R71). -/
theorem Part.advisedGear_of_judged (judged : p.gearJudged) {c : ChassisRecord} (chassis : p.store.chassis = some c)
    {d : RoadData} (road : p.motion.road = some d) {g : Nat} (gear : p.motion.engine.gear = .forward g) (above : 2 ≤ g)
    (held : g - 1 ≤ p.store.gearCount) :
    let m := ((p.table .gearTable).entry (g - 2)).first
    let n := ((p.table .gearTable).entry (g - 2)).second
    let e := expectedEngineSpeed c d.reference m n
    let lower := if e < c.exhaustMin then 0 else exhaustForce c (p.exhaustTorqueFor e) m n
    p.advisedGear = if e ≤ c.overRev ∧ p.exhaustCapacity * 1100 / 1000 < lower then g - 1 else 0 := by
  intro m n e lower
  have ratio : p.gearRatio (g - 1) = (m, n) := Part.gearRatio_of_held judged.2.2.1 (by omega) held
  have conditions := Part.gearJudged_iff.mp judged
  have read : p.reference = some d.reference := by rw [Part.reference, road]; rfl
  have advised : p.advisedGear = if c.overRev < e then 0
      else if p.exhaustCapacity * 1100 / 1000 < lower then g - 1 else 0 := by
    simp only [Part.advisedGear, chassis, gear, read, ratio, conditions, above]
    rfl
  rw [advised]
  by_cases fast : c.overRev < e
  · rw [if_pos fast, if_neg fun free => Nat.not_le.mpr fast free.1]
  · simp only [fast, if_false, Nat.not_lt.mp fast, true_and]

end

/-! ## A recomputation as a whole -/

/-- The part with every item formed anew, before OVERTEMP is judged. -/
def Part.itemsFormed (p : Part) (handed : List Handoff) : Part :=
  { p with handed := handed, cap := { p.cap with items := p.capacities } }

theorem Part.recomputed_eq (p : Part) (handed : List Handoff) :
    p.recomputed handed = (p.itemsFormed handed).judgeOvertemp := rfl

theorem Part.recompute_eq (p : Part) : p.recompute =
    { p with cap := p.recompute.cap, faults := p.recompute.faults, flags := p.recompute.flags } := Part.eq_of_fields

/-- Settles O19: the items formed axle by axle, the two changes of OVERTEMP, and the gear below. -/
theorem capacitiesOfTheAxles : Obligations.CapacitiesOfTheAxles := by
  refine ⟨?axles, ?gear⟩
  case axles =>
    intro s l r handed older fadeOf fitted
    have fade : ∀ tier : Tier, tier.fadeFactor = fadeOf tier := fun tier => by cases tier <;> rfl
    have unfitted : ¬ fitted → s.part.retarderFitted = false := fun unfitted =>
      Bool.eq_false_iff.mpr (mt Part.retarderFitted_iff.mp unfitted)
    refine ⟨_, exec_capacityRecomputation_of_oldest handed older, ?frame, ?flags, ?oil, fun a axle => ?axle, ?sum,
      fun unjudged => ?unjudged, fun fitted oil held => ?judged⟩
    case frame => exact Part.recompute_eq { s.part with handed := l ++ r }
    case flags => exact Part.judgeOvertemp_flags (s.part.itemsFormed (l ++ r))
    case oil =>
      rw [Part.recomputed_items]
      rfl
    case axle =>
      rw [Part.recomputed_items, ← fade]
      exact Part.capacities_of_axle axle
    case sum =>
      rw [Part.recomputed_items]
      exact s.part.unmaskedServiceSum_eq
    case unjudged =>
      have same : (s.part.itemsFormed (l ++ r)).judgeOvertemp = s.part.itemsFormed (l ++ r) :=
        Part.judgeOvertemp_of_unjudged (unjudged.imp id unfitted)
      rw [Part.recomputed_eq, same]
      exact ⟨rfl, rfl⟩
    case judged =>
      have hot : s.part.oilAtCutout = decide ((s.part.setting idCutout : Int) ≤ oil) := by
        simp only [Part.oilAtCutout, held]
      rw [Part.recomputed_eq]
      have judged := Part.judgeOvertemp_of_judged (p := s.part.itemsFormed (l ++ r)) held
        (Part.retarderFitted_iff.mpr fitted)
      exact hot ▸ judged
  case gear =>
    intro s l r handed older q judged
    refine ⟨_, exec_capacityRecomputation_of_oldest handed older, fun unjudged => ?_,
      fun allowed c chassis d road g gear above held => ?_⟩
    all_goals rw [Part.recomputed_items]
    · exact Part.advisedGear_of_unjudged unjudged
    · exact Part.advisedGear_of_judged allowed chassis road gear above held

end Sys2Proof.Machine
end

section
/-! PROOF. What each operation of the Channel Units makes of the channel it names, as the node table stands (R142, R148,
R152), and what applying a clear makes of the part (R186, R187). -/

namespace Sys2Proof.Machine

open Safety

/-! ## The node table is kept by what posts a request (R156, R157) -/

section

variable (p : Part)

@[simp] theorem Part.chooseNext_nodes : p.chooseNext.link.nodes = p.link.nodes := by
  unfold Part.chooseNext
  (repeat' split) <;> rfl

@[simp] theorem Part.post_nodes (addr : Nat) (payload : Payload) : (p.post addr payload).link.nodes = p.link.nodes := by
  unfold Part.post
  split
  · rw [Part.chooseNext_nodes]
  · rfl

@[simp] theorem Part.postTarget_nodes (a : Axle) : (p.postTarget a).link.nodes = p.link.nodes := by
  unfold Part.postTarget
  dsimp only
  (repeat' split) <;> simp

@[simp] theorem Part.judgeChannel_nodes (a : Axle) : (p.judgeChannel a).link.nodes = p.link.nodes := by
  unfold Part.judgeChannel Part.releaseChannel
  dsimp only
  (repeat' split) <;> simp

@[simp] theorem Part.readmitChannel_nodes (a : Axle) : (p.readmitChannel a).link.nodes = p.link.nodes := by
  unfold Part.readmitChannel
  dsimp only
  split <;> simp

@[simp] theorem Part.sendRetarder_nodes (t : RetarderTarget) : (p.sendRetarder t).link.nodes = p.link.nodes := by
  unfold Part.sendRetarder Part.postRetarder
  split <;> simp

@[simp] theorem Part.enterRetarder_nodes (st : RetarderState) : (p.enterRetarder st).link.nodes = p.link.nodes := by
  unfold Part.enterRetarder Part.retargetRetarder
  dsimp only
  split <;> simp

@[simp] theorem Part.drainRetarder_nodes : p.drainRetarder.link.nodes = p.link.nodes := by
  simp [Part.drainRetarder]

@[simp] theorem Part.readmitRetarder_nodes : p.readmitRetarder.link.nodes = p.link.nodes := by
  unfold Part.readmitRetarder
  (repeat' split) <;> simp

end

/-! ## A channel posts its target, is judged, and is re-admitted -/

/-- A channel once it has posted its target (R148). -/
def Channel.posted (c : Channel) : Channel :=
  match c.route with
  | .remote _ => { c with lastSent := some c.target }
  | .unrouted => c
  | .localStage => c

/-- Whether a channel is available, as a node table stands (R142). -/
def Channel.availableIn (nodes : List NodeEntry) (c : Channel) : Bool :=
  match c.route with
  | .unrouted => false
  | .localStage => decide (c.state ≠ some .faulted) && !c.sensorOut
  | .remote addr => decide (c.state ≠ some .faulted) && decide (c.state ≠ some .unreachable) &&
      (nodes.find? (·.addr == addr)).any fun e => decide (e.presence = .present) && !e.reported

/-- A channel once its availability has been judged (R142): a COMMANDED one that is not available has become BACKUP. -/
def Channel.judged (nodes : List NodeEntry) (c : Channel) : Channel :=
  { (if c.availableIn nodes = false ∧ c.state = some .commanded then (c.released .backup).posted else c) with
    available := c.availableIn nodes }

/-- Whether the node of a channel is LOST in a node table. -/
def Channel.lostIn (nodes : List NodeEntry) (c : Channel) : Bool :=
  match c.route with
  | .remote addr => (nodes.find? (·.addr == addr)).any fun e => decide (e.presence = .lost)
  | .unrouted => false
  | .localStage => false

/-- A channel that a clear re-admits (R152). -/
def Channel.readmitted (nodes : List NodeEntry) (c : Channel) : Channel :=
  if c.state = some .faulted then
    ((if c.lostIn nodes then c.unreachable else c.released .backup).posted).judged nodes
  else c

theorem Axles.set_get_self {α : Type} (x : Axles α) (a : Axle) : x.set a (x.get a) = x :=
  Axles.ext_get fun b => by
    by_cases same : b = a
    · simp [same]
    · simp [same]

theorem Axles.set_set {α : Type} (x : Axles α) (a : Axle) (v w : α) : (x.set a v).set a w = x.set a w :=
  Axles.ext_get fun b => by
    by_cases same : b = a
    · simp [same]
    · simp [same]

theorem Part.nodeAvailable_eq (p : Part) (addr : Nat) : p.nodeAvailable addr =
    (p.link.nodes.find? (·.addr == addr)).any fun e => decide (e.presence = .present) && !e.reported := by
  unfold Part.nodeAvailable Part.node
  cases p.link.nodes.find? (·.addr == addr) <;> rfl

theorem Part.channelAvailable_eq (p : Part) (a : Axle) :
    p.channelAvailable a = (p.chan.get a).availableIn p.link.nodes := by
  cases route : (p.chan.get a).route <;>
    simp only [Part.channelAvailable, Channel.availableIn, route, Part.nodeAvailable_eq]

theorem Channel.posted_of_sent {c : Channel} (sent : c.lastSent = some c.target) : c.posted = c := by
  unfold Channel.posted
  split
  · rw [← sent]
  · rfl
  · rfl

theorem Part.postTarget_chan (p : Part) (a : Axle) : (p.postTarget a).chan = p.chan.set a (p.chan.get a).posted := by
  unfold Part.postTarget
  dsimp only
  split
  · next addr route =>
    split
    · next sent => rw [Channel.posted_of_sent sent, Axles.set_get_self]
    · simp [Channel.posted, route]
  · next route => simp only [Channel.posted, route, Axles.set_get_self]
  · next route => simp only [Channel.posted, route, Axles.set_get_self]

theorem Part.releaseChannel_chan (p : Part) (a : Axle) (st : ChannelState) :
    (p.releaseChannel a st).chan = p.chan.set a ((p.chan.get a).released st).posted := by
  rw [Part.releaseChannel, Part.postTarget_chan]
  simp [Axles.set_set]

/-- The part with a channel's availability published, and its change handed on (R142). -/
def Part.availabilityPublished (p : Part) (a : Axle) (available : Bool) : Part :=
  (p.setChannel a { p.chan.get a with available := available }).needCapacities

theorem Part.judgeChannel_eq (p : Part) (a : Axle) : p.judgeChannel a =
    if ((p.releasedUnlessAvailable a).chan.get a).available = p.channelAvailable a then p.releasedUnlessAvailable a
    else if p.channelAvailable a then (p.releasedUnlessAvailable a).availabilityPublished a (p.channelAvailable a)
    else ((p.releasedUnlessAvailable a).availabilityPublished a (p.channelAvailable a)).withdrawShare a := rfl

theorem Part.judgeChannel_chan (p : Part) (a : Axle) :
    (p.judgeChannel a).chan = p.chan.set a ((p.chan.get a).judged p.link.nodes) := by
  have released : (p.releasedUnlessAvailable a).chan = p.chan.set a
      (if (p.chan.get a).availableIn p.link.nodes = false ∧ (p.chan.get a).state = some .commanded
        then ((p.chan.get a).released .backup).posted else p.chan.get a) := by
    simp only [Part.releasedUnlessAvailable, Part.channelAvailable_eq, Bool.and_eq_true, Bool.not_eq_true',
      decide_eq_true_eq]
    split
    · exact Part.releaseChannel_chan p a .backup
    · exact (Axles.set_get_self _ _).symm
  have published : ∀ q : Part, q.chan = (p.releasedUnlessAvailable a).chan.set a
      { (p.releasedUnlessAvailable a).chan.get a with available := p.channelAvailable a } →
      q.chan = p.chan.set a ((p.chan.get a).judged p.link.nodes) := fun q same => by
    rw [same, released, Axles.set_set, Axles.get_set_same, Part.channelAvailable_eq]
    rfl
  rw [Part.judgeChannel_eq]
  split
  · next same =>
    refine published _ ?_
    rw [← same, Axles.set_get_self]
  · split
    · exact published _ rfl
    · exact published _ (by simp [Part.availabilityPublished])

theorem Part.readmitChannel_chan (p : Part) (a : Axle) :
    (p.readmitChannel a).chan = p.chan.set a ((p.chan.get a).readmitted p.link.nodes) := by
  unfold Part.readmitChannel Channel.readmitted
  dsimp only
  split
  · have entered : ∀ c : Channel, (((p.setChannel a c).postTarget a).judgeChannel a).chan =
        p.chan.set a (c.posted.judged p.link.nodes) := fun c => by
      simp [Part.judgeChannel_chan, Part.postTarget_chan, Axles.set_set]
    rw [entered]
    cases route : (p.chan.get a).route with
    | unrouted | localStage => simp only [Channel.lostIn, route]
    | remote addr => cases node : p.link.nodes.find? (·.addr == addr) <;> simp [Channel.lostIn, Part.node, route, node]
  · exact (Axles.set_get_self _ _).symm

/-! ## Operations on the axles in turn -/

/-- What an operation makes of the channel it names, as the node table stands; it leaves the table and the others. -/
structure ActsOnChannel (f : Part → Axle → Part) (g : List NodeEntry → Axle → Channel → Channel) : Prop where
  nodes : ∀ p a, (f p a).link.nodes = p.link.nodes
  chan : ∀ p a, (f p a).chan = p.chan.set a (g p.link.nodes a (p.chan.get a))

/-- What each step of a fold keeps, the fold keeps. -/
theorem foldl_kept {α β γ : Type} {f : α → β → α} (item : α → γ) (step : ∀ x b, item (f x b) = item x) (l : List β)
    (x : α) : item (l.foldl f x) = item x := by
  induction l generalizing x with
  | nil => rfl
  | cons b l ih => exact (ih _).trans (step x b)

namespace ActsOnChannel

theorem posts : ActsOnChannel Part.postTarget fun _ _ c => c.posted := ⟨Part.postTarget_nodes, Part.postTarget_chan⟩

theorem judges : ActsOnChannel Part.judgeChannel fun nodes _ c => c.judged nodes :=
  ⟨Part.judgeChannel_nodes, Part.judgeChannel_chan⟩

theorem readmits : ActsOnChannel Part.readmitChannel fun nodes _ c => c.readmitted nodes :=
  ⟨Part.readmitChannel_nodes, Part.readmitChannel_chan⟩

variable {f : Part → Axle → Part} {g : List NodeEntry → Axle → Channel → Channel}

theorem guarded (acts : ActsOnChannel f g) (allowed : Axle → Bool) :
    ActsOnChannel (fun p a => if allowed a then f p a else p) fun nodes a c =>
      if allowed a then g nodes a c else c where
  nodes p a := by
    split
    · exact acts.nodes p a
    · rfl
  chan p a := by
    split
    · exact acts.chan p a
    · exact (Axles.set_get_self _ _).symm

theorem foldl_nodes (acts : ActsOnChannel f g) (l : List Axle) (p : Part) :
    (l.foldl f p).link.nodes = p.link.nodes := foldl_kept (·.link.nodes) acts.nodes l p

/-- Each axle named is acted on once, and the others are left. -/
theorem foldl_get (acts : ActsOnChannel f g) (l : List Axle) (distinct : l.Nodup) (p : Part) (b : Axle) :
    (l.foldl f p).chan.get b = if b ∈ l then g p.link.nodes b (p.chan.get b) else p.chan.get b := by
  induction l generalizing p with
  | nil => rfl
  | cons a l ih =>
    obtain ⟨fresh, distinct⟩ := List.nodup_cons.mp distinct
    rw [List.foldl_cons, ih distinct, acts.nodes, acts.chan]
    by_cases same : b = a
    · simp [same, fresh]
    · simp [same]

end ActsOnChannel

/-! ## The retarder and the flap are re-admitted (R128, R136) -/

section

variable {p : Part}

theorem Part.enterRetarder_ret (p : Part) (st : RetarderState) : (p.enterRetarder st).ret = { p.ret with
    state := st, fillTimer := none, drainTimer := none, releaseMark := none
    lastSent := st.target p.ret.handedCommand } := by
  unfold Part.enterRetarder Part.retargetRetarder
  dsimp only
  split
  · next sent => exact congrArg (fun t => { (p.setRetarder st).ret with lastSent := t }) sent
  · rw [Part.sendRetarder_ret]
    rfl

theorem Part.readmitRetarder_ret (p : Part) : p.readmitRetarder.ret =
    if p.ret.state = .faulted then
      if p.retarderPresent = false ∨ p.ret.lastNodeState = some .drained then { p.ret with
        state := .drained, fillTimer := none, drainTimer := none, releaseMark := none, lastSent := ⟨false, 0⟩ }
      else { p.ret with
        state := .draining, fillTimer := none, releaseMark := none, lastSent := ⟨false, 0⟩
        drainTimer := some ⟨p.now, p.setting idDrainTimeout⟩ }
    else p.ret := by
  simp only [Part.readmitRetarder, apply_ite Part.ret, Part.enterRetarder_ret, Part.drainRetarder_ret, Bool.or_eq_true,
    Bool.not_eq_true', decide_eq_true_eq]
  rfl

theorem Part.readmitFlap_flap (p : Part) : p.readmitFlap.flap =
    if p.flap.state = .faulted then
      if p.fswClosed = false then
        { p.flap with state := .opened, solenoid := false, enteredOpen := p.now, timer := none }
      else if p.passesRun = true then { p.flap with state := .closed, solenoid := true, timer := none }
      else { p.flap with
        state := .opening, solenoid := false, timer := some ⟨p.now, p.setting idFlapTimeout⟩ }
    else p.flap := by
  simp only [Part.readmitFlap, apply_ite Part.flap, Part.flapOpened, Part.flapOpening, Part.changeFlap_flap,
    Bool.not_eq_true']
  rfl

end

/-! ## A clear is applied (R187) -/

section

variable (p : Part) (mask : BitVec 16)

theorem maskNames_eq (src : Source) : maskNames mask src = namesSource mask src := by
  cases src <;> simp [maskNames, namesSource]

theorem isTrip_eq (code : FaultCode) : code.isTrip = tripCodes.contains code := by
  cases code <;> rfl

theorem filter_clearedBy (entries : List FaultEntry) :
    (entries.filter fun e => !e.clearedBy mask) = keptEntries entries mask := by
  simp only [keptEntries, FaultEntry.clearedBy, maskNames_eq, isTrip_eq]

/-- The part with the entries that a clear removes gone from the fault table, and the change flagged. -/
def Part.entriesCleared : Part :=
  { p with
    faults := { p.faults with entries := keptEntries p.faults.entries mask }
    flags := { p.flags with
      faultsChanged := p.flags.faultsChanged || decide (keptEntries p.faults.entries mask ≠ p.faults.entries) } }

theorem Part.applyClear_eq : p.applyClear mask = (p.entriesCleared mask).readmitNamed mask := by
  have fewer : (keptEntries p.faults.entries mask).length < p.faults.entries.length ↔
      keptEntries p.faults.entries mask ≠ p.faults.entries := by
    have fewer : (keptEntries p.faults.entries mask).Sublist p.faults.entries := List.filter_sublist
    rw [Ne, ← fewer.length_eq]
    exact fewer.length_le.lt_iff_ne
  unfold Part.applyClear
  simp only [filter_clearedBy, fewer, decide_eq_true_eq]
  split
  · next removed => simp [Part.entriesCleared, Part.flagFaultsChanged, removed]
  · next kept => simp [Part.entriesCleared, not_not.mp kept]

/-- The part once a clear has re-admitted the retarder and the flap that it names. -/
def Part.unitsReadmitted : Part :=
  let p := if maskNames mask .retarder then p.readmitRetarder else p
  if maskNames mask .flap then p.readmitFlap else p

theorem Part.readmitNamed_eq : p.readmitNamed mask = Axle.all.foldl
    (fun p a => if maskNames mask (.axle a) then p.readmitChannel a else p) (p.unitsReadmitted mask) := rfl

theorem Part.unitsReadmitted_units :
    (p.unitsReadmitted mask).ret = (if mask.getLsbD 4 then p.readmitRetarder.ret else p.ret) ∧
      (p.unitsReadmitted mask).flap = (if mask.getLsbD 5 then p.readmitFlap.flap else p.flap) ∧
      (p.unitsReadmitted mask).chan = p.chan ∧ (p.unitsReadmitted mask).link.nodes = p.link.nodes := by
  unfold Part.unitsReadmitted maskNames
  dsimp only
  have running : p.readmitRetarder.passesRun = p.passesRun := Part.passesRun_congr (by simp)
  split <;> split <;> simp [Part.readmitFlap_flap, running, Part.setting]

theorem Part.readmitNamed_chan (b : Axle) : (p.readmitNamed mask).chan.get b =
    if mask.getLsbD b.val then (p.chan.get b).readmitted p.link.nodes else p.chan.get b := by
  obtain ⟨-, -, chan, nodes⟩ := p.unitsReadmitted_units mask
  have acts := ActsOnChannel.readmits.guarded fun a => maskNames mask (.axle a)
  rw [Part.readmitNamed_eq, acts.foldl_get _ (by decide), if_pos (Axles.mem_all b), chan, nodes]
  rfl

theorem Part.readmitNamed_units :
    (p.readmitNamed mask).ret = (if mask.getLsbD 4 then p.readmitRetarder.ret else p.ret) ∧
      (p.readmitNamed mask).flap = (if mask.getLsbD 5 then p.readmitFlap.flap else p.flap) ∧
      (p.readmitNamed mask).link.nodes = p.link.nodes := by
  obtain ⟨ret, flap, -, nodes⟩ := p.unitsReadmitted_units mask
  have acts := ActsOnChannel.readmits.guarded fun a => maskNames mask (.axle a)
  rw [← ret, ← flap, ← nodes, Part.readmitNamed_eq, acts.foldl_nodes]
  refine ⟨?_, ?_, rfl⟩
  · exact foldl_kept Part.ret (fun q a => by split <;> simp) _ _
  · exact foldl_kept Part.flap (fun q a => by split <;> simp) _ _

theorem Channel.lostIn_eq (p : Part) (c : Channel) : c.lostIn p.link.nodes = nodeLost p c := by
  cases route : c.route <;> simp only [Channel.lostIn, nodeLost, route]

/-- A channel with its target posted, and judged where it is not COMMANDED (R142, R148). -/
theorem Channel.judged_of_idle {nodes : List NodeEntry} {c : Channel} (idle : c.state ≠ some .commanded) :
    c.judged nodes = { c with available := c.availableIn nodes } := by
  simp only [Channel.judged, idle, and_false, if_false]

theorem Channel.posted_items (c : Channel) : c.posted.route = c.route ∧ c.posted.state = c.state ∧
    c.posted.lastDemand = c.lastDemand ∧ c.posted.measured = c.measured ∧ c.posted.sensorOut = c.sensorOut ∧
    c.posted.tracking = c.tracking ∧ c.posted.available = c.available ∧ c.posted.sampling = c.sampling ∧
    c.posted.switched = c.switched := by
  cases route : c.route <;> simp [Channel.posted, route]

theorem Channel.posted_available (c : Channel) : c.posted.available = c.available := by
  cases route : c.route <;> simp [Channel.posted, route]

theorem Channel.posted_availableIn (nodes : List NodeEntry) (c : Channel) :
    c.posted.availableIn nodes = c.availableIn nodes := by
  obtain ⟨route, state, -, -, sensor, -⟩ := c.posted_items
  simp only [Channel.availableIn, route, state, sensor]

/-- A FAULTED channel whose node is LOST becomes UNREACHABLE (R149, R152). -/
theorem Channel.readmitted_of_lost {nodes : List NodeEntry} {c : Channel} (faulted : c.state = some .faulted)
    (lost : c.lostIn nodes = true) : c.readmitted nodes = { c with
      state := some .unreachable, lastDemand := 0, tracking := none, measured := none, lastSent := some .release
      available := false } := by
  cases route : c.route with
  | unrouted | localStage => simp [Channel.lostIn, route] at lost
  | remote addr =>
    simp [Channel.readmitted, faulted, lost, Channel.unreachable, Channel.released, Channel.posted, Channel.target,
      Channel.judged, Channel.availableIn, route]

/-- Another FAULTED channel becomes BACKUP, and keeps what it holds (R152). -/
theorem Channel.readmitted_of_found {nodes : List NodeEntry} {c : Channel} (faulted : c.state = some .faulted)
    (found : c.lostIn nodes = false) : c.readmitted nodes =
      { ({ c with state := some .backup } : Channel).posted with
        available := ({ c with state := some .backup } : Channel).availableIn nodes } := by
  have released : c.released .backup = { c with state := some .backup } := by simp [Channel.released, faulted]
  have idle : ({ c with state := some .backup } : Channel).posted.state ≠ some .commanded := by
    rw [(Channel.posted_items _).2.1]
    simp
  simp only [Channel.readmitted, faulted, if_true, found, Bool.false_eq_true, if_false, released]
  rw [Channel.judged_of_idle idle, Channel.posted_availableIn]

/-- What a channel re-admitted by a clear is (R149, R152). -/
theorem Channel.readmitted_spec {p : Part} {c : Channel} (faulted : c.state = some .faulted) :
    let n := c.readmitted p.link.nodes
    n.route = c.route ∧ n.sensorOut = c.sensorOut ∧ n.sampling = c.sampling ∧ n.switched = c.switched ∧
      (nodeLost p c = true → n.state = some .unreachable ∧ n.lastDemand = 0 ∧ n.tracking = none ∧
        n.measured = none ∧ n.lastSent = some .release ∧ n.available = false) ∧
      (nodeLost p c = false → n.state = some .backup ∧ n.lastDemand = c.lastDemand ∧
        n.tracking = c.tracking ∧ n.measured = c.measured ∧
        n.available = match c.route with
          | .localStage => !c.sensorOut
          | .remote addr => p.nodeAvailable addr
          | .unrouted => false) := by
  intro n
  rw [← Channel.lostIn_eq]
  cases lost : c.lostIn p.link.nodes with
  | true => simp [n, Channel.readmitted_of_lost faulted lost]
  | false =>
    have readmitted := Channel.readmitted_of_found faulted lost
    obtain ⟨route, state, demand, measured, sensor, tracking, -, sampling, switched⟩ :=
      Channel.posted_items { c with state := some .backup }
    simp only [n, readmitted, route, state, demand, measured, sensor, tracking, sampling, switched]
    cases c.route <;> simp [Channel.availableIn, Part.nodeAvailable_eq]

/-- The part with a clear no longer held, and the entries gone that it removes. -/
def Part.clearTaken : Part := Part.entriesCleared { p with faults := { p.faults with held := none } } mask

theorem Part.applyHeld_eq (h : HeldClear) : p.applyHeld h =
    ((p.clearTaken h.sources).readmitNamed h.sources).answer kindClearFaults h.tag .done := by
  rw [Part.applyHeld, Part.applyClear_eq]
  rfl

@[simp] theorem Part.clearTaken_untouched : (p.clearTaken mask).now = p.now ∧
    (p.clearTaken mask).control = p.control ∧ (p.clearTaken mask).store = p.store ∧
    (p.clearTaken mask).demand = p.demand ∧ (p.clearTaken mask).motion = p.motion ∧
    (p.clearTaken mask).slip = p.slip ∧ (p.clearTaken mask).cap = p.cap ∧
    (p.clearTaken mask).thermal = p.thermal ∧ (p.clearTaken mask).retRoute = p.retRoute ∧
    (p.clearTaken mask).vl = p.vl ∧ (p.clearTaken mask).fswClosed = p.fswClosed :=
  ⟨rfl, rfl, rfl, rfl, rfl, rfl, rfl, rfl, rfl, rfl, rfl⟩

theorem Part.clearTaken_ret : ((p.clearTaken mask).readmitNamed mask).ret =
    if mask.getLsbD 4 then p.readmitRetarder.ret else p.ret := by
  have same : (p.clearTaken mask).readmitRetarder.ret = p.readmitRetarder.ret := by
    rw [Part.readmitRetarder_ret, Part.readmitRetarder_ret]
    rfl
  rw [((p.clearTaken mask).readmitNamed_units mask).1, same]
  rfl

theorem Part.clearTaken_flap : ((p.clearTaken mask).readmitNamed mask).flap =
    if mask.getLsbD 5 then p.readmitFlap.flap else p.flap := by
  have same : (p.clearTaken mask).readmitFlap.flap = p.readmitFlap.flap := by
    rw [Part.readmitFlap_flap, Part.readmitFlap_flap]
    rfl
  rw [((p.clearTaken mask).readmitNamed_units mask).2.1, same]
  rfl

/-- A held clear that is applied does what the manual says (R186, R187). -/
theorem clearApplied_applyHeld (h : HeldClear) : ClearApplied p (p.applyHeld h) h.tag h.sources := by
  have nodes := ((p.clearTaken h.sources).readmitNamed_units h.sources).2.2
  have chan : ∀ b, ((p.clearTaken h.sources).readmitNamed h.sources).chan.get b =
      if h.sources.getLsbD b.val then (p.chan.get b).readmitted p.link.nodes else p.chan.get b :=
    (p.clearTaken h.sources).readmitNamed_chan h.sources
  have ret := p.clearTaken_ret h.sources
  have flap := p.clearTaken_flap h.sources
  rw [Part.readmitRetarder_ret] at ret
  rw [Part.readmitFlap_flap] at flap
  rw [Part.applyHeld_eq]
  refine ⟨⟨by simp, by simp, by simp, by simp, by simp, by simp, by simp, by simp, by simp, by simp, nodes⟩, ?faults,
    ?flags, ?vl, fun kept => ret.trans ?_, fun named faulted => ⟨fun freed => ret.trans ?_, fun there notDrained =>
      ret.trans ?_⟩, fun kept => flap.trans ?_, fun named faulted => ⟨fun opened => flap.trans ?_,
      fun closed running => flap.trans ?_, fun closed stopped => flap.trans ?_⟩,
    fun a => ⟨fun kept => (chan a).trans ?_, fun named faulted => ?_⟩⟩
  case faults =>
    have kept : ((p.clearTaken h.sources).readmitNamed h.sources).faults = (p.clearTaken h.sources).faults := by simp
    exact kept
  case flags =>
    have kept : ((p.clearTaken h.sources).readmitNamed h.sources).flags = (p.clearTaken h.sources).flags := by simp
    exact kept
  case vl => simp
  · obtain unnamed | sound := kept
    · rw [unnamed]; rfl
    · rw [if_neg sound, ite_self]
  · rw [if_pos named, if_pos faulted, if_pos freed]
  · rw [if_pos named, if_pos faulted, if_neg (by simp [there, notDrained])]
  · obtain unnamed | sound := kept
    · rw [unnamed]; rfl
    · rw [if_neg sound, ite_self]
  · rw [if_pos named, if_pos faulted, if_pos opened]
  · rw [if_pos named, if_pos faulted, if_neg (by simp [closed]), if_pos running]
  · rw [if_pos named, if_pos faulted, if_neg (by simp [closed]), if_neg (by simp [stopped])]
  · obtain unnamed | sound := kept
    · rw [unnamed]; rfl
    · rw [Channel.readmitted, if_neg sound, ite_self]
  · have readmitted := (chan a).trans (if_pos named)
    have spec := Channel.readmitted_spec (p := p) faulted
    exact readmitted ▸ spec

end

end Sys2Proof.Machine
end

section
/-! PROOF. ROUTE's checks (R140): what each position asks for, and the first position that fails. -/

namespace Sys2Proof.Machine

/-! ## The first axle of a kind -/

theorem find_axle_of_first {f : Axle → Bool} {a : Axle} (found : f a = true) (before : ∀ b < a, f b = false) :
    Axle.all.find? f = some a := by
  have at_ : ∀ b : Axle, ∃ h : b.val < Axle.all.length, Axle.all[b.val] = b := by decide
  obtain ⟨inList, here⟩ := at_ a
  refine List.find?_eq_some_iff_getElem.mpr ⟨found, a.val, inList, here, fun j below => ?_⟩
  obtain ⟨_, there⟩ := at_ ⟨j, below.trans a.isLt⟩
  rw [there, before _ below]
  rfl

theorem find_axle_of_none {f : Axle → Bool} (none_ : ∀ a, f a = false) : Axle.all.find? f = none :=
  List.find?_eq_none.mpr fun a _ => by simp [none_ a]

/-! ## What a position asks for (R140) -/

/-- A position's kind and address fit together. -/
def RouteFits (f : RouteField) : Prop :=
  (f.kind = some .unrouted ∨ f.kind = some .localStage) ∧ f.addr = 0 ∨ f.kind = some .remote ∧ 1 ≤ f.addr ∧ f.addr ≤ 7

/-- The route that a position of a fitting kind and address asks for. -/
def askedRoute (f : RouteField) : Route :=
  match f.kind with
  | some .remote => .remote f.addr
  | some .localStage => .localStage
  | some .unrouted | none => .unrouted

theorem routeOfField_of_fits {f : RouteField} (fits : RouteFits f) : routeOfField f = some (askedRoute f) := by
  obtain ⟨kind, addr⟩ := f
  obtain ⟨(rfl | rfl), rfl⟩ | ⟨rfl, inTable⟩ := fits
  · rfl
  · rfl
  · exact if_pos inTable

theorem routeOfField_of_not_fits {f : RouteField} (not_ : ¬ RouteFits f) : routeOfField f = none := by
  obtain ⟨kind, addr⟩ := f
  cases kind with
  | none => rfl
  | some kind => cases kind <;> exact if_neg (by simpa [RouteFits] using not_)

theorem askedRoute_eq_remote {f : RouteField} {x : Nat} :
    askedRoute f = .remote x ↔ f.kind = some .remote ∧ f.addr = x := by
  obtain ⟨kind, addr⟩ := f
  rcases kind with _ | (_ | _ | _) <;> simp [askedRoute]

theorem askedRoute_eq_unrouted {f : RouteField} (fits : RouteFits f) :
    askedRoute f = .unrouted ↔ f.kind = some .unrouted := by
  obtain ⟨kind, addr⟩ := f
  rcases kind with _ | (_ | _ | _) <;> simp_all [askedRoute, RouteFits]

theorem Route.addr_eq_some {x : Route} {addr : Nat} : x.addr = some addr ↔ x = .remote addr := by
  cases x <;> simp [Route.addr]

section

variable {p : Part} {fields : Axles RouteField} {retarder : Nat}

/-- A position passes check 3 of R140. -/
def Part.PositionOk (p : Part) (fields : Axles RouteField) (a : Axle) : Prop :=
  RouteFits (fields.get a) ∧ (a.val < p.axleCount ∨ (fields.get a).kind = some .unrouted)

theorem Part.routeFieldOk_iff (a : Axle) : p.routeFieldOk a (fields.get a) = true ↔ p.PositionOk fields a := by
  by_cases fits : RouteFits (fields.get a)
  · simp [Part.routeFieldOk, routeOfField_of_fits fits, Part.PositionOk, fits, askedRoute_eq_unrouted fits,
      Part.hasAxle_iff]
  · simp [Part.routeFieldOk, routeOfField_of_not_fits fits, Part.PositionOk, fits]

theorem Part.routesOf_get {a : Axle} (fits : RouteFits (fields.get a)) :
    (Part.routesOf fields).get a = askedRoute (fields.get a) := by
  simp [Part.routesOf, routeOfField_of_fits fits]

theorem mem_namedBefore {routes : Axles Route} {k x : Nat} :
    x ∈ namedBefore routes k ↔ ∃ b : Axle, b.val < k ∧ routes.get b = .remote x := by
  simp [namedBefore, Axles.mem_all, Route.addr_eq_some]

/-- A route names the node of an axle before it. -/
def NamedAgain (routes : Axles Route) (a : Axle) : Prop :=
  ∃ x, routes.get a = .remote x ∧ ∃ b : Axle, b < a ∧ routes.get b = .remote x

/-- Check 4 of R140: the first axle position that names an address again. -/
theorem secondNaming_of_axle {routes : Axles Route} {a : Axle} (again : NamedAgain routes a)
    (first : ∀ b < a, ¬ NamedAgain routes b) (retarder : Option Nat) : secondNaming routes retarder = some a.val := by
  unfold secondNaming
  rw [find_axle_of_first (a := a)]
  · obtain ⟨x, route, earlier⟩ := again
    simpa [route, Route.addr, mem_namedBefore] using earlier
  · intro b before
    cases route : routes.get b with
    | unrouted | localStage => rfl
    | remote x =>
      have fresh : ¬ ∃ c : Axle, c < b ∧ routes.get c = .remote x := fun earlier =>
        first b before ⟨x, route, earlier⟩
      simpa [Route.addr, mem_namedBefore] using fresh

/-- Check 5 of R140: the retarder's address, once every axle names a node of its own. -/
theorem secondNaming_of_retarder {routes : Axles Route} (fresh : ∀ a, ¬ NamedAgain routes a) (retarder : Option Nat) :
    secondNaming routes retarder =
      if retarder.any (fun x => (namedBefore routes 4).contains x) then some 4 else none := by
  unfold secondNaming
  rw [find_axle_of_none]
  · cases retarder <;> rfl
  · intro b
    cases route : routes.get b with
    | unrouted | localStage => rfl
    | remote x =>
      have fresh : ¬ ∃ c : Axle, c < b ∧ routes.get c = .remote x := fun earlier => fresh b ⟨x, route, earlier⟩
      simpa [Route.addr, mem_namedBefore] using fresh

theorem namedAgain_iff (fits : ∀ a, RouteFits (fields.get a)) (a : Axle) :
    NamedAgain (Part.routesOf fields) a ↔ (fields.get a).kind = some .remote ∧
      ∃ b : Axle, b < a ∧ (fields.get b).kind = some .remote ∧ (fields.get b).addr = (fields.get a).addr := by
  simp only [NamedAgain, Part.routesOf_get (fits _), askedRoute_eq_remote]
  constructor
  · rintro ⟨x, ⟨kind, rfl⟩, earlier⟩
    exact ⟨kind, earlier⟩
  · rintro ⟨kind, earlier⟩
    exact ⟨_, ⟨kind, rfl⟩, earlier⟩

/-! ## The outcome of a ROUTE -/

/-- The retarder route that a ROUTE asks for. -/
def askedRetarder (retarder : Nat) : Option Nat := if retarder = 0 then none else some retarder

theorem exec_route {s : State} {tag : Byte} {q : Part} {r : Reply} (h : s.part.routeRequest fields retarder = (q, r)) :
    exec (.route tag fields retarder) s = .next { s with part := q.answer kindRoute tag r } :=
  State.next_congr (Part.request_of_eq h)

theorem Part.routeRequest_of_mode (config : p.control.mode ≠ .config) (standby : p.control.mode ≠ .standby) :
    p.routeRequest fields retarder = (p, .refused .mode) := if_pos ⟨config, standby⟩

section

variable (mode : p.control.mode = .config ∨ p.control.mode = .standby)
include mode

theorem Part.routeRequest_of_unset (unset : p.store.chassis = none) :
    p.routeRequest fields retarder = (p, .refused (.notReady 2 0)) := by
  rw [Part.routeRequest, if_neg fun other => mode.elim other.1 other.2, if_pos (by simp [unset])]

theorem Part.routeRequest_of_fault (set : p.store.chassis ≠ none) {k : Nat}
    (fault : p.routeFault fields retarder = some k) :
    p.routeRequest fields retarder = (p, .refused (.badValue k)) := by
  rw [Part.routeRequest, if_neg fun other => mode.elim other.1 other.2, if_neg (by simpa using set)]
  simp only [fault]

theorem Part.routeRequest_of_passed (set : p.store.chassis ≠ none) (passed : p.routeFault fields retarder = none) :
    p.routeRequest fields retarder =
      (p.applyRoute (Part.routesOf fields) (askedRetarder retarder), .done) := by
  rw [Part.routeRequest, if_neg fun other => mode.elim other.1 other.2, if_neg (by simpa using set)]
  simp only [passed]
  rfl

end

/-- Check 3 of R140: the first position whose kind and address do not fit. -/
theorem Part.routeFault_of_position {a : Axle} (bad : ¬ p.PositionOk fields a)
    (first : ∀ b < a, p.PositionOk fields b) (retarder : Nat) : p.routeFault fields retarder = some a.val := by
  unfold Part.routeFault
  rw [find_axle_of_first (a := a)]
  · simpa [Part.routeFieldOk_iff, ← Bool.not_eq_true] using bad
  · intro b before
    simpa using (Part.routeFieldOk_iff b).mpr (first b before)

section

variable (ok : ∀ a, p.PositionOk fields a)
include ok

theorem Part.routeFault_of_positions : p.routeFault fields retarder =
    if 7 < retarder ∨ (retarder ≠ 0 ∧ !p.retarderFitted) then some 4
    else secondNaming (Part.routesOf fields) (askedRetarder retarder) := by
  unfold Part.routeFault
  rw [find_axle_of_none fun a => by simpa using (Part.routeFieldOk_iff a).mpr (ok a)]
  rfl

end

end

end Sys2Proof.Machine
end

section
/-! PROOF. A ROUTE is applied without regard to a held clear, until the addresses removed leave its waiting set
(R186). -/

namespace Sys2Proof.Machine

/-! ## The stages of a ROUTE (R141, R156) -/

section

variable (p : Part) (routes : Axles Route) (retarder : Option Nat)

/-- The part once the changed channels have been judged against the new node table. -/
def Part.rejudged : Part := (p.changedAxles routes).foldl Part.judgeChannel (p.routed routes retarder)

/-- The part once the changed channels have posted their targets. -/
def Part.retargeted : Part := (p.changedAxles routes).foldl Part.postTarget (p.rejudged routes retarder)

/-- The part once a ROUTE has been applied, but for a held clear. -/
def Part.rerouted : Part := ((p.retargeted routes retarder).rerouteRetarder p.retRoute).chooseNext

theorem Part.applyRoute_eq : p.applyRoute routes retarder =
    if (p.rerouted routes retarder).faults.held.any (·.waiting.any fun x => !p.keepsNode routes retarder x) then
      (p.rerouted routes retarder).noLongerWaiting fun x => !p.keepsNode routes retarder x
    else p.rerouted routes retarder := rfl

end

/-- The conditions of a removed node stop being present (R156). -/
def Part.conditionsEnded (p : Part) (e : NodeEntry) : Part :=
  let p := if e.lostPresent then p.faultEnds (.node e.addr) .nodeLost else p
  if e.reported then p.faultEnds (.node e.addr) .reported else p

/-- The link without the requests for a removed node, a transaction in flight to it having lost its node (R156). -/
def LinkController.without (l : LinkController) (addr : Nat) : LinkController :=
  { l with
    queue := l.queue.filter fun r => r.addr != addr
    phase := match l.phase with
      | .inFlight t => if t.request.addr = addr then .inFlight { t with orphan := true } else .inFlight t
      | .idle => .idle
      | .abandoned w => .abandoned w }

theorem Part.removeNode_eq (p : Part) (e : NodeEntry) :
    p.removeNode e = { p.conditionsEnded e with link := (p.conditionsEnded e).link.without e.addr } := rfl

/-- The part with a request placed in the queue (R157). -/
def Part.placed (p : Part) (addr : Nat) (payload : Payload) : Part :=
  { p with link := { p.link with queue := placeRequest p.link.queue p.now addr payload } }

theorem Part.post_eq (p : Part) (addr : Nat) (payload : Payload) :
    p.post addr payload = if (p.node addr).isSome then (p.placed addr payload).chooseNext else p := by
  unfold Part.post
  cases p.node addr <;> rfl

/-- The part with the oil temperature and what was known and handed of the retarder node discarded (R64, R141). -/
def Part.unitForgotten (p : Part) : Part :=
  { p with
    ret := { p.ret with lastNodeState := none }
    cap := { p.cap with items := { p.cap.items with oilTemp := none } }
    handed := p.handed.filter fun h => !decide (h.lane = .retarderLink) }

theorem Part.rerouteRetarder_eq (p : Part) (old : Option Nat) : p.rerouteRetarder old =
    if p.retRoute = old then p else p.unitForgotten.loseRetarder.needCapacities := rfl

/-! ## Operations that do not read the held clear -/

/-- The part with another held clear. -/
def Part.holding (p : Part) (held : Option HeldClear) : Part := { p with faults := { p.faults with held := held } }

section

variable (p : Part) (held : Option HeldClear)

@[simp] theorem Part.holding_untouched : (p.holding held).now = p.now ∧ (p.holding held).control = p.control ∧
    (p.holding held).store = p.store ∧ (p.holding held).demand = p.demand ∧ (p.holding held).motion = p.motion ∧
    (p.holding held).slip = p.slip ∧ (p.holding held).cap = p.cap ∧ (p.holding held).app = p.app ∧
    (p.holding held).thermal = p.thermal ∧ (p.holding held).ret = p.ret ∧ (p.holding held).flap = p.flap ∧
    (p.holding held).chan = p.chan ∧ (p.holding held).retRoute = p.retRoute ∧ (p.holding held).link = p.link ∧
    (p.holding held).flags = p.flags ∧ (p.holding held).vl = p.vl ∧ (p.holding held).fswClosed = p.fswClosed ∧
    (p.holding held).handed = p.handed := by
  simp [Part.holding]

@[simp] theorem Part.holding_read : (p.holding held).lossWaiting = p.lossWaiting ∧
    (p.holding held).setting = p.setting ∧ (p.holding held).node = p.node ∧
    (p.holding held).passesRun = p.passesRun ∧ (p.holding held).channelAvailable = p.channelAvailable ∧
    (p.holding held).keepsNode = p.keepsNode ∧ (p.holding held).newNode = p.newNode ∧
    (p.holding held).startTimer = p.startTimer ∧ (p.holding held).changedAxles = p.changedAxles :=
  ⟨rfl, rfl, rfl, rfl, rfl, rfl, rfl, rfl, rfl⟩

theorem Part.node_holding : (p.holding held).node = p.node := rfl

theorem Part.passesRun_holding : (p.holding held).passesRun = p.passesRun := rfl

theorem Part.changedAxles_holding : (p.holding held).changedAxles = p.changedAxles := rfl

@[simp] theorem Part.chooseNext_holding : (p.holding held).chooseNext = p.chooseNext.holding held := by
  unfold Part.chooseNext
  simp only [Part.holding_untouched, Part.holding_read]
  (repeat' split) <;> simp_all [Part.holding, Part.beginTransaction]

@[simp] theorem Part.post_holding (addr : Nat) (payload : Payload) :
    (p.holding held).post addr payload = (p.post addr payload).holding held := by
  rw [Part.post_eq, Part.post_eq, p.node_holding held]
  change (if (p.node addr).isSome then ((p.placed addr payload).holding held).chooseNext else _) = _
  rw [Part.chooseNext_holding]
  split <;> rfl

@[simp] theorem Part.setChannel_holding (a : Axle) (c : Channel) :
    (p.holding held).setChannel a c = (p.setChannel a c).holding held := rfl

@[simp] theorem Part.handOn_holding (h : Handoff) : (p.holding held).handOn h = (p.handOn h).holding held := rfl

@[simp] theorem Part.needCapacities_holding : (p.holding held).needCapacities = p.needCapacities.holding held := rfl

@[simp] theorem Part.discardLanes_holding (f : Lane → Bool) :
    (p.holding held).discardLanes f = (p.discardLanes f).holding held := rfl

@[simp] theorem Part.postTarget_holding (a : Axle) :
    (p.holding held).postTarget a = (p.postTarget a).holding held := by
  unfold Part.postTarget
  simp only [Part.holding_untouched]
  (repeat' split) <;> simp

@[simp] theorem Part.judgeChannel_holding (a : Axle) :
    (p.holding held).judgeChannel a = (p.judgeChannel a).holding held := by
  have withdrawn : ∀ q : Part, (q.holding held).withdrawShare a = (q.withdrawShare a).holding held := fun q => by
    unfold Part.withdrawShare
    rw [q.passesRun_holding held]
    split <;> rfl
  unfold Part.judgeChannel Part.releaseChannel
  simp only [Part.holding_untouched, Part.holding_read]
  (repeat' split) <;> simp_all

@[simp] theorem Part.faultEnds_holding (src : Source) (code : FaultCode) :
    (p.holding held).faultEnds src code = (p.faultEnds src code).holding held := by
  unfold Part.faultEnds
  dsimp only [Part.holding, FaultTable.ended]
  split <;> rfl

@[simp] theorem Part.resetChannel_holding (a : Axle) (x : Route) :
    (p.holding held).resetChannel a x = (p.resetChannel a x).holding held := by
  unfold Part.resetChannel
  simp only [Part.holding_untouched]
  split <;> simp

@[simp] theorem Part.removeNode_holding (e : NodeEntry) :
    (p.holding held).removeNode e = (p.removeNode e).holding held := by
  have conditions : (p.holding held).conditionsEnded e = (p.conditionsEnded e).holding held := by
    unfold Part.conditionsEnded
    dsimp only
    split <;> split <;> simp
  rw [Part.removeNode_eq, conditions]
  rfl

theorem Part.postRetarder_holding (t : RetarderTarget) :
    (p.holding held).postRetarder t = (p.postRetarder t).holding held := by
  unfold Part.postRetarder
  simp only [Part.holding_untouched, Part.post_holding]
  split <;> rfl

@[simp] theorem Part.enterRetarder_holding (st : RetarderState) :
    (p.holding held).enterRetarder st = (p.enterRetarder st).holding held := by
  have entered : (p.holding held).setRetarder st = (p.setRetarder st).holding held := rfl
  have sent : ∀ (q : Part) (t : RetarderTarget), (q.holding held).sendRetarder t = (q.sendRetarder t).holding held :=
    fun q t => Part.postRetarder_holding { q with ret := { q.ret with lastSent := t } } held t
  unfold Part.enterRetarder Part.retargetRetarder
  simp only [entered, sent, Part.holding_untouched]
  split <;> rfl

@[simp] theorem Part.loseRetarder_holding : (p.holding held).loseRetarder = p.loseRetarder.holding held := by
  unfold Part.loseRetarder
  simp only [Part.holding_untouched, Part.enterRetarder_holding]
  split <;> rfl

@[simp] theorem Part.rerouteRetarder_holding (old : Option Nat) :
    (p.holding held).rerouteRetarder old = (p.rerouteRetarder old).holding held := by
  have lost : (p.holding held).unitForgotten.loseRetarder = p.unitForgotten.loseRetarder.holding held :=
    p.unitForgotten.loseRetarder_holding held
  simp only [Part.rerouteRetarder_eq, Part.holding_untouched, lost]
  split <;> rfl

/-- A fold does not read the held clear when its steps do not. -/
theorem foldl_holding {α : Type} {f : Part → α → Part} (step : ∀ q x, f (Part.holding q held) x = (f q x).holding held)
    (l : List α) : l.foldl f (p.holding held) = (l.foldl f p).holding held := by
  induction l generalizing p with
  | nil => rfl
  | cons x l ih => exact (congrArg (l.foldl f) (step p x)).trans (ih (f p x))

theorem Part.updateNodes_holding (routes : Axles Route) (retarder : Option Nat) :
    (p.holding held).updateNodes routes retarder = (p.updateNodes routes retarder).holding held := by
  unfold Part.updateNodes
  simp only [Part.holding_untouched, Part.holding_read,
    foldl_holding p held fun q e => Part.removeNode_holding q held e]
  rfl

theorem Part.rerouted_holding (routes : Axles Route) (retarder : Option Nat) :
    (p.holding held).rerouted routes retarder = (p.rerouted routes retarder).holding held := by
  have reset : (p.holding held).channelsReset (p.changedAxles routes) routes =
      (p.channelsReset (p.changedAxles routes) routes).holding held :=
    foldl_holding p held (fun q a => Part.resetChannel_holding q held a (routes.get a)) _
  have routed : (p.holding held).routed routes retarder = (p.routed routes retarder).holding held := by
    unfold Part.routed
    rw [p.changedAxles_holding held, reset]
    exact Part.updateNodes_holding
      { p.channelsReset (p.changedAxles routes) routes with retRoute := retarder } held routes retarder
  have rejudged : (p.holding held).rejudged routes retarder = (p.rejudged routes retarder).holding held := by
    unfold Part.rejudged
    rw [p.changedAxles_holding held, routed]
    exact foldl_holding _ held (fun q a => Part.judgeChannel_holding q held a) _
  have retargeted : (p.holding held).retargeted routes retarder = (p.retargeted routes retarder).holding held := by
    unfold Part.retargeted
    rw [p.changedAxles_holding held, rejudged]
    exact foldl_holding _ held (fun q a => Part.postTarget_holding q held a) _
  unfold Part.rerouted
  rw [retargeted]
  simp

end

end Sys2Proof.Machine
end

section
/-! PROOF. The conditions that a ROUTE ends, and the channels that it resets (R141, R156). -/

namespace Sys2Proof.Machine

/-! ## Conditions ended in turn (R185) -/

/-- The part with conditions ended, one after another. -/
def Part.ends (p : Part) (l : List (Source × FaultCode)) : Part := l.foldl (fun p x => p.faultEnds x.1 x.2) p

theorem Part.ends_faults (p : Part) (l : List (Source × FaultCode)) :
    (p.ends l).faults = l.foldl (fun f x => (f.ended x.1 x.2).1) p.faults := by
  induction l generalizing p with
  | nil => rfl
  | cons x l ih => exact (ih _).trans (by simp)

/-- FAULTS_CHANGED is set when the condition ended was present. -/
theorem Part.faultEnds_changed (p : Part) (src : Source) (code : FaultCode) :
    (p.faultEnds src code).flags = { p.flags with
      faultsChanged := p.flags.faultsChanged || p.faults.entries.any fun e => e.is src code && e.present } := by
  unfold Part.faultEnds FaultTable.ended
  dsimp only
  split
  · next changed => rw [changed, Bool.or_true]; rfl
  · next unchanged => rw [Bool.eq_false_of_not_eq_true unchanged, Bool.or_false]

theorem any_or_any {α : Type} (l : List α) (f g : α → Bool) : (l.any f || l.any g) = l.any fun x => f x || g x := by
  induction l with
  | nil => rfl
  | cons x l ih => simp only [List.any_cons, ← ih]; ac_rfl

/-- FAULTS_CHANGED is set when one of the conditions ended was present. -/
theorem Part.ends_flags (p : Part) (l : List (Source × FaultCode)) : (p.ends l).flags = { p.flags with
    faultsChanged := p.flags.faultsChanged || p.faults.entries.any fun e =>
      e.present && l.contains (e.source, e.code) } := by
  induction l generalizing p with
  | nil =>
    have none_ : (p.faults.entries.any fun e => e.present && [].contains (e.source, e.code)) = false := by simp
    rw [none_, Bool.or_false]
    rfl
  | cons x l ih =>
    have stillPresent : ((p.faults.ended x.1 x.2).1.entries.any fun e => e.present && l.contains (e.source, e.code)) =
        p.faults.entries.any fun e => !e.is x.1 x.2 && (e.present && l.contains (e.source, e.code)) := by
      rw [FaultTable.ended, List.any_map]
      refine congrArg p.faults.entries.any (funext fun e => ?_)
      by_cases this : e.is x.1 x.2 = true <;> simp [this]
    have either : ∀ e : FaultEntry, (e.is x.1 x.2 && e.present ||
        !e.is x.1 x.2 && (e.present && l.contains (e.source, e.code))) =
        (e.present && (x :: l).contains (e.source, e.code)) := fun e => by
      have same : e.is x.1 x.2 = ((e.source, e.code) == x) := by
        rw [FaultEntry.is, ← Bool.decide_and, beq_eq_decide]
        exact decide_eq_decide.mpr (Prod.ext_iff (x := (e.source, e.code)) (y := x)).symm
      rw [same, List.contains_cons]
      cases e.present <;> cases (e.source, e.code) == x <;> simp
    have later : ((p.faultEnds x.1 x.2).ends l).flags = _ := ih _
    rw [Part.faultEnds_changed, Part.faultEnds_faults, stillPresent] at later
    refine later.trans ?_
    simp only [Bool.or_assoc, any_or_any, either]

/-- An operation ends conditions, and does nothing else to the fault table and the flags. -/
structure EndsConditions (l : List (Source × FaultCode)) (p q : Part) : Prop where
  faults : q.faults = (p.ends l).faults
  flags : q.flags = (p.ends l).flags

namespace EndsConditions

theorem of_kept {p q : Part} (faults : q.faults = p.faults) (flags : q.flags = p.flags) : EndsConditions [] p q :=
  ⟨faults, flags⟩

theorem trans {l m : List (Source × FaultCode)} {p q r : Part} (h : EndsConditions l p q) (h' : EndsConditions m q r) :
    EndsConditions (l ++ m) p r where
  faults := by
    rw [h'.faults, Part.ends_faults, h.faults, ← Part.ends_faults, Part.ends, Part.ends, ← List.foldl_append]
    rfl
  flags := by
    rw [h'.flags, Part.ends_flags, h.flags, h.faults]
    exact ((p.ends l).ends_flags m).symm.trans (congrArg Part.flags (List.foldl_append ..).symm)

/-- A condition that is ended when it is present. -/
theorem ite (p : Part) (c : Bool) (src : Source) (code : FaultCode) :
    EndsConditions (if c then [(src, code)] else []) p (if c then p.faultEnds src code else p) := by
  cases c with
  | true => exact ⟨rfl, rfl⟩
  | false => exact ⟨rfl, rfl⟩

end EndsConditions

/-! ## A changed channel is reset (R141) -/

/-- A channel as a change of its route leaves it, its availability not yet judged (R141). -/
def Channel.rerouted (c : Channel) (x : Route) (now : Time) : Channel where
  route := x
  state := if x = .unrouted then none else some .backup
  lastDemand := 0
  measured := none
  sensorOut := false
  tracking := none
  lastSent := none
  available := c.available
  sampling := if x = .localStage then some ⟨now, 5⟩ else none
  switched := false

section

variable (p : Part)

/-- The part with SENSOR of a changed channel ended (R141). -/
def Part.sensorEnded (a : Axle) : Part := if (p.chan.get a).sensorOut then p.faultEnds (.axle a) .sensor else p

theorem Part.resetChannel_eq (a : Axle) (x : Route) : p.resetChannel a x =
    ((p.sensorEnded a).setChannel a ((p.chan.get a).rerouted x (p.sensorEnded a).now)).discardLanes
      fun l => decide (l = .channelLink a) := rfl

@[simp] theorem Part.sensorEnded_untouched (a : Axle) : (p.sensorEnded a).now = p.now ∧
    (p.sensorEnded a).chan = p.chan ∧ (p.sensorEnded a).handed = p.handed := by
  unfold Part.sensorEnded
  split <;> simp

theorem Part.resetChannel_chan (a : Axle) (x : Route) :
    (p.resetChannel a x).chan = p.chan.set a ((p.chan.get a).rerouted x p.now) := by
  simp [Part.resetChannel_eq]

theorem Part.resetChannel_handed (a : Axle) (x : Route) :
    (p.resetChannel a x).handed = p.handed.filter fun h => !decide (h.lane = .channelLink a) := by
  simp [Part.resetChannel_eq, Part.discardLanes, Part.setChannel]

theorem Part.resetChannel_ends (a : Axle) (x : Route) :
    EndsConditions (if (p.chan.get a).sensorOut then [(.axle a, .sensor)] else []) p (p.resetChannel a x) :=
  have ended := EndsConditions.ite p (p.chan.get a).sensorOut (.axle a) .sensor
  ⟨ended.faults, ended.flags⟩

end

section

variable (routes : Axles Route)

theorem Part.channelsReset_now (l : List Axle) (p : Part) : (p.channelsReset l routes).now = p.now :=
  foldl_kept Part.now (fun q a => by simp [Part.resetChannel_eq, Part.discardLanes, Part.setChannel]) l p

/-- Each changed channel is reset once, and the others are kept (R141). -/
theorem Part.channelsReset_get {l : List Axle} (distinct : l.Nodup) (p : Part) (b : Axle) :
    (p.channelsReset l routes).chan.get b =
      if b ∈ l then (p.chan.get b).rerouted (routes.get b) p.now else p.chan.get b := by
  induction l generalizing p with
  | nil => rfl
  | cons a l ih =>
    obtain ⟨fresh, distinct⟩ := List.nodup_cons.mp distinct
    have later := ih distinct (p.resetChannel a (routes.get a))
    have now : (p.resetChannel a (routes.get a)).now = p.now := Part.channelsReset_now routes [a] p
    rw [Part.resetChannel_chan, now] at later
    refine Eq.trans later ?_
    by_cases same : b = a
    · simp [same, fresh]
    · simp [same]

theorem Part.channelsReset_handed (l : List Axle) (p : Part) : (p.channelsReset l routes).handed =
    p.handed.filter fun h => !l.any fun a => h.lane == .channelLink a := by
  induction l generalizing p with
  | nil => exact (List.filter_eq_self.mpr fun _ _ => rfl).symm
  | cons a l ih =>
    refine (ih (p.resetChannel a (routes.get a))).trans ?_
    rw [Part.resetChannel_handed, List.filter_filter]
    refine List.filter_congr fun h _ => ?_
    simp [beq_eq_decide, Bool.and_comm]

/-- SENSOR of the changed channels that it is present for stops being present, in the order of the axles (R141). -/
theorem Part.channelsReset_ends {l : List Axle} (distinct : l.Nodup) (p : Part) :
    EndsConditions ((l.filter fun a => (p.chan.get a).sensorOut).map fun a => (.axle a, .sensor)) p
      (p.channelsReset l routes) := by
  induction l generalizing p with
  | nil => exact .of_kept rfl rfl
  | cons a l ih =>
    obtain ⟨fresh, distinct⟩ := List.nodup_cons.mp distinct
    have kept : ∀ b ∈ l, ((p.resetChannel a (routes.get a)).chan.get b).sensorOut = (p.chan.get b).sensorOut :=
      fun b hb => by
        have other : b ≠ a := fun same => fresh (same ▸ hb)
        simp [Part.resetChannel_chan, other]
    have later := ih distinct (p.resetChannel a (routes.get a))
    rw [List.filter_congr kept] at later
    have both := (p.resetChannel_ends a (routes.get a)).trans later
    rw [List.filter_cons]
    cases out : (p.chan.get a).sensorOut with
    | true | false =>
      rw [out] at both
      exact both

end

end Sys2Proof.Machine
end

section
/-! PROOF. What a ROUTE leaves alone, the node table it makes, and what happens to the link's requests for the nodes
that it removes (R155, R156). -/

namespace Sys2Proof.Machine

open Safety

/-! ## What the stages of a ROUTE leave alone -/

/-- What every stage of a ROUTE leaves alone. -/
structure RouteFrame (p q : Part) : Prop where
  now : q.now = p.now
  control : q.control = p.control
  store : q.store = p.store
  demand : q.demand = p.demand
  motion : q.motion = p.motion
  slip : q.slip = p.slip
  thermal : q.thermal = p.thermal
  fswClosed : q.fswClosed = p.fswClosed
  flap : q.flap = p.flap
  vl : q.vl = p.vl

/-- What the stages before the retarder route's leave alone. -/
structure ChannelStage (p q : Part) : Prop extends RouteFrame p q where
  cap : q.cap = p.cap
  ret : q.ret = p.ret

theorem RouteFrame.trans {p q r : Part} (h : RouteFrame p q) (h' : RouteFrame q r) : RouteFrame p r where
  now := h'.now.trans h.now
  control := h'.control.trans h.control
  store := h'.store.trans h.store
  demand := h'.demand.trans h.demand
  motion := h'.motion.trans h.motion
  slip := h'.slip.trans h.slip
  thermal := h'.thermal.trans h.thermal
  fswClosed := h'.fswClosed.trans h.fswClosed
  flap := h'.flap.trans h.flap
  vl := h'.vl.trans h.vl

namespace ChannelStage

theorem of_eq {p q : Part} (h : q.now = p.now ∧ q.control = p.control ∧ q.store = p.store ∧ q.demand = p.demand ∧
    q.motion = p.motion ∧ q.slip = p.slip ∧ q.thermal = p.thermal ∧ q.fswClosed = p.fswClosed ∧ q.flap = p.flap ∧
    q.vl = p.vl ∧ q.cap = p.cap ∧ q.ret = p.ret) : ChannelStage p q := by
  obtain ⟨now, control, store, demand, motion, slip, thermal, fswClosed, flap, vl, cap, ret⟩ := h
  exact ⟨⟨now, control, store, demand, motion, slip, thermal, fswClosed, flap, vl⟩, cap, ret⟩

theorem refl (p : Part) : ChannelStage p p := of_eq (by simp)

theorem trans {p q r : Part} (h : ChannelStage p q) (h' : ChannelStage q r) : ChannelStage p r where
  toRouteFrame := h.toRouteFrame.trans h'.toRouteFrame
  cap := h'.cap.trans h.cap
  ret := h'.ret.trans h.ret

theorem foldl {α : Type} {f : Part → α → Part} (step : ∀ p x, ChannelStage p (f p x)) (l : List α) (p : Part) :
    ChannelStage p (l.foldl f p) := by
  induction l generalizing p with
  | nil => exact refl p
  | cons x l ih => exact (step p x).trans (ih (f p x))

theorem resetChannel (p : Part) (a : Axle) (x : Route) : ChannelStage p (p.resetChannel a x) := of_eq (by
  unfold Part.resetChannel
  dsimp only
  split <;> simp)

theorem removeNode (p : Part) (e : NodeEntry) : ChannelStage p (p.removeNode e) := of_eq (by
  unfold Part.removeNode
  dsimp only
  split <;> split <;> simp)

theorem updateNodes (p : Part) (routes : Axles Route) (retarder : Option Nat) :
    ChannelStage p (p.updateNodes routes retarder) :=
  (foldl removeNode (p.link.nodes.filter fun e => !p.keepsNode routes retarder e.addr) p).trans (of_eq (by
    simp [Part.updateNodes]))

theorem judgeChannel (p : Part) (a : Axle) : ChannelStage p (p.judgeChannel a) := of_eq (by simp)

theorem postTarget (p : Part) (a : Axle) : ChannelStage p (p.postTarget a) := of_eq (by simp)

end ChannelStage

/-! ## Nodes are removed (R156) -/

/-- The conditions of a node that stop being present once it is removed. -/
def NodeEntry.conditions (e : NodeEntry) : List (Source × FaultCode) :=
  (if e.lostPresent then [(.node e.addr, .nodeLost)] else []) ++
    if e.reported then [(.node e.addr, .reported)] else []

theorem Part.removeNode_ends (p : Part) (e : NodeEntry) : EndsConditions e.conditions p (p.removeNode e) := by
  have ended := (EndsConditions.ite p e.lostPresent (.node e.addr) .nodeLost).trans
    (.ite _ e.reported (.node e.addr) .reported)
  exact ⟨ended.faults, ended.flags⟩

theorem Part.nodesRemoved_ends (p : Part) (gone : List NodeEntry) :
    EndsConditions (gone.flatMap NodeEntry.conditions) p (p.nodesRemoved gone) := by
  induction gone generalizing p with
  | nil => exact .of_kept rfl rfl
  | cons e gone ih => exact (p.removeNode_ends e).trans (ih (p.removeNode e))

@[simp] theorem Part.removeNode_link (p : Part) (e : NodeEntry) : (p.removeNode e).link = p.link.without e.addr := by
  have kept : (p.conditionsEnded e).link = p.link := by
    unfold Part.conditionsEnded
    dsimp only
    split <;> split <;> simp
  rw [Part.removeNode_eq, kept]

theorem Part.nodesRemoved_handed (p : Part) (gone : List NodeEntry) :
    (p.nodesRemoved gone).handed = p.handed ∧ (p.nodesRemoved gone).app = p.app := by
  have kept := foldl_kept (fun p : Part => (p.handed, p.app)) (f := Part.removeNode) (fun q e => by
    unfold Part.removeNode
    dsimp only
    split <;> split <;> simp) gone p
  exact Prod.ext_iff.mp kept

theorem LinkController.without_inFlight {l : LinkController} {t : Transaction} (phase : l.phase = .inFlight t)
    (addr : Nat) :
    (l.without addr).phase = .inFlight { t with orphan := t.orphan || decide (addr = t.request.addr) } := by
  by_cases same : t.request.addr = addr
  · simp [LinkController.without, phase, same]
  · simp [LinkController.without, phase, same, Ne.symm same]

/-- A transaction in flight to one of the nodes removed has lost its node (R156). -/
theorem Part.nodesRemoved_inFlight {p : Part} {t : Transaction} (phase : p.link.phase = .inFlight t)
    (gone : List NodeEntry) : (p.nodesRemoved gone).link.phase =
      .inFlight { t with orphan := t.orphan || gone.any fun e => decide (e.addr = t.request.addr) } := by
  induction gone generalizing p t with
  | nil => simpa [Part.nodesRemoved] using phase
  | cons e gone ih =>
    have first := LinkController.without_inFlight phase e.addr
    rw [← Part.removeNode_link] at first
    refine (ih first).trans ?_
    rw [List.any_cons, Bool.or_assoc]

theorem Part.nodesRemoved_abandoned {p : Part} {w : Option Timer} (phase : p.link.phase = .abandoned w)
    (gone : List NodeEntry) : (p.nodesRemoved gone).link.phase = .abandoned w := by
  induction gone generalizing p with
  | nil => exact phase
  | cons e gone ih => exact ih (by simp [LinkController.without, phase])

/-! ## The node table is compared with the routes (R156) -/

section

variable {p : Part} {routes : Axles Route} {retarder : Option Nat}

/-- The entries that a ROUTE removes from the node table. -/
def Part.goneNodes (p : Part) (routes : Axles Route) (retarder : Option Nat) : List NodeEntry :=
  p.link.nodes.filter fun e => !p.keepsNode routes retarder e.addr

theorem Part.updateNodes_eq (p : Part) (routes : Axles Route) (retarder : Option Nat) :
    p.updateNodes routes retarder = { p.nodesRemoved (p.goneNodes routes retarder) with
      link := { (p.nodesRemoved (p.goneNodes routes retarder)).link with
        nodes := (p.updateNodes routes retarder).link.nodes } } := rfl

theorem Part.keepsNode_eq (p : Part) (routes : Axles Route) (retarder : Option Nat) (x : Nat) :
    p.keepsNode routes retarder x = (p.link.nodes.find? fun e => e.addr == x).any
      fun e => decide (useOf routes retarder x = some e.use) := by
  unfold Part.keepsNode Part.node
  cases p.link.nodes.find? fun e => e.addr == x with
  | none => rfl
  | some e =>
    cases useOf routes retarder x with
    | none => rfl
    | some u => simp [eq_comm]

theorem Part.goneNodes_any (p : Part) (routes : Axles Route) (retarder : Option Nat) (x : Nat) :
    ((p.goneNodes routes retarder).any fun e => decide (e.addr = x)) =
      (decide (∃ e ∈ p.link.nodes, e.addr = x) && !p.keepsNode routes retarder x) := by
  rw [Bool.eq_iff_iff]
  simp only [Part.goneNodes, List.any_eq_true, List.mem_filter, Bool.and_eq_true, decide_eq_true_eq]
  constructor
  · rintro ⟨e, ⟨he, gone⟩, rfl⟩
    exact ⟨⟨e, he, rfl⟩, gone⟩
  · rintro ⟨⟨e, he, rfl⟩, gone⟩
    exact ⟨e, ⟨he, gone⟩, rfl⟩

/-- Each entry of the new table is one of the old, or one that has just entered. -/
theorem Part.mem_updateNodes {e : NodeEntry} (he : e ∈ (p.updateNodes routes retarder).link.nodes) :
    e ∈ p.link.nodes ∨ e = p.newNode e.addr e.use := by
  obtain ⟨x, -, entry⟩ := List.mem_filterMap.mp he
  obtain ⟨u, use, entry⟩ := Option.map_eq_some_iff.mp entry
  split at entry
  · cases node : p.node x with
    | none =>
      right
      rw [node, Option.getD_none] at entry
      rw [← entry]
      rfl
    | some old =>
      left
      rw [node, Option.getD_some] at entry
      exact entry ▸ (Part.node_mem node).1
  · right
    rw [← entry]
    rfl

/-- An entry whose address is routed as before is kept. -/
theorem Part.updateNodes_keeps {e : NodeEntry} (node : p.node e.addr = some e) (inTable : e.addr ∈ allAddrs)
    (use : useOf routes retarder e.addr = some e.use) : e ∈ (p.updateNodes routes retarder).link.nodes := by
  have keeps : p.keepsNode routes retarder e.addr = true := by
    rw [Part.keepsNode_eq]
    simp [show p.link.nodes.find? (fun x => x.addr == e.addr) = some e from node, use]
  refine List.mem_filterMap.mpr ⟨e.addr, inTable, ?_⟩
  simp [use, keeps, node]

/-- A routed address has an entry in the new table. -/
theorem Part.updateNodes_node {x : Nat} (inTable : x ∈ allAddrs) {u : NodeUse}
    (use : useOf routes retarder x = some u) : ((p.updateNodes routes retarder).node x).isSome = true := by
  have entered : (x, u) ∈ (p.updateNodes routes retarder).link.nodes.map fun e => (e.addr, e.use) := by
    rw [Part.updateNodes_table]
    exact List.mem_filterMap.mpr ⟨x, inTable, by rw [use, Option.map_some]⟩
  obtain ⟨e, he, key⟩ := List.mem_map.mp entered
  rw [Part.node, List.find?_isSome]
  exact ⟨e, he, beq_iff_eq.mpr (congrArg Prod.fst key)⟩

end

end Sys2Proof.Machine
end

section
/-! PROOF. What the link makes of posts for nodes that have just entered its table: what is queued, what stands, and
when it has chosen (R157, R159, R160). -/

namespace Sys2Proof.Machine

/-! ## The link has chosen (R159) -/

/-- The link has nothing to choose, or may not choose yet. -/
def Part.Chosen (p : Part) : Prop :=
  p.link.phase ≠ .idle ∨ p.lossWaiting = true ∨
    chooseRequest p.now (p.setting idStarvation) (p.setting idArbiterMode == 1) (p.link.nodes.map (·.addr))
      p.link.lastServed p.link.queue = none

theorem Part.chooseNext_of_chosen {p : Part} (chosen : p.Chosen) : p.chooseNext = p := by
  unfold Part.chooseNext
  obtain busy | waits | none_ := chosen
  · split
    · next idle => exact absurd idle busy
    · rfl
    · rfl
  · (repeat' split) <;> simp_all
  · (repeat' split) <;> simp_all

/-- An idle link begins a transaction for the request it chooses, or has chosen already. -/
theorem Part.chooseNext_cases (p : Part) :
    p.Chosen ∧ p.chooseNext = p ∨ p.link.phase = .idle ∧ ∃ r, p.chooseNext = p.beginTransaction r := by
  by_cases chosen : p.Chosen
  · exact .inl ⟨chosen, Part.chooseNext_of_chosen chosen⟩
  · right
    simp only [Part.Chosen, not_or, not_not, Bool.not_eq_true] at chosen
    obtain ⟨idle, ready, some_⟩ := chosen
    obtain ⟨r, choice⟩ := Option.ne_none_iff_exists'.mp some_
    exact ⟨idle, r, by simp only [Part.chooseNext, idle, ready, choice, Bool.false_eq_true, if_false]⟩

theorem Part.chooseNext_chosen (p : Part) : p.chooseNext.Chosen := by
  obtain ⟨chosen, same⟩ | ⟨-, r, begun⟩ := p.chooseNext_cases
  · rwa [same]
  · left
    rw [begun]
    simp [Part.beginTransaction]

/-! ## What posts leave standing (R157, R160) -/

/-- A property of the link that its choice keeps, and that posting the requests of a kind keeps. -/
structure LinkKept (ok : Nat → Payload → Prop) (P : Part → Prop) : Prop where
  framed : ∀ {p q}, q.now = p.now → q.link = p.link → P p → P q
  begun : ∀ {p} r, p.link.phase = .idle → P p → P (p.beginTransaction r)
  placed : ∀ {p addr payload}, ok addr payload → P p → P (p.placed addr payload)

/-- Posting a target leaves each channel's route and target. -/
theorem Part.postTarget_keeps (p : Part) (a b : Axle) :
    ((p.postTarget a).chan.get b).route = (p.chan.get b).route ∧
      ((p.postTarget a).chan.get b).target = (p.chan.get b).target := by
  rw [Part.postTarget_chan]
  by_cases same : b = a
  · obtain ⟨route, state, demand, -⟩ := (p.chan.get a).posted_items
    simp [same, route, Channel.target, state, demand]
  · simp [same]

theorem Part.foldl_postTarget_route (l : List Axle) (p : Part) (b : Axle) :
    ((l.foldl Part.postTarget p).chan.get b).route = (p.chan.get b).route :=
  foldl_kept (fun q : Part => (q.chan.get b).route) (fun q a => (q.postTarget_keeps a b).1) l p

/-- The channels of the other axles are left. -/
theorem Part.foldl_postTarget_other {l : List Axle} {b : Axle} (other : b ∉ l) {p : Part} :
    (l.foldl Part.postTarget p).chan.get b = p.chan.get b := by
  induction l generalizing p with
  | nil => rfl
  | cons a l ih =>
    obtain ⟨same, other⟩ := not_or.mp (List.mem_cons.not.mp other)
    exact (ih other).trans (by simp [Part.postTarget_chan, same])

namespace LinkKept

variable {ok : Nat → Payload → Prop} {P : Part → Prop} (kept : LinkKept ok P) {p : Part}
include kept

theorem chooseNext (h : P p) : P p.chooseNext := by
  obtain ⟨-, same⟩ | ⟨idle, r, begun⟩ := p.chooseNext_cases
  · rwa [same]
  · rw [begun]
    exact kept.begun r idle h

theorem post {addr : Nat} {payload : Payload} (allowed : ok addr payload) (h : P p) : P (p.post addr payload) := by
  rw [Part.post_eq]
  split
  · exact kept.chooseNext (kept.placed allowed h)
  · exact h

theorem postTarget {a : Axle}
    (allowed : ∀ x, (p.chan.get a).route = .remote x → ok x (.axleDemand (p.chan.get a).target)) (h : P p) :
    P (p.postTarget a) := by
  unfold Part.postTarget
  dsimp only
  split
  · next x route =>
    split
    · exact h
    · exact kept.post (allowed x route) (kept.framed (p := p) rfl rfl h)
  · exact h
  · exact h

theorem foldl_postTarget {l : List Axle}
    (allowed : ∀ a ∈ l, ∀ x, (p.chan.get a).route = .remote x → ok x (.axleDemand (p.chan.get a).target)) (h : P p) :
    P (l.foldl Part.postTarget p) := by
  induction l generalizing p with
  | nil => exact h
  | cons a l ih =>
    refine ih (fun b hb x => ?_) (kept.postTarget (allowed a List.mem_cons_self) h)
    obtain ⟨route, target⟩ := p.postTarget_keeps a b
    rw [route, target]
    exact allowed b (List.mem_cons_of_mem a hb) x

theorem sendRetarder {t : RetarderTarget} (allowed : ∀ x, p.retRoute = some x → ok x (.retarderDemand t)) (h : P p) :
    P (p.sendRetarder t) := by
  unfold Part.sendRetarder Part.postRetarder
  split
  · next x route => exact kept.post (allowed x route) (kept.framed (p := p) rfl rfl h)
  · exact kept.framed (p := p) rfl rfl h

theorem loseRetarder (allowed : ∀ x, p.retRoute = some x → ok x (.retarderDemand ⟨false, 0⟩)) (h : P p) :
    P p.loseRetarder := by
  have drained : P (p.enterRetarder .drained) := by
    unfold Part.enterRetarder Part.retargetRetarder
    dsimp only
    split
    · exact kept.framed (p := p) rfl rfl h
    · exact kept.sendRetarder allowed (kept.framed (p := p) rfl rfl h)
  unfold Part.loseRetarder
  split <;> assumption

theorem rerouteRetarder {old : Option Nat}
    (allowed : p.retRoute ≠ old → ∀ x, p.retRoute = some x → ok x (.retarderDemand ⟨false, 0⟩)) (h : P p) :
    P (p.rerouteRetarder old) := by
  rw [Part.rerouteRetarder_eq]
  split
  · exact h
  · next moved =>
    have forgotten : P p.unitForgotten := kept.framed (p := p) rfl rfl h
    have lost := kept.loseRetarder (p := p.unitForgotten) (allowed moved) forgotten
    exact kept.framed (p := p.unitForgotten.loseRetarder) rfl rfl lost

end LinkKept

/-! ## Properties that posts keep -/

/-- What is queued is one of the old requests, for a node that is kept, or a release that was posted now for another. -/
def Part.QueuedOf (old : List Request) (keeps : Nat → Bool) (p : Part) : Prop :=
  ∀ r ∈ p.link.queue, r ∈ old ∧ keeps r.addr = true ∨ keeps r.addr = false ∧ r.enqueued = p.now ∧
    (r.payload = .axleDemand .release ∨ r.payload = .retarderDemand ⟨false, 0⟩)

/-- A request is queued, or its transaction has just begun. -/
def Part.Stands (r : Request) (p : Part) : Prop :=
  r ∈ p.link.queue ∨ p.link.phase = .inFlight ⟨r, p.now, none, false⟩

/-- Nothing is queued for an address. -/
def Part.Unqueued (x : Nat) (p : Part) : Prop := ∀ r ∈ p.link.queue, r.addr ≠ x

theorem mem_placeRequest_cases {queue : List Request} {now : Time} {addr : Nat} {payload : Payload} {r : Request}
    (h : r ∈ placeRequest queue now addr payload) : r ∈ queue ∨ r = ⟨addr, now, payload⟩ ∨
      ∃ old ∈ queue, old.addr = addr ∧ r = { old with payload := payload } := by
  unfold placeRequest at h
  split at h
  · split at h
    · obtain ⟨old, hold, rfl⟩ := List.mem_map.mp h
      split
      · next same =>
        refine .inr (.inr ⟨old, hold, ?_, rfl⟩)
        exact beq_iff_eq.mp (Bool.and_eq_true_iff.mp same).1
      · exact .inl hold
    · exact (List.mem_append.mp h).imp_right fun new => .inl (List.mem_singleton.mp new)
  · split at h
    · exact .inl h
    · exact (List.mem_append.mp h).imp_right fun new => .inl (List.mem_singleton.mp new)

/-- A queued request for another address stays queued. -/
theorem mem_placeRequest_of_mem {queue : List Request} {now : Time} {addr : Nat} {payload : Payload} {r : Request}
    (h : r ∈ queue) (other : r.addr ≠ addr) : r ∈ placeRequest queue now addr payload := by
  unfold placeRequest
  split
  · split
    · exact List.mem_map.mpr ⟨r, h, by simp [Request.demandFor, other]⟩
    · exact List.mem_append_left _ h
  · split
    · exact h
    · exact List.mem_append_left _ h

theorem LinkKept.queuedOf (old : List Request) (keeps : Nat → Bool) :
    LinkKept (fun x payload => keeps x = false ∧
      (payload = .axleDemand .release ∨ payload = .retarderDemand ⟨false, 0⟩)) (Part.QueuedOf old keeps) where
  framed now link h := by rwa [Part.QueuedOf, now, link]
  begun r _ h x hx := h x (List.mem_of_mem_erase hx)
  placed := by
    rintro p addr payload ⟨fresh, release⟩ h r hr
    obtain hr | rfl | ⟨before, hbefore, rfl, rfl⟩ := mem_placeRequest_cases hr
    · exact h r hr
    · exact .inr ⟨fresh, rfl, release⟩
    · obtain ⟨-, stays⟩ | ⟨-, now, -⟩ := h before hbefore
      · exact absurd fresh (by simp [stays])
      · exact .inr ⟨fresh, now, release⟩

theorem LinkKept.stands (r : Request) : LinkKept (fun x _ => x ≠ r.addr) (Part.Stands r) where
  framed now link h := by rwa [Part.Stands, now, link]
  begun {p} chosen idle h := by
    obtain queued | flying := h
    · by_cases same : r = chosen
      · exact .inr (same ▸ rfl)
      · exact .inl ((List.mem_erase_of_ne same).mpr queued)
    · exact absurd (idle.symm.trans flying) (by simp)
  placed other h := h.imp (fun queued => mem_placeRequest_of_mem queued (Ne.symm other)) id

theorem LinkKept.unqueued (x : Nat) : LinkKept (fun y _ => y ≠ x) (Part.Unqueued x) where
  framed _ link h := by rwa [Part.Unqueued, link]
  begun r _ h y hy := h y (List.mem_of_mem_erase hy)
  placed := by
    intro p addr payload other h r hr
    obtain hr | rfl | ⟨before, hbefore, rfl, rfl⟩ := mem_placeRequest_cases hr
    · exact h r hr
    · exact other
    · exact other

theorem LinkKept.phase {busy : LinkPhase} (notIdle : busy ≠ .idle) :
    LinkKept (fun _ _ => True) fun p => p.link.phase = busy where
  framed _ link h := by rwa [link]
  begun r idle h := absurd (h.symm.trans idle) notIdle
  placed _ h := h

/-- A DEMAND posted for a node of the table with nothing queued for it stands. -/
theorem Part.stands_post {p : Part} {x : Nat} {payload : Payload} (demand : payload.isDemand = true)
    (node : (p.node x).isSome = true) (unqueued : p.Unqueued x) : (p.post x payload).Stands ⟨x, p.now, payload⟩ := by
  have alone : p.link.queue.any (·.demandFor x) = false := by
    simpa [Request.demandFor] using fun r hr same => absurd same (unqueued r hr)
  have placed : (p.placed x payload).Stands ⟨x, p.now, payload⟩ :=
    .inl (by simp [Part.placed, placeRequest, demand, alone])
  rw [Part.post_eq, if_pos node]
  exact (LinkKept.stands _).chooseNext placed

/-- The release of a channel that has sent no target stands, once the axles in turn have posted theirs. -/
theorem Part.stands_foldl_postTarget {p : Part} {l : List Axle} (distinct : l.Nodup) {a : Axle} (named : a ∈ l)
    {x : Nat} (route : (p.chan.get a).route = .remote x) (unsent : (p.chan.get a).lastSent = none)
    (target : (p.chan.get a).target = .release)
    (others : ∀ b ∈ l, b ≠ a → (p.chan.get b).route ≠ .remote x) (node : (p.node x).isSome = true)
    (unqueued : p.Unqueued x) : (l.foldl Part.postTarget p).Stands ⟨x, p.now, .axleDemand .release⟩ := by
  obtain ⟨before, after, rfl⟩ := List.append_of_mem named
  rw [List.nodup_append, List.nodup_cons] at distinct
  obtain ⟨-, ⟨notAfter, -⟩, apart⟩ := distinct
  have notBefore : a ∉ before := fun named => apart a named a List.mem_cons_self rfl
  let q := before.foldl Part.postTarget p
  have channel : q.chan.get a = p.chan.get a := Part.foldl_postTarget_other notBefore
  have now : q.now = p.now := foldl_kept Part.now (fun q b => by simp) before p
  have still : q.Unqueued x := (LinkKept.unqueued x).foldl_postTarget (fun b hb y routed same =>
    others b (by simp [hb]) (fun eq => notBefore (eq ▸ hb)) (same ▸ routed)) unqueued
  have inTable : (q.node x).isSome = true := by
    rwa [Part.node, ActsOnChannel.posts.foldl_nodes]
  have posted : (q.postTarget a).Stands ⟨x, p.now, .axleDemand .release⟩ := by
    unfold Part.postTarget
    simp only [channel, route, unsent, target, reduceCtorEq, if_false, ← now]
    exact Part.stands_post rfl inTable still
  rw [List.foldl_append, List.foldl_cons]
  refine (LinkKept.stands _).foldl_postTarget (fun b hb y routed same => ?_) posted
  have other : b ≠ a := fun eq => notAfter (eq ▸ hb)
  rw [(q.postTarget_keeps a b).1, Part.foldl_postTarget_route] at routed
  exact others b (by simp [hb]) other (routed.trans (congrArg Route.remote same))

end Sys2Proof.Machine
end

section
/-! PROOF. The part that a ROUTE makes: its channels, its node table, its hand-offs, and the units (R141, R156). -/

namespace Sys2Proof.Machine

/-! ## Channels judged while passes are stopped (R142) -/

section

variable {p : Part}

theorem Part.judgeChannel_of_idle {a : Axle} (stopped : p.passesRun = false)
    (idle : (p.chan.get a).state ≠ some .commanded) :
    (p.judgeChannel a).app = p.app ∧ (p.judgeChannel a).link = p.link ∧
      (p.judgeChannel a).handed = p.handed ++
        if (p.chan.get a).available != (p.chan.get a).availableIn p.link.nodes then [.recompute] else [] := by
  have kept : p.releasedUnlessAvailable a = p := by simp [Part.releasedUnlessAvailable, idle]
  have unshared : ∀ b, (p.availabilityPublished a b).withdrawShare a = p.availabilityPublished a b := fun b => by
    have stopped : (p.availabilityPublished a b).passesRun = false := stopped
    simp [Part.withdrawShare, stopped]
  rw [Part.judgeChannel_eq, kept, Part.channelAvailable_eq, unshared, ite_self]
  by_cases same : (p.chan.get a).available = (p.chan.get a).availableIn p.link.nodes
  · simp [same]
  · rw [if_neg same, if_pos (by simpa using same)]
    exact ⟨rfl, rfl, rfl⟩

/-- A channel's change of availability is handed on, and nothing else (R142). -/
theorem Part.foldl_judgeChannel_of_idle {l : List Axle} (distinct : l.Nodup) (stopped : p.passesRun = false)
    (idle : ∀ a ∈ l, (p.chan.get a).state ≠ some .commanded) :
    (l.foldl Part.judgeChannel p).app = p.app ∧ (l.foldl Part.judgeChannel p).link = p.link ∧
      (l.foldl Part.judgeChannel p).handed = p.handed ++ List.replicate
        (l.filter fun a => (p.chan.get a).available != (p.chan.get a).availableIn p.link.nodes).length .recompute := by
  induction l generalizing p with
  | nil => simp
  | cons a l ih =>
    obtain ⟨fresh, distinct⟩ := List.nodup_cons.mp distinct
    obtain ⟨app, link, handed⟩ := Part.judgeChannel_of_idle stopped (idle a List.mem_cons_self)
    have others : ∀ b ∈ l, (p.judgeChannel a).chan.get b = p.chan.get b := fun b hb => by
      have other : b ≠ a := fun same => fresh (same ▸ hb)
      simp [Part.judgeChannel_chan, other]
    have running : (p.judgeChannel a).passesRun = false := (Part.passesRun_congr (by simp)).trans stopped
    obtain ⟨app', link', handed'⟩ := ih distinct running fun b hb => by
      rw [others b hb]
      exact idle b (List.mem_cons_of_mem a hb)
    refine ⟨app'.trans app, link'.trans link, handed'.trans ?_⟩
    have counted : (l.filter fun b => ((p.judgeChannel a).chan.get b).available !=
        ((p.judgeChannel a).chan.get b).availableIn (p.judgeChannel a).link.nodes) =
        l.filter fun b => (p.chan.get b).available != (p.chan.get b).availableIn p.link.nodes :=
      List.filter_congr fun b hb => by rw [others b hb, link]
    rw [counted, handed, List.append_assoc, List.filter_cons]
    split
    · rfl
    · rfl

end

/-! ## The node table and the link after the removal of nodes -/

section

variable (routes : Axles Route) (retarder : Option Nat)

theorem Part.nodesRemoved_link (p : Part) (gone : List NodeEntry) :
    (p.nodesRemoved gone).link = gone.foldl (fun l e => l.without e.addr) p.link := by
  induction gone generalizing p with
  | nil => rfl
  | cons e gone ih => exact (ih (p.removeNode e)).trans (by rw [Part.removeNode_link]; rfl)

theorem Part.updateNodes_link_congr {p q : Part} (link : q.link = p.link) (now : q.now = p.now)
    (store : q.store = p.store) : (q.updateNodes routes retarder).link = (p.updateNodes routes retarder).link := by
  have node : q.node = p.node := by funext x; rw [Part.node, link]; rfl
  have keeps : q.keepsNode routes retarder = p.keepsNode routes retarder := by
    funext x
    rw [Part.keepsNode, node]
    rfl
  have entry : q.newNode = p.newNode := by
    funext x u
    rw [Part.newNode, now, Part.setting, store]
    rfl
  have gone : q.goneNodes routes retarder = p.goneNodes routes retarder := by
    rw [Part.goneNodes, link, keeps]
    rfl
  have removed : (q.nodesRemoved (q.goneNodes routes retarder)).link =
      (p.nodesRemoved (p.goneNodes routes retarder)).link := by
    rw [Part.nodesRemoved_link, Part.nodesRemoved_link, gone, link]
  have nodes : (q.updateNodes routes retarder).link.nodes = (p.updateNodes routes retarder).link.nodes := by
    simp only [Part.updateNodes, node, keeps, entry]
  rw [Part.updateNodes_eq, Part.updateNodes_eq p, removed, nodes]

theorem Part.routed_link (p : Part) : (p.routed routes retarder).link = (p.updateNodes routes retarder).link := by
  obtain ⟨store, -, link⟩ := p.channelsReset_untouched (p.changedAxles routes) routes
  exact Part.updateNodes_link_congr routes retarder link (p.channelsReset_now routes _) store

theorem Part.changedAxles_nodup (p : Part) : (p.changedAxles routes).Nodup := List.Nodup.filter _ (by decide)

theorem Part.routed_stage (p : Part) : ChannelStage p (p.routed routes retarder) := by
  have reset : ChannelStage p (p.channelsReset (p.changedAxles routes) routes) :=
    .foldl (fun q a => .resetChannel q a _) _ p
  have moved : ChannelStage (p.channelsReset (p.changedAxles routes) routes)
      { p.channelsReset (p.changedAxles routes) routes with retRoute := retarder } := .of_eq (by simp)
  exact (reset.trans moved).trans (.updateNodes _ routes retarder)

theorem Part.routed_app (p : Part) : (p.routed routes retarder).app = p.app := by
  have reset : (p.channelsReset (p.changedAxles routes) routes).app = p.app :=
    foldl_kept Part.app (fun q a => by
      unfold Part.resetChannel
      dsimp only
      split <;> simp) _ p
  exact (Part.nodesRemoved_handed _ _).2.trans reset

theorem Part.routed_handed (p : Part) : (p.routed routes retarder).handed =
    p.handed.filter fun h => !(p.changedAxles routes).any fun a => h.lane == .channelLink a :=
  (Part.nodesRemoved_handed _ _).1.trans (Part.channelsReset_handed routes _ p)

/-- Each channel, once the changed ones have been reset (R141). -/
theorem Part.routed_get (p : Part) (b : Axle) : (p.routed routes retarder).chan.get b =
    if b ∈ p.changedAxles routes then (p.chan.get b).rerouted (routes.get b) p.now else p.chan.get b := by
  rw [← Part.channelsReset_get routes (p.changedAxles_nodup routes)]
  exact congrArg (·.get b) (Part.updateNodes_untouched _ routes retarder).2.1

theorem Part.routed_retRoute (p : Part) : (p.routed routes retarder).retRoute = retarder :=
  (Part.updateNodes_untouched _ routes retarder).2.2

/-- The conditions that a ROUTE ends: SENSOR of the changed channels, then those of the removed nodes (R141, R156). -/
def Part.conditionsOver (p : Part) : List (Source × FaultCode) :=
  (((p.changedAxles routes).filter fun a => (p.chan.get a).sensorOut).map fun a => (.axle a, .sensor)) ++
    (p.goneNodes routes retarder).flatMap NodeEntry.conditions

theorem Part.routed_ends (p : Part) :
    EndsConditions (p.conditionsOver routes retarder) p (p.routed routes retarder) := by
  let base : Part := { p.channelsReset (p.changedAxles routes) routes with retRoute := retarder }
  have link : base.link = p.link := (p.channelsReset_untouched (p.changedAxles routes) routes).2.2
  have gone : base.goneNodes routes retarder = p.goneNodes routes retarder := by
    simp only [Part.goneNodes, Part.keepsNode_eq, link]
  have sensors := p.channelsReset_ends routes (p.changedAxles_nodup routes)
  have routed : EndsConditions [] (p.channelsReset (p.changedAxles routes) routes) base := .of_kept rfl rfl
  have removed := base.nodesRemoved_ends (base.goneNodes routes retarder)
  have all := sensors.trans (routed.trans removed)
  rw [Part.conditionsOver, ← gone]
  exact ⟨all.faults, all.flags⟩

end

end Sys2Proof.Machine
end

section
/-! PROOF. A ROUTE applied, but for a held clear: what it makes of each block (R141, R156, R159). -/

namespace Sys2Proof.Machine

open Safety

/-! ## The retarder route (R64, R127, R141) -/

section

variable (p : Part) (old : Option Nat)

theorem Part.loseRetarder_ret : p.loseRetarder.ret =
    if p.ret.state = .filling ∨ p.ret.state = .active ∨ p.ret.state = .draining then { p.ret with
      state := .drained, fillTimer := none, drainTimer := none, releaseMark := none, lastSent := ⟨false, 0⟩ }
    else p.ret := by
  unfold Part.loseRetarder
  cases state : p.ret.state with
  | filling | active | draining => simp [Part.enterRetarder_ret, RetarderState.target]
  | drained | faulted => simp

theorem Part.loseRetarder_nodes : p.loseRetarder.link.nodes = p.link.nodes := by
  unfold Part.loseRetarder
  split <;> simp

theorem Part.rerouteRetarder_frame : RouteFrame p (p.rerouteRetarder old) := by
  rw [Part.rerouteRetarder_eq]
  split
  · exact (ChannelStage.refl p).toRouteFrame
  · exact ⟨by simp [Part.unitForgotten], by simp [Part.unitForgotten], by simp [Part.unitForgotten],
      by simp [Part.unitForgotten], by simp [Part.unitForgotten], by simp [Part.unitForgotten],
      by simp [Part.unitForgotten], by simp [Part.unitForgotten], by simp [Part.unitForgotten],
      by simp [Part.unitForgotten]⟩

theorem Part.rerouteRetarder_untouched : (p.rerouteRetarder old).app = p.app ∧
    (p.rerouteRetarder old).retRoute = p.retRoute ∧ (p.rerouteRetarder old).chan = p.chan ∧
    (p.rerouteRetarder old).faults = p.faults ∧ (p.rerouteRetarder old).flags = p.flags ∧
    (p.rerouteRetarder old).link.nodes = p.link.nodes := by
  rw [Part.rerouteRetarder_eq]
  split
  · simp
  · simp [Part.unitForgotten, Part.loseRetarder_nodes]

theorem Part.rerouteRetarder_cap : (p.rerouteRetarder old).cap =
    if p.retRoute ≠ old then { p.cap with items := { p.cap.items with oilTemp := none } } else p.cap := by
  rw [Part.rerouteRetarder_eq, ite_not]
  split
  · rfl
  · simp [Part.unitForgotten]

theorem Part.rerouteRetarder_handed : (p.rerouteRetarder old).handed =
    if p.retRoute ≠ old then (p.handed.filter fun h => !decide (h.lane = .retarderLink)) ++ [.recompute]
    else p.handed := by
  rw [Part.rerouteRetarder_eq, ite_not]
  split
  · rfl
  · simp [Part.unitForgotten, Part.needCapacities, Part.handOn]

/-- A changed retarder route acts as a loss of the node (R127, R141). -/
theorem Part.rerouteRetarder_ret : (p.rerouteRetarder old).ret =
    if p.retRoute ≠ old then
      if p.ret.state = .filling ∨ p.ret.state = .active ∨ p.ret.state = .draining then { p.ret with
        lastNodeState := none, state := .drained, fillTimer := none, drainTimer := none, releaseMark := none
        lastSent := ⟨false, 0⟩ }
      else { p.ret with lastNodeState := none }
    else p.ret := by
  rw [Part.rerouteRetarder_eq, ite_not]
  split
  · rfl
  · exact p.unitForgotten.loseRetarder_ret

end

/-! ## The part once a ROUTE has been applied -/

section

variable (p : Part) (routes : Axles Route) (retarder : Option Nat)

theorem Part.mem_changedAxles {a : Axle} : a ∈ p.changedAxles routes ↔ (p.chan.get a).route ≠ routes.get a := by
  simp [Part.changedAxles, Axles.mem_all]

theorem Part.retargeted_stage : ChannelStage p (p.retargeted routes retarder) :=
  ((p.routed_stage routes retarder).trans (.foldl .judgeChannel _ _)).trans (.foldl .postTarget _ _)

theorem Part.retargeted_nodes :
    (p.retargeted routes retarder).link.nodes = (p.updateNodes routes retarder).link.nodes :=
  (ActsOnChannel.posts.foldl_nodes _ _).trans ((ActsOnChannel.judges.foldl_nodes _ _).trans
    (congrArg LinkController.nodes (p.routed_link routes retarder)))

theorem Part.retargeted_retRoute : (p.retargeted routes retarder).retRoute = retarder := by
  have judged : (p.rejudged routes retarder).retRoute = (p.routed routes retarder).retRoute :=
    foldl_kept Part.retRoute (fun q a => by simp) _ _
  have posted : (p.retargeted routes retarder).retRoute = (p.rejudged routes retarder).retRoute :=
    foldl_kept Part.retRoute (fun q a => by simp) _ _
  exact posted.trans (judged.trans (p.routed_retRoute routes retarder))

theorem Part.rerouted_frame : RouteFrame p (p.rerouted routes retarder) := by
  have chosen : ∀ q : Part, RouteFrame q q.chooseNext := fun q =>
    (ChannelStage.of_eq (by simp) : ChannelStage q q.chooseNext).toRouteFrame
  exact ((p.retargeted_stage routes retarder).toRouteFrame.trans (Part.rerouteRetarder_frame _ _)).trans (chosen _)

theorem Part.rerouted_retRoute : (p.rerouted routes retarder).retRoute = retarder := by
  simp [Part.rerouted, Part.rerouteRetarder_untouched, Part.retargeted_retRoute]

theorem Part.rerouted_nodes :
    (p.rerouted routes retarder).link.nodes = (p.updateNodes routes retarder).link.nodes := by
  simp [Part.rerouted, Part.rerouteRetarder_untouched, Part.retargeted_nodes]

theorem Part.rerouted_ends : EndsConditions (p.conditionsOver routes retarder) p (p.rerouted routes retarder) := by
  have judged := foldl_kept (fun q : Part => (q.faults, q.flags)) (f := Part.judgeChannel) (fun q a => by simp)
    (p.changedAxles routes) (p.routed routes retarder)
  have posted := foldl_kept (fun q : Part => (q.faults, q.flags)) (f := Part.postTarget) (fun q a => by simp)
    (p.changedAxles routes) (p.rejudged routes retarder)
  obtain ⟨faults, flags⟩ := Prod.ext_iff.mp (posted.trans judged)
  have routed := p.routed_ends routes retarder
  obtain ⟨-, -, -, faults', flags', -⟩ := (p.retargeted routes retarder).rerouteRetarder_untouched p.retRoute
  have ended : (p.rerouted routes retarder).faults = (p.routed routes retarder).faults ∧
      (p.rerouted routes retarder).flags = (p.routed routes retarder).flags := by
    simpa [Part.rerouted] using ⟨faults'.trans faults, flags'.trans flags⟩
  exact ⟨ended.1.trans routed.faults, ended.2.trans routed.flags⟩

theorem Part.rerouted_cap : (p.rerouted routes retarder).cap = if p.retRoute ≠ retarder
    then { p.cap with items := { p.cap.items with oilTemp := none } } else p.cap := by
  simp [Part.rerouted, Part.rerouteRetarder_cap, Part.retargeted_retRoute, (p.retargeted_stage routes retarder).cap,
    eq_comm]

theorem Part.rerouted_ret : (p.rerouted routes retarder).ret =
    if p.retRoute ≠ retarder then
      if p.ret.state = .filling ∨ p.ret.state = .active ∨ p.ret.state = .draining then { p.ret with
        lastNodeState := none, state := .drained, fillTimer := none, drainTimer := none, releaseMark := none
        lastSent := ⟨false, 0⟩ }
      else { p.ret with lastNodeState := none }
    else p.ret := by
  simp [Part.rerouted, Part.rerouteRetarder_ret, Part.retargeted_retRoute, (p.retargeted_stage routes retarder).ret,
    eq_comm]

/-- A changed channel, once it has been judged and has posted its target (R141, R142, R148). -/
def Part.newChannel (a : Axle) : Channel :=
  (((p.chan.get a).rerouted (routes.get a) p.now).judged (p.updateNodes routes retarder).link.nodes).posted

theorem Channel.rerouted_idle (c : Channel) (x : Route) (now : Time) :
    (c.rerouted x now).state ≠ some .commanded := by
  rw [Channel.rerouted]
  split <;> simp

theorem Part.newChannel_available (a : Axle) : (p.newChannel routes retarder a).available =
    ((p.chan.get a).rerouted (routes.get a) p.now).availableIn (p.updateNodes routes retarder).link.nodes :=
  Channel.posted_available _

theorem Part.rerouted_get (b : Axle) : (p.rerouted routes retarder).chan.get b =
    if b ∈ p.changedAxles routes then p.newChannel routes retarder b else p.chan.get b := by
  have chan : (p.rerouted routes retarder).chan = (p.retargeted routes retarder).chan := by
    simp [Part.rerouted, Part.rerouteRetarder_untouched]
  have distinct := p.changedAxles_nodup routes
  rw [chan, Part.retargeted, ActsOnChannel.posts.foldl_get _ distinct, Part.rejudged,
    ActsOnChannel.judges.foldl_get _ distinct, Part.routed_get, Part.routed_link]
  split <;> rfl

theorem Part.retargeted_handed : (p.retargeted routes retarder).handed = (p.rejudged routes retarder).handed :=
  foldl_kept Part.handed (fun q a => by simp) _ _

variable {p} (stopped : p.passesRun = false)
include stopped

/-- What judging the changed channels hands on and leaves (R142). -/
theorem Part.rejudged_stopped : (p.rejudged routes retarder).app = (p.routed routes retarder).app ∧
    (p.rejudged routes retarder).link = (p.routed routes retarder).link ∧
      (p.rejudged routes retarder).handed = (p.routed routes retarder).handed ++ List.replicate
        ((p.changedAxles routes).filter fun a => ((p.routed routes retarder).chan.get a).available !=
          ((p.routed routes retarder).chan.get a).availableIn (p.routed routes retarder).link.nodes).length
        .recompute := by
  have still : (p.routed routes retarder).passesRun = false :=
    (Part.passesRun_congr (p.routed_stage routes retarder).control).trans stopped
  refine Part.foldl_judgeChannel_of_idle (p.changedAxles_nodup routes) still fun a changed => ?_
  rw [Part.routed_get, if_pos changed]
  exact Channel.rerouted_idle _ _ _

theorem Part.rerouted_app : (p.rerouted routes retarder).app = p.app := by
  have posted : (p.retargeted routes retarder).app = (p.rejudged routes retarder).app :=
    foldl_kept Part.app (fun q a => by simp) _ _
  simp [Part.rerouted, Part.rerouteRetarder_untouched, posted, Part.rejudged_stopped routes retarder stopped,
    Part.routed_app]

/-- A recomputation is handed on for each channel whose availability has changed. -/
theorem Part.rejudged_handed : (p.rejudged routes retarder).handed =
    (p.handed.filter fun h => !(p.changedAxles routes).any fun a => h.lane == .channelLink a) ++ List.replicate
      (Axle.all.filter fun a => ((p.rerouted routes retarder).chan.get a).available !=
        (p.chan.get a).available).length .recompute := by
  have counted : ((p.changedAxles routes).filter fun a => ((p.routed routes retarder).chan.get a).available !=
      ((p.routed routes retarder).chan.get a).availableIn (p.routed routes retarder).link.nodes) =
      Axle.all.filter fun a => ((p.rerouted routes retarder).chan.get a).available != (p.chan.get a).available := by
    rw [Part.changedAxles, List.filter_filter]
    refine List.filter_congr fun a _ => ?_
    rw [Part.routed_get, Part.rerouted_get]
    simp only [Part.mem_changedAxles]
    by_cases changed : (p.chan.get a).route = routes.get a
    · simp [changed]
    · simp [changed, Part.newChannel_available, Part.routed_link, Channel.rerouted, bne_comm]
  rw [(Part.rejudged_stopped routes retarder stopped).2.2, Part.routed_handed, counted]

/-- What waits of the changed routes is discarded, and a recomputation handed on for each change (R141, R142). -/
theorem Part.rerouted_handed : (p.rerouted routes retarder).handed =
    (p.handed.filter fun h => !((p.changedAxles routes).any fun a => h.lane == .channelLink a) &&
      !(decide (p.retRoute ≠ retarder) && h.lane == .retarderLink)) ++ List.replicate
        ((Axle.all.filter fun a => ((p.rerouted routes retarder).chan.get a).available !=
          (p.chan.get a).available).length + if decide (p.retRoute ≠ retarder) = true then 1 else 0) .recompute := by
  have handed : (p.rerouted routes retarder).handed =
      ((p.retargeted routes retarder).rerouteRetarder p.retRoute).handed := by simp [Part.rerouted]
  rw [handed, Part.rerouteRetarder_handed, Part.retargeted_retRoute, Part.retargeted_handed,
    Part.rejudged_handed routes retarder stopped]
  by_cases same : p.retRoute = retarder
  · simp [same]
  · have moved : decide (p.retRoute ≠ retarder) = true := decide_eq_true same
    have waits : (List.replicate (Axle.all.filter fun a => ((p.rerouted routes retarder).chan.get a).available !=
        (p.chan.get a).available).length Handoff.recompute).filter (fun h => !decide (h.lane = .retarderLink)) =
        List.replicate (Axle.all.filter fun a => ((p.rerouted routes retarder).chan.get a).available !=
          (p.chan.get a).available).length .recompute :=
      List.filter_eq_self.mpr fun h hh => by rw [List.eq_of_mem_replicate hh]; rfl
    rw [if_pos (Ne.symm same), if_pos moved, List.filter_append, waits, List.filter_filter, List.append_assoc,
      List.replicate_succ']
    refine congrArg (· ++ _) (List.filter_congr fun h _ => ?_)
    rw [moved, Bool.true_and, beq_eq_decide, Bool.and_comm]

end

end Sys2Proof.Machine
end

section
/-! PROOF. A ROUTE and the actuator link: which requests are queued, which stand, and what becomes of a transaction
(R156, R157, R159). -/

namespace Sys2Proof.Machine

open Safety

/-! ## The use of an address (R141) -/

section

variable {routes : Axles Route} {retarder : Option Nat} {x : Nat}

theorem useOf_eq_axleModule {a : Axle} (use : useOf routes retarder x = some (.axleModule a)) :
    routes.get a = .remote x := by
  unfold useOf at use
  split at use
  · next b found =>
    obtain rfl : b = a := by simpa using use
    simpa [Route.addr_eq_some] using List.find?_some found
  · split at use <;> simp at use

theorem useOf_eq_retarderUnit (use : useOf routes retarder x = some .retarderUnit) : retarder = some x := by
  unfold useOf at use
  split at use
  · simp at use
  · split at use
    · assumption
    · simp at use

/-- The routes of a ROUTE that passed its checks: addresses of the table, each named once (R140). -/
structure RoutesChecked (routes : Axles Route) (retarder : Option Nat) : Prop where
  inTable : ∀ {a x}, routes.get a = .remote x → x ∈ allAddrs
  distinct : ∀ {a b x}, routes.get a = .remote x → routes.get b = .remote x → a = b
  apart : ∀ {a x}, routes.get a = .remote x → retarder ≠ some x

namespace RoutesChecked

variable (checked : RoutesChecked routes retarder)
include checked

theorem useOf_axle {a : Axle} (route : routes.get a = .remote x) : useOf routes retarder x = some (.axleModule a) := by
  unfold useOf
  split
  · next b found =>
    have named : routes.get b = .remote x := by simpa [Route.addr_eq_some] using List.find?_some found
    rw [checked.distinct named route]
  · next none_ =>
    have unnamed := List.find?_eq_none.mp none_ a (Axles.mem_all a)
    simp [Route.addr_eq_some, route] at unnamed

theorem useOf_retarder (route : retarder = some x) : useOf routes retarder x = some .retarderUnit := by
  unfold useOf
  rw [find_axle_of_none fun a => by simpa [Route.addr_eq_some] using fun named => checked.apart named route]
  simp [route]

end RoutesChecked

/-- An entry of the node table has the use that the routes give its address (R155). -/
theorem Part.useOf_of_node {p : Part} (matched : NodesMatchRoutes p) {e : NodeEntry} (node : p.node x = some e) :
    useOf (p.chan.map (·.route)) p.retRoute x = some e.use := by
  obtain ⟨he, rfl⟩ := Part.node_mem node
  have key := List.mem_map_of_mem (f := fun e : NodeEntry => (e.addr, e.use)) he
  rw [matched.1, List.mem_filterMap] at key
  obtain ⟨y, -, use⟩ := key
  obtain ⟨u, use, key⟩ := Option.map_eq_some_iff.mp use
  obtain ⟨rfl, rfl⟩ := Prod.ext_iff.mp key
  exact use

end

/-! ## The addresses that a ROUTE posts for are not kept -/

section

variable {p : Part} {routes : Axles Route} {retarder : Option Nat} {x : Nat} (matched : NodesMatchRoutes p)
  (checked : RoutesChecked routes retarder)
include matched checked

theorem Part.not_keepsNode_of_changed {a : Axle} (changed : a ∈ p.changedAxles routes)
    (route : routes.get a = .remote x) : p.keepsNode routes retarder x = false := by
  by_contra keeps
  rw [Bool.not_eq_false, Part.keepsNode_eq, Option.any_eq_true] at keeps
  obtain ⟨e, node, use⟩ := keeps
  rw [decide_eq_true_eq, checked.useOf_axle route, Option.some_inj] at use
  have before := Part.useOf_of_node matched node
  rw [← use] at before
  refine (Part.mem_changedAxles p routes).mp changed ?_
  rw [route, ← useOf_eq_axleModule before, Axles.get_map]

theorem Part.not_keepsNode_of_moved (moved : p.retRoute ≠ retarder) (route : retarder = some x) :
    p.keepsNode routes retarder x = false := by
  by_contra keeps
  rw [Bool.not_eq_false, Part.keepsNode_eq, Option.any_eq_true] at keeps
  obtain ⟨e, node, use⟩ := keeps
  rw [decide_eq_true_eq, checked.useOf_retarder route, Option.some_inj] at use
  have before := Part.useOf_of_node matched node
  rw [← use] at before
  exact moved ((useOf_eq_retarderUnit before).trans route.symm)

end

/-! ## What the stages after the node table do to the link -/

section

variable {p : Part} {routes : Axles Route} {retarder : Option Nat}

/-- A changed channel is in BACKUP or has no state: its target is a release (R141, R148). -/
theorem Part.rejudged_channel {a : Axle} (changed : a ∈ p.changedAxles routes) :
    ((p.rejudged routes retarder).chan.get a).route = routes.get a ∧
      ((p.rejudged routes retarder).chan.get a).lastSent = none ∧
      ((p.rejudged routes retarder).chan.get a).target = .release := by
  have idle := (p.chan.get a).rerouted_idle (routes.get a) p.now
  rw [Part.rejudged, ActsOnChannel.judges.foldl_get _ (p.changedAxles_nodup routes), if_pos changed, Part.routed_get,
    if_pos changed, Channel.judged_of_idle idle]
  refine ⟨rfl, rfl, ?_⟩
  simp only [Channel.target, Channel.rerouted]
  split <;> simp_all

theorem Part.rejudged_now : (p.rejudged routes retarder).now = p.now :=
  (ChannelStage.foldl .judgeChannel _ _).now.trans (p.routed_stage routes retarder).now

theorem Part.rejudged_link (stopped : p.passesRun = false) :
    (p.rejudged routes retarder).link = (p.updateNodes routes retarder).link :=
  (Part.rejudged_stopped routes retarder stopped).2.1.trans (p.routed_link routes retarder)

namespace LinkKept

variable {ok : Nat → Payload → Prop} {P : Part → Prop} (kept : LinkKept ok P)
include kept

theorem rerouted_of_retargeted
    (unit : p.retRoute ≠ retarder → ∀ x, retarder = some x → ok x (.retarderDemand ⟨false, 0⟩))
    (h : P (p.retargeted routes retarder)) : P (p.rerouted routes retarder) := by
  refine kept.chooseNext (kept.rerouteRetarder (fun moved x route => ?_) h)
  rw [Part.retargeted_retRoute] at moved route
  exact unit moved.symm x route

/-- What the update of the node table establishes of the link, the posts of a ROUTE keep. -/
theorem rerouted (stopped : p.passesRun = false)
    (axles : ∀ a ∈ p.changedAxles routes, ∀ x, routes.get a = .remote x → ok x (.axleDemand .release))
    (unit : p.retRoute ≠ retarder → ∀ x, retarder = some x → ok x (.retarderDemand ⟨false, 0⟩))
    (h : P (p.updateNodes routes retarder)) : P (p.rerouted routes retarder) := by
  refine kept.rerouted_of_retargeted unit (kept.foldl_postTarget (fun a changed x route => ?_) ?_)
  · obtain ⟨asked, -, target⟩ := Part.rejudged_channel (retarder := retarder) changed
    rw [target]
    exact axles a changed x (asked.symm.trans route)
  · refine kept.framed ?_ (Part.rejudged_link stopped) h
    exact (Part.rejudged_now).trans (ChannelStage.updateNodes p routes retarder).now.symm

end LinkKept

variable (stopped : p.passesRun = false)
include stopped

theorem Part.rerouted_phase {busy : LinkPhase} (notIdle : busy ≠ .idle)
    (phase : (p.updateNodes routes retarder).link.phase = busy) : (p.rerouted routes retarder).link.phase = busy :=
  (LinkKept.phase notIdle).rerouted stopped (fun _ _ _ _ => trivial) (fun _ _ _ => trivial) phase

theorem Part.rerouted_inFlight {t : Transaction} (phase : p.link.phase = .inFlight t) :
    (p.rerouted routes retarder).link.phase = .inFlight { t with orphan := t.orphan ||
      (decide (∃ e ∈ p.link.nodes, e.addr = t.request.addr) && !p.keepsNode routes retarder t.request.addr) } := by
  refine Part.rerouted_phase stopped (by simp) ?_
  rw [← Part.goneNodes_any]
  exact Part.nodesRemoved_inFlight phase _

theorem Part.rerouted_abandoned {w : Option Timer} (phase : p.link.phase = .abandoned w) :
    (p.rerouted routes retarder).link.phase = .abandoned w :=
  Part.rerouted_phase stopped (by simp) (Part.nodesRemoved_abandoned phase _)

variable (matched : NodesMatchRoutes p) (checked : RoutesChecked routes retarder)
include matched checked

section

variable (addressed : QueueAddressed p)
include addressed

theorem Part.rerouted_queue : ∀ r ∈ (p.rerouted routes retarder).link.queue,
    r ∈ p.link.queue ∧ p.keepsNode routes retarder r.addr = true ∨
      p.keepsNode routes retarder r.addr = false ∧ r.enqueued = p.now ∧
        (r.payload = .axleDemand .release ∨ r.payload = .retarderDemand ⟨false, 0⟩) := by
  rw [← (p.rerouted_frame routes retarder).now]
  refine (LinkKept.queuedOf _ _).rerouted stopped
    (fun a changed x route => ⟨Part.not_keepsNode_of_changed matched checked changed route, .inl rfl⟩)
    (fun moved x route => ⟨Part.not_keepsNode_of_moved matched checked moved route, .inr rfl⟩) fun r hr => ?_
  exact .inl ⟨(Part.mem_nodesRemoved_queue.mp hr).1, Part.keepsNode_of_mem_queue addressed hr⟩

/-- The release posted for a changed channel's node stands. -/
theorem Part.rerouted_release {a : Axle} (changed : a ∈ p.changedAxles routes) {x : Nat}
    (route : routes.get a = .remote x) :
    (⟨x, p.now, .axleDemand .release⟩ : Request) ∈ (p.rerouted routes retarder).link.queue ∨
      (p.rerouted routes retarder).link.phase =
        .inFlight ⟨⟨x, p.now, .axleDemand .release⟩, p.now, none, false⟩ := by
  have fresh := Part.not_keepsNode_of_changed matched checked changed route
  obtain ⟨asked, unsent, target⟩ := Part.rejudged_channel (retarder := retarder) changed
  have node : ((p.rejudged routes retarder).node x).isSome = true := by
    rw [Part.node, Part.rejudged_link stopped]
    exact Part.updateNodes_node (checked.inTable route) (checked.useOf_axle route)
  have unqueued : (p.rejudged routes retarder).Unqueued x := fun r hr same => by
    rw [Part.rejudged_link stopped] at hr
    have keeps := Part.keepsNode_of_mem_queue addressed hr
    rw [same, fresh] at keeps
    exact absurd keeps (by simp)
  have posted := Part.stands_foldl_postTarget (p.changedAxles_nodup routes) changed (asked.trans route) unsent target
    (fun b changed' other route' => other (checked.distinct
      ((Part.rejudged_channel changed').1.symm.trans route') route)) node unqueued
  rw [Part.rejudged_now] at posted
  have stands := (LinkKept.stands _).rerouted_of_retargeted (fun _ y unit same => checked.apart route
    (unit.trans (congrArg some same))) posted
  rwa [Part.Stands, (p.rerouted_frame routes retarder).now] at stands

end

/-- A queued request for a node that is kept stands. -/
theorem Part.rerouted_stands {r : Request} (queued : r ∈ p.link.queue)
    (keeps : p.keepsNode routes retarder r.addr = true) : r ∈ (p.rerouted routes retarder).link.queue ∨
      (p.rerouted routes retarder).link.phase = .inFlight ⟨r, p.now, none, false⟩ := by
  rw [← (p.rerouted_frame routes retarder).now]
  refine (LinkKept.stands r).rerouted stopped (fun a changed x route same => ?_) (fun moved x route same => ?_) ?_
  · exact absurd (Part.not_keepsNode_of_changed matched checked changed route) (by simp [same, keeps])
  · exact absurd (Part.not_keepsNode_of_moved matched checked moved route) (by simp [same, keeps])
  · refine .inl (Part.mem_nodesRemoved_queue.mpr ⟨queued, fun e gone same => ?_⟩)
    have gone := (List.mem_filter.mp gone).2
    rw [← same, keeps] at gone
    exact absurd gone (by simp)

end

end Sys2Proof.Machine
end

section
/-! PROOF. ROUTE as the manual gives it (R140, R141, R156): its routes in the terms of its fields, and a held clear
(R186). -/

namespace Sys2Proof.Machine

open Safety

/-! ## The channels of a ROUTE (R141) -/

section

variable {p : Part} {routes : Axles Route} {retarder : Option Nat}

theorem Part.rerouted_nodeAvailable (x : Nat) : (p.rerouted routes retarder).nodeAvailable x =
    ((p.updateNodes routes retarder).link.nodes.find? (·.addr == x)).any
      fun e => decide (e.presence = .present) && !e.reported := by
  rw [Part.nodeAvailable_eq, Part.rerouted_nodes]

/-- A reset channel that has been judged and has posted its release (R141, R142, R148). -/
theorem Part.newChannel_spec (checked : RoutesChecked routes retarder) (a : Axle) :
    let c := p.newChannel routes retarder a
    c.route = routes.get a ∧ c.lastDemand = 0 ∧ c.measured = none ∧ c.sensorOut = false ∧ c.tracking = none ∧
      c.switched = false ∧ c.state = (if routes.get a = .unrouted then none else some .backup) ∧
      c.available = decide (routes.get a = .localStage ∨ ∃ x ∈ allAddrs, routes.get a = .remote x ∧
        (p.rerouted routes retarder).nodeAvailable x = true) ∧
      c.sampling = (if routes.get a = .localStage then some ⟨p.now, 5⟩ else none) ∧
      c.lastSent = if routes.get a = .unrouted ∨ routes.get a = .localStage then none else some .release := by
  have available := p.newChannel_available routes retarder a
  have judged := Channel.judged_of_idle (nodes := (p.updateNodes routes retarder).link.nodes)
    ((p.chan.get a).rerouted_idle (routes.get a) p.now)
  intro c
  rw [show c.available = _ from available]
  simp only [c, Part.newChannel, judged]
  cases route : routes.get a with
  | unrouted => simp [Channel.rerouted, Channel.posted, Channel.availableIn]
  | localStage => simp [Channel.rerouted, Channel.posted, Channel.availableIn]
  | remote x =>
    simp [Channel.rerouted, Channel.posted, Channel.availableIn, Channel.target, Part.rerouted_nodeAvailable,
      checked.inTable route]

end

/-! ## A held clear (R186) -/

section

variable {p : Part} {routes : Axles Route} {retarder : Option Nat}

theorem Part.rerouted_held (p : Part) (routes : Axles Route) (retarder : Option Nat) :
    p.rerouted routes retarder = ((p.holding none).rerouted routes retarder).holding p.faults.held :=
  (Part.rerouted_holding (p.holding none) p.faults.held routes retarder)

theorem Part.applyRoute_of_unheld (unheld : p.faults.held = none) :
    p.applyRoute routes retarder = p.rerouted routes retarder := by
  rw [Part.applyRoute_eq, Part.rerouted_held, unheld]
  rfl

variable {h : HeldClear} (held : p.faults.held = some h)
include held

theorem Part.noLongerWaiting_eq (gone : Nat → Bool) : p.noLongerWaiting gone =
    if h.waiting.filter (fun x => !gone x) = [] then p.applyHeld h
    else p.holding (some { h with waiting := h.waiting.filter fun x => !gone x }) := by
  simp only [Part.noLongerWaiting, held]
  rfl

/-- What becomes of a held clear: it waits on for the addresses that are kept, and is applied when it waited for others
alone. -/
theorem Part.applyRoute_held : p.applyRoute routes retarder =
    if h.waiting.filter (p.keepsNode routes retarder) = [] ∧ h.waiting ≠ [] then
      (((p.holding none).rerouted routes retarder).holding (some h)).applyHeld h
    else ((p.holding none).rerouted routes retarder).holding
      (some { h with waiting := h.waiting.filter (p.keepsNode routes retarder) }) := by
  let n := ((p.holding none).rerouted routes retarder).holding (some h)
  have rerouted : p.rerouted routes retarder = n := by rw [Part.rerouted_held, held]
  have stays : n.noLongerWaiting (fun x => !p.keepsNode routes retarder x) = _ := Part.noLongerWaiting_eq (h := h) rfl _
  simp only [Bool.not_not] at stays
  rw [Part.applyRoute_eq, rerouted, stays]
  change (if h.waiting.any (fun x => !p.keepsNode routes retarder x) = true then _ else _) = _
  by_cases gone : h.waiting.any (fun x => !p.keepsNode routes retarder x) = true
  · have waits : h.waiting ≠ [] := fun none_ => by simp [none_] at gone
    rw [if_pos gone]
    simp only [waits, ne_eq, not_false_eq_true, and_true]
    rfl
  · have all : h.waiting.filter (p.keepsNode routes retarder) = h.waiting :=
      List.filter_eq_self.mpr (by simpa using gone)
    rw [if_neg gone, all, if_neg fun both => both.2 both.1]

end

section

variable (p q : Part) (kind tag : Byte) (r : Reply)

theorem Part.answer_vl_congr (h : p.vl = q.vl) : (p.answer kind tag r).vl = (q.answer kind tag r).vl := by
  simp only [Part.answer, Part.form, h]

theorem Part.answer_unsent {vl : VehicleLink} (h : p.vl = vl) : { p.answer kind tag r with vl := vl } = p := by
  subst h
  rfl

end

/-- What a held clear that a ROUTE applies does, the ROUTE's own answer left aside (R186, R187). -/
theorem Part.rerouted_clearApplied (p : Part) (routes : Axles Route) (retarder : Option Nat) (h : HeldClear)
    (tag : Byte) :
    let q := ((p.holding none).rerouted routes retarder).answer kindRoute tag .done
    let n := ((((p.holding none).rerouted routes retarder).holding (some h)).applyHeld h).answer kindRoute tag .done
    let first := (p.answer kindClearFaults h.tag .done).vl
    n.vl = ({ p with vl := first }.answer kindRoute tag .done).vl ∧
      ClearApplied { q with vl := p.vl } { n with vl := first } h.tag h.sources := by
  have vl : ((p.holding none).rerouted routes retarder).vl = p.vl :=
    ((p.holding none).rerouted_frame routes retarder).vl
  generalize (p.holding none).rerouted routes retarder = m at vl ⊢
  have applied := clearApplied_applyHeld (m.holding (some h)) h
  have sent := applied
  obtain ⟨-, -, -, vlSent, -⟩ := sent
  have first : ((m.holding (some h)).applyHeld h).vl = (p.answer kindClearFaults h.tag .done).vl :=
    vlSent.trans (Part.answer_vl_congr (m.holding (some h)) p _ _ _ vl)
  generalize (m.holding (some h)).applyHeld h = n at applied first ⊢
  intro q n' _
  refine ⟨Part.answer_vl_congr _ _ _ _ _ first, ?_⟩
  rw [show { q with vl := p.vl } = m from m.answer_unsent _ _ _ vl,
    show { n' with vl := (p.answer kindClearFaults h.tag .done).vl } = n from n.answer_unsent _ _ _ first]
  exact applied

/-! ## The terms of a ROUTE's fields (R140, R141) -/

section

variable {fields : Axles RouteField} {retarder : Nat} (fits : ∀ a, RouteFits (fields.get a))
include fits

theorem namedForRetarder_iff :
    (askedRetarder retarder).any (fun x => (namedBefore (Part.routesOf fields) 4).contains x) = true ↔
      retarder ≠ 0 ∧ ∃ b : Axle, (fields.get b).kind = some .remote ∧ (fields.get b).addr = retarder := by
  by_cases zero : retarder = 0
  · simp [askedRetarder, zero]
  · have named : retarder ∈ namedBefore (Part.routesOf fields) 4 ↔
        ∃ b : Axle, (fields.get b).kind = some .remote ∧ (fields.get b).addr = retarder := by
      rw [mem_namedBefore]
      exact exists_congr fun b => by simp [Part.routesOf_get (fits b), askedRoute_eq_remote, b.isLt]
    simp [askedRetarder, zero, named]

theorem RoutesChecked.of_fields (fresh : ∀ a, ¬ NamedAgain (Part.routesOf fields) a)
    (apart : ¬ (retarder ≠ 0 ∧ ∃ b : Axle, (fields.get b).kind = some .remote ∧ (fields.get b).addr = retarder)) :
    RoutesChecked (Part.routesOf fields) (askedRetarder retarder) where
  inTable {a x} route := by
    rw [Part.routesOf_get (fits a), askedRoute_eq_remote] at route
    obtain ⟨remote, rfl⟩ := route
    obtain ⟨other | other, -⟩ | ⟨-, low, high⟩ := fits a
    · simp [other] at remote
    · simp [other] at remote
    · simp only [allAddrs, List.mem_cons, List.not_mem_nil, or_false]
      omega
  distinct {a b x} routeA routeB := by
    obtain before | same | after := lt_trichotomy a b
    · exact absurd ⟨x, routeB, a, before, routeA⟩ (fresh b)
    · exact same
    · exact absurd ⟨x, routeA, b, after, routeB⟩ (fresh a)
  apart {a x} route asked := by
    rw [Part.routesOf_get (fits a), askedRoute_eq_remote] at route
    unfold askedRetarder at asked
    split at asked
    · simp at asked
    · next nonzero =>
      obtain rfl := Option.some_inj.mp asked
      exact apart ⟨nonzero, a, route⟩

end

/-- The use that the routes give an address, the retarder's first. -/
theorem RoutesChecked.useOf_eq {routes : Axles Route} {retarder : Option Nat} (checked : RoutesChecked routes retarder)
    (x : Nat) : useOf routes retarder x = if retarder = some x then some .retarderUnit
      else (Axle.all.find? fun a => decide (routes.get a = .remote x)).map .axleModule := by
  split
  · next unit => exact checked.useOf_retarder unit
  · next other =>
    simp only [useOf, other, if_false, Route.addr_eq_some]
    split
    · next found => rw [found]; rfl
    · next none_ => rw [none_]; rfl

/-- The conditions that a ROUTE ends, axle by axle and node by node. -/
theorem Part.conditionsOver_eq (p : Part) (routes : Axles Route) (retarder : Option Nat) :
    p.conditionsOver routes retarder =
      (Axle.all.filter fun a => decide ((p.chan.get a).route ≠ routes.get a) && (p.chan.get a).sensorOut).map
        (fun a => (.axle a, .sensor)) ++
      p.link.nodes.flatMap fun e => if p.keepsNode routes retarder e.addr then [] else e.conditions := by
  have nodes : ∀ l : List NodeEntry, (l.filter fun e => !p.keepsNode routes retarder e.addr).flatMap
      NodeEntry.conditions = l.flatMap fun e => if p.keepsNode routes retarder e.addr then [] else e.conditions :=
    fun l => by
      induction l with
      | nil => rfl
      | cons e l ih =>
        rw [List.flatMap_cons, ← ih, List.filter_cons]
        cases p.keepsNode routes retarder e.addr <;> simp
  rw [Part.conditionsOver, Part.changedAxles, List.filter_filter, Part.goneNodes, nodes]
  simp only [Bool.and_comm]

end Sys2Proof.Machine
end

section
/-! PROOF. ROUTE's obligation (R140, R141, R156, R186), from its checks and from what each block becomes. -/

namespace Sys2Proof.Machine

open Safety

theorem Part.routeFault_of_checked {p : Part} {fields : Axles RouteField} {retarder : Nat}
    (ok : ∀ a, p.PositionOk fields a)
    (inTable : retarder = 0 ∨ retarder ≤ 7 ∧ p.store.chassis.map (·.retarderFitted) = some 1) :
    p.routeFault fields retarder = secondNaming (Part.routesOf fields) (askedRetarder retarder) := by
  rw [Part.routeFault_of_positions ok, if_neg]
  rw [← Part.retarderFitted_iff] at inTable
  rintro (big | ⟨nonzero, unfitted⟩)
  · omega
  · obtain zero | ⟨-, fitted⟩ := inTable
    · exact nonzero zero
    · simp [fitted] at unfitted

theorem Part.routeFault_of_retarder {p : Part} {fields : Axles RouteField} {retarder : Nat}
    (ok : ∀ a, p.PositionOk fields a)
    (bad : ¬ (retarder = 0 ∨ retarder ≤ 7 ∧ p.store.chassis.map (·.retarderFitted) = some 1)) :
    p.routeFault fields retarder = some 4 := by
  rw [Part.routeFault_of_positions ok, if_pos]
  rw [← Part.retarderFitted_iff, not_or, not_and_or, Bool.not_eq_true] at bad
  obtain ⟨nonzero, big | unfitted⟩ := bad
  · exact .inl (by omega)
  · exact .inr ⟨nonzero, by simp [unfitted]⟩

/-- Settles O38: each check of ROUTE answers with its position, and an accepted ROUTE makes of each block what the
stages of its application make of it. -/
theorem routeResetsWhatChanged : Obligations.RouteResetsWhatChanged := by
  unfold Obligations.RouteResetsWhatChanged
  intro s tag fields retarder q quiet refusal kindOk ok again retarderOk retarderAgain allowed ends
  refine ⟨fun config standby => exec_route (Part.routeRequest_of_mode config standby),
    fun mode unset => exec_route (Part.routeRequest_of_unset mode unset), fun ⟨mode, set⟩ =>
    ⟨fun a bad first => exec_route (Part.routeRequest_of_fault mode set (Part.routeFault_of_position bad first _)),
    fun positions => ?_⟩⟩
  have fits : ∀ a, RouteFits (fields.get a) := fun a => (positions a).1
  have refused : ∀ k, q.routeFault fields retarder = some k → ends (.badValue k) := fun k fault =>
    exec_route (Part.routeRequest_of_fault mode set fault)
  refine ⟨fun bad => refused 4 (Part.routeFault_of_retarder positions bad),
    fun fitted a again first => refused a.val ?_, fun fitted fresh again => refused 4 ?_, fun fitted fresh apart => ?_⟩
  · rw [Part.routeFault_of_checked positions fitted]
    exact secondNaming_of_axle ((namedAgain_iff fits a).mpr again)
      (fun b before => (namedAgain_iff fits b).not.mpr (first b before)) _
  · rw [Part.routeFault_of_checked positions fitted,
      secondNaming_of_retarder fun b => (namedAgain_iff fits b).not.mpr (fresh b),
      if_pos ((namedForRetarder_iff fits).mpr again)]
  have fresh : ∀ b, ¬ NamedAgain (Part.routesOf fields) b := fun b => (namedAgain_iff fits b).not.mpr (fresh b)
  have passed : q.routeFault fields retarder = none := by
    rw [Part.routeFault_of_checked positions fitted, secondNaming_of_retarder fresh,
      if_neg ((namedForRetarder_iff fits).not.mpr apart)]
  have checked : RoutesChecked (Part.routesOf fields) (askedRetarder retarder) := .of_fields fits fresh apart
  have stopped : q.passesRun = false := by
    obtain config | standby := mode
    · simp [Part.passesRun, config]
    · simp [Part.passesRun, standby]
  intro routeOf newRet use kept changed moved ended opened
  have routeOf_eq : routeOf = (Part.routesOf fields).get := funext fun a => (Part.routesOf_get (fits a)).symm
  have use_eq : use = useOf (Part.routesOf fields) newRet := funext fun x => by
    refine Eq.trans ?_ (checked.useOf_eq x).symm
    rw [← routeOf_eq]
    rfl
  have kept_eq : kept = q.keepsNode (Part.routesOf fields) newRet := funext fun x => by
    rw [Part.keepsNode_eq, ← use_eq]
  have ended_eq : ended = q.conditionsOver (Part.routesOf fields) newRet := by
    rw [Part.conditionsOver_eq, ← kept_eq, ← routeOf_eq]
    rfl
  clear_value ended kept use routeOf
  subst ended_eq kept_eq use_eq routeOf_eq
  let p := q.holding none
  let routes := Part.routesOf fields
  let r := p.rerouted routes newRet
  have frame : RouteFrame p r := p.rerouted_frame routes newRet
  have accepted : exec (.route tag fields retarder) quiet =
      .next { s with part := r.answer kindRoute tag .done } := by
    refine exec_route (s := quiet) ((Part.routeRequest_of_passed (p := p) mode set passed).trans ?_)
    rw [Part.applyRoute_of_unheld (p := p) rfl]
    rfl
  have untouched : ∀ a, changed a = false → r.chan.get a = q.chan.get a := fun a kept =>
    (p.rerouted_get routes newRet a).trans (if_neg ((p.mem_changedAxles routes).not.mpr (of_decide_eq_false kept)))
  have renewed : ∀ a, changed a = true → r.chan.get a = p.newChannel routes newRet a := fun a change =>
    (p.rerouted_get routes newRet a).trans (if_pos ((p.mem_changedAxles routes).mpr (of_decide_eq_true change)))
  refine ⟨_, accepted, ⟨frame.control, frame.store, frame.demand, frame.motion, frame.slip, frame.thermal, frame.now,
    frame.fswClosed, p.rerouted_app routes newRet stopped, frame.flap, Part.answer_vl_congr r q _ _ _ frame.vl,
    p.rerouted_retRoute routes newRet⟩, ?chan, ?faults, ?flags, ?nodes, ?entered, ?entries, ?queue, ?inFlight,
    ?abandoned, ?chosen, ?cap, ?sameRet, ?lostRet, ?handed, ?held⟩
  case chan =>
    intro a
    have spec := Part.newChannel_spec (p := p) checked a
    refine ⟨?_, untouched a, fun change => ?_⟩
    · cases change : changed a with
      | true => exact (congrArg Channel.route (renewed a change)).trans spec.1
      | false => exact (congrArg Channel.route (untouched a change)).trans (not_not.mp (of_decide_eq_false change))
    · rw [show (r.answer kindRoute tag .done).chan.get a = _ from renewed a change]
      exact spec.2
  case faults => exact (p.rerouted_ends routes newRet).faults.trans (Part.ends_faults _ _)
  case flags => exact (p.rerouted_ends routes newRet).flags.trans (Part.ends_flags _ _)
  case nodes => exact (congrArg (List.map _) (p.rerouted_nodes routes newRet)).trans (p.updateNodes_table routes newRet)
  case entered =>
    intro e he
    exact Part.mem_updateNodes (p := p) (p.rerouted_nodes routes newRet ▸ he)
  case entries =>
    intro e _ first low high use
    have inTable : e.addr ∈ allAddrs := by simp only [allAddrs, List.mem_cons, List.not_mem_nil, or_false]; omega
    have kept := Part.updateNodes_keeps (p := p) (retarder := newRet) first inTable use
    rwa [← p.rerouted_nodes routes newRet] at kept
  case queue =>
    intro matched addressed
    exact ⟨Part.rerouted_queue (p := p) stopped matched checked addressed,
      fun x queued keeps => Part.rerouted_stands (p := p) stopped matched checked queued keeps,
      fun a change x route => Part.rerouted_release (p := p) stopped matched checked addressed
        ((p.mem_changedAxles routes).mpr (of_decide_eq_true change)) route⟩
  case inFlight => exact fun t phase => Part.rerouted_inFlight (p := p) stopped phase
  case abandoned => exact fun w phase => Part.rerouted_abandoned (p := p) stopped phase
  case chosen =>
    have chosen : r.Chosen := Part.chooseNext_chosen _
    exact Part.chooseNext_of_chosen (p := r.answer kindRoute tag .done) chosen
  case cap =>
    simp only [moved, decide_eq_true_eq]
    exact p.rerouted_cap routes newRet
  case sameRet =>
    intro same
    exact (p.rerouted_ret routes newRet).trans (if_neg (of_decide_eq_false same))
  case lostRet =>
    intro change
    exact (p.rerouted_ret routes newRet).trans (if_pos (of_decide_eq_true change))
  case handed =>
    have handed := p.rerouted_handed routes newRet stopped
    rw [Part.changedAxles] at handed
    simp only [List.any_filter] at handed
    exact handed
  case held =>
    intro h held rest
    have done := exec_route (s := s) (tag := tag) (Part.routeRequest_of_passed mode set passed)
    rw [Part.applyRoute_held held] at done
    refine ⟨fun waits => ?_, fun none_ waits => ?_⟩
    · rw [if_neg fun both => waits.elim (· both.1) both.2] at done
      exact done
    · rw [if_pos ⟨none_, waits⟩] at done
      exact ⟨_, done, q.rerouted_clearApplied routes newRet h tag⟩

end Sys2Proof.Machine
end


section
/-! PROOF. One round of proportional distribution (R87, R88): the order of descending weight places each axle of the set
once, so that a round hands out the remainder whole. -/

namespace Sys2Proof.Machine

/-! ## The order of descending weight (R88) -/

/-- Whether an axle comes before another in the order of descending weight, the lower index first. -/
def heavier (w : Axles Nat) (b a : Axle) : Bool :=
  decide (w.get a < w.get b) || (w.get a == w.get b && decide (b < a))

theorem heavier_iff {w : Axles Nat} {a b : Axle} :
    heavier w b a = true ↔ w.get a < w.get b ∨ w.get a = w.get b ∧ b < a := by
  simp [heavier]

theorem heavier_irrefl (w : Axles Nat) (a : Axle) : heavier w a a = false := by simp [heavier]

theorem heavier_trans {w : Axles Nat} {a b c : Axle} (cb : heavier w c b = true) (ba : heavier w b a = true) :
    heavier w c a = true := by
  rw [heavier_iff, Fin.lt_def] at *
  omega

theorem heavier_total (w : Axles Nat) {a b : Axle} (other : a ≠ b) : heavier w a b = true ∨ heavier w b a = true := by
  have apart : a.val ≠ b.val := fun same => other (Fin.ext same)
  rw [heavier_iff, heavier_iff, Fin.lt_def, Fin.lt_def]
  omega

theorem weightRank_eq (w : Axles Nat) (set : List Axle) (a : Axle) :
    weightRank w set a = (set.filter fun b => heavier w b a).length := rfl

section Ranks

variable {w : Axles Nat} {set : List Axle}

/-- An axle before another has the lower place. -/
theorem weightRank_lt {a b : Axle} (member : b ∈ set) (before : heavier w b a = true) :
    weightRank w set b < weightRank w set a := by
  simp only [weightRank_eq, ← List.countP_eq_length_filter]
  obtain ⟨l, r, rfl⟩ := List.append_of_mem member
  have fewer (m : List Axle) : m.countP (fun c => heavier w c b) ≤ m.countP (fun c => heavier w c a) :=
    List.countP_mono_left fun c _ cb => heavier_trans cb before
  have := fewer l
  have := fewer r
  simp only [List.countP_append, List.countP_cons, heavier_irrefl, before]
  simp
  omega

theorem weightRank_lt_length {a : Axle} (member : a ∈ set) : weightRank w set a < set.length := by
  rw [weightRank_eq, ← List.countP_eq_length_filter]
  exact List.countP_lt_length_iff.mpr ⟨a, member, by simp [heavier_irrefl]⟩

/-- The places of the axles of a set are the numbers below its size, each once. -/
theorem weightRank_perm (w : Axles Nat) (distinct : set.Nodup) :
    (set.map (weightRank w set)).Perm (List.range set.length) := by
  have placed : (set.map (weightRank w set)).Nodup := by
    refine distinct.map_on fun a ha b hb same => by_contra fun other => ?_
    obtain before | before := heavier_total w other
    · exact (weightRank_lt ha before).ne same
    · exact (weightRank_lt hb before).ne' same
  refine (List.subperm_of_subset placed fun n mem => ?_).perm_of_length_le (by simp)
  obtain ⟨a, member, rfl⟩ := List.mem_map.mp mem
  exact List.mem_range.mpr (weightRank_lt_length member)

theorem sum_range_lt (n k : Nat) : ((List.range n).map fun i => if i < k then 1 else 0).sum = min n k := by
  induction n with
  | zero => simp
  | succ n ih =>
    rw [List.range_succ, List.map_append, List.sum_append, ih]
    simp only [List.map_cons, List.map_nil, List.sum_singleton]
    split <;> omega

/-- The first `k` places are `k` axles, where the set holds as many (R88, step 2). -/
theorem sum_first_ranks (w : Axles Nat) (distinct : set.Nodup) {k : Nat} (enough : k ≤ set.length) :
    (set.map fun a => if weightRank w set a < k then 1 else 0).sum = k := by
  have placed := ((weightRank_perm w distinct).map fun i => if i < k then 1 else 0).sum_eq
  rw [List.map_map, sum_range_lt, Nat.min_eq_right enough] at placed
  exact placed

end Ranks

/-! ## A round hands out the remainder whole (R88) -/

/-- Floored parts of `c` fall short of the whole by less than one for each. -/
theorem sum_floors_bounds (v : Axle → Nat) (c : Nat) {total : Nat} (positive : 0 < total) (l : List Axle) :
    (l.map fun a => c * v a / total).sum * total ≤ c * (l.map v).sum ∧
      c * (l.map v).sum ≤ ((l.map fun a => c * v a / total).sum + l.length) * total := by
  induction l with
  | nil => simp
  | cons a l ih =>
    obtain ⟨low, high⟩ := ih
    have floor := Nat.div_mul_le_self (c * v a) total
    have next := Nat.lt_div_mul_add positive (a := c * v a)
    simp only [List.map_cons, List.sum_cons, List.length_cons, Nat.mul_add, Nat.add_mul] at *
    constructor <;> linarith

section Round

variable {w : Axles Nat} {set : List Axle} (weighted : 0 < (set.map w.get).sum) (remainder : Nat)

include weighted

theorem sum_roundBase_le : (set.map (roundBase w set remainder)).sum ≤ remainder := by
  obtain ⟨low, -⟩ := sum_floors_bounds w.get remainder weighted set
  exact Nat.le_of_mul_le_mul_right low weighted

theorem roundLeftover_le : roundLeftover w set remainder ≤ set.length := by
  obtain ⟨-, high⟩ := sum_floors_bounds w.get remainder weighted set
  have := Nat.le_of_mul_le_mul_right high weighted
  unfold roundLeftover roundBase
  omega

theorem sum_roundAmount (distinct : set.Nodup) : (set.map (roundAmount w set remainder)).sum = remainder := by
  have floors := sum_roundBase_le weighted remainder
  have ones := sum_first_ranks w distinct (roundLeftover_le weighted remainder)
  unfold roundAmount
  rw [List.sum_map_add, ones, roundLeftover]
  omega

end Round

end Sys2Proof.Machine
end


section
/-! PROOF. The rounds of proportional distribution as stages (R87, R88): each stage holds the set, the shares and the
remainder; what a round makes of a stage, and at which stage the rounds end. -/

namespace Sys2Proof.Machine

/-! ## Stages (R88) -/

/-- A stage of the distribution: the axles of the set, the shares, and what remains to be shared. -/
abbrev ShareStage := Axles Bool × Axles Nat × Nat

/-- The axles that a flag of each names, in index order. -/
def axlesOf (set : Axles Bool) : List Axle := Axle.all.filter set.get

theorem mem_axlesOf {set : Axles Bool} {a : Axle} : a ∈ axlesOf set ↔ set.get a = true := by
  simp [axlesOf, Axles.mem_all]

theorem axlesOf_contains (set : Axles Bool) (a : Axle) : (axlesOf set).contains a = set.get a := by
  rw [Bool.eq_iff_iff, List.contains_iff_mem, mem_axlesOf]

theorem axlesOf_nodup (set : Axles Bool) : (axlesOf set).Nodup := List.Nodup.filter _ (by decide)

theorem axlesOf_ofFn (f : Axle → Bool) : axlesOf (.ofFn f) = Axle.all.filter f :=
  congrArg (List.filter · Axle.all) (funext (Axles.get_ofFn f))

/-- Something remains, and the set is not empty: another round is made. -/
def Unfinished (st : ShareStage) : Prop := 0 < st.2.2 ∧ ∃ a, st.1.get a = true

section Stages

variable (w cap : Axles Nat) (st : ShareStage)

/-- An axle's share once a round has raised it, before its capacity is looked at. -/
def stageRaised (a : Axle) : Nat := raisedShare w (axlesOf st.1) st.2.2 st.2.1 a

/-- Whether a round raises an axle of the set above its capacity. -/
def stageExceeds (a : Axle) : Bool := st.1.get a && decide (cap.get a < stageRaised w st a)

/-- One round: the axles raised above their capacity leave the set with it, and their excess remains. -/
def shareRound : ShareStage :=
  (.ofFn fun a => st.1.get a && !stageExceeds w cap st a,
    .ofFn fun a => if stageExceeds w cap st a then cap.get a else stageRaised w st a,
    (Axle.all.map fun a => if stageExceeds w cap st a then stageRaised w st a - cap.get a else 0).sum)

theorem axlesOf_shareRound :
    axlesOf (shareRound w cap st).1 = (axlesOf st.1).filter fun a => !stageExceeds w cap st a := by
  rw [shareRound, axlesOf_ofFn, axlesOf, List.filter_filter]
  simp only [Bool.and_comm]

/-- The rounds go on by one round while the stage is unfinished. -/
theorem shareRounds_succ (fuel rounds : Nat) :
    (Unfinished st → shareRounds w cap (fuel + 1) (axlesOf st.1) st.2.1 st.2.2 rounds =
      shareRounds w cap fuel (axlesOf (shareRound w cap st).1) (shareRound w cap st).2.1 (shareRound w cap st).2.2
        (rounds + 1)) ∧
    (¬ Unfinished st →
      shareRounds w cap (fuel + 1) (axlesOf st.1) st.2.1 st.2.2 rounds = ⟨st.2.1, st.2.2, rounds⟩) := by
  have ended : (st.2.2 = 0 ∨ axlesOf st.1 = []) ↔ ¬ Unfinished st := by
    rw [Unfinished, List.eq_nil_iff_forall_not_mem]
    simp only [mem_axlesOf, not_and_or, not_exists, Nat.not_lt, Nat.le_zero]
  have excess : ((axlesOf st.1).map fun a =>
      if stageExceeds w cap st a then stageRaised w st a - cap.get a else 0).sum = (shareRound w cap st).2.2 := by
    simp only [axlesOf, sum_map_filter, shareRound]
    congr 2
    funext a
    cases member : st.1.get a <;> simp [stageExceeds, member]
  rw [shareRounds]
  simp only [axlesOf_contains]
  constructor
  · intro goes
    rw [if_neg (mt ended.mp (not_not.mpr goes)), axlesOf_shareRound, ← excess]
    rfl
  · exact fun done => if_pos (ended.mpr done)

/-- The rounds are so many single rounds, from unfinished stages, up to a finished one or the last one allowed. -/
theorem shareRounds_iterate (fuel rounds : Nat) : ∃ k ≤ fuel,
    shareRounds w cap fuel (axlesOf st.1) st.2.1 st.2.2 rounds =
      ⟨((shareRound w cap)^[k] st).2.1, ((shareRound w cap)^[k] st).2.2, rounds + k⟩ ∧
    (∀ i < k, Unfinished ((shareRound w cap)^[i] st)) ∧ (k = fuel ∨ ¬ Unfinished ((shareRound w cap)^[k] st)) := by
  induction fuel generalizing st rounds with
  | zero => exact ⟨0, Nat.le_refl 0, rfl, nofun, .inl rfl⟩
  | succ fuel ih =>
    obtain ⟨goesOn, ends⟩ := shareRounds_succ w cap st fuel rounds
    by_cases goes : Unfinished st
    · obtain ⟨k, within, outcome, earlier, last⟩ := ih (shareRound w cap st) (rounds + 1)
      refine ⟨k + 1, by omega, ?_, fun i before => ?_, last.imp (congrArg Nat.succ) id⟩
      · rw [goesOn goes, outcome, Function.iterate_succ_apply, Nat.add_right_comm, Nat.add_assoc]
      · cases i with
        | zero => exact goes
        | succ i => exact earlier i (by omega)
    · exact ⟨0, Nat.zero_le _, ends goes, nofun, .inr goes⟩

end Stages

/-! ## What every stage keeps (R88, R89) -/

/-- What holds of each stage at which `total` is shared among eligible axles: what an axle outside the set has, and the
balance. -/
structure StageSound (cap : Axles Nat) (eligible : Axle → Bool) (total : Nat) (st : ShareStage) : Prop where
  members : ∀ a, st.1.get a = true → eligible a = true
  balance : (Axle.all.map st.2.1.get).sum + st.2.2 = total
  bounded : ∀ a, st.2.1.get a ≤ cap.get a
  filled : ∀ a, eligible a = true → st.1.get a = false → st.2.1.get a = cap.get a
  idle : ∀ a, eligible a = false → st.2.1.get a = 0

section Sound

variable {w cap : Axles Nat} {eligible : Axle → Bool} {total : Nat} {st : ShareStage}

theorem stageRaised_of_outside {a : Axle} (outside : st.1.get a = false) : stageRaised w st a = st.2.1.get a := by
  rw [stageRaised, raisedShare, axlesOf_contains, outside]
  rfl

/-- A round leaves an axle with its share raised, or with its capacity. -/
theorem shareRound_share (a : Axle) : (shareRound w cap st).2.1.get a =
    if st.1.get a = true ∧ cap.get a < stageRaised w st a then cap.get a else stageRaised w st a := by
  simp [shareRound, stageExceeds]

theorem shareRound_member (a : Axle) : (shareRound w cap st).1.get a = true ↔
    st.1.get a = true ∧ stageRaised w st a ≤ cap.get a := by
  cases member : st.1.get a <;> simp [shareRound, stageExceeds, member]

/-- A round shares out what remained. -/
theorem sum_stageRaised (weighted : ∀ a, st.1.get a = true → 0 < w.get a) (unfinished : Unfinished st) :
    (Axle.all.map (stageRaised w st)).sum = (Axle.all.map st.2.1.get).sum + st.2.2 := by
  obtain ⟨-, b, member⟩ := unfinished
  have positive : 0 < ((axlesOf st.1).map w.get).sum :=
    (weighted b member).trans_le (List.le_sum_of_mem (List.mem_map_of_mem (mem_axlesOf.mpr member)))
  have shared := sum_roundAmount positive st.2.2 (axlesOf_nodup st.1)
  unfold stageRaised raisedShare
  rw [List.sum_map_add]
  simp only [axlesOf_contains]
  rw [← sum_map_filter]
  exact congrArg _ shared

theorem StageSound.next (sound : StageSound cap eligible total st)
    (weighted : ∀ a, eligible a = true → 0 < w.get a) (unfinished : Unfinished st) :
    StageSound cap eligible total (shareRound w cap st) where
  members a member := sound.members a (shareRound_member a |>.mp member).1
  balance := by
    have shared := sum_stageRaised (fun a member => weighted a (sound.members a member)) unfinished
    have parted : ∀ a, (shareRound w cap st).2.1.get a +
        (if stageExceeds w cap st a then stageRaised w st a - cap.get a else 0) = stageRaised w st a := fun a => by
      cases exceeds : stageExceeds w cap st a with
      | false => simp [shareRound, exceeds]
      | true =>
        have above : cap.get a < stageRaised w st a := of_decide_eq_true (Bool.and_eq_true _ _ |>.mp exceeds).2
        simp [shareRound, exceeds, Nat.add_sub_cancel' above.le]
    calc (Axle.all.map (shareRound w cap st).2.1.get).sum + (shareRound w cap st).2.2
        = (Axle.all.map (stageRaised w st)).sum := by
          rw [← funext parted, List.sum_map_add]
          rfl
      _ = total := shared.trans sound.balance
  bounded a := by
    rw [shareRound_share]
    split
    · exact Nat.le_refl _
    · next kept =>
      cases member : st.1.get a with
      | true => exact Nat.not_lt.mp fun above => kept ⟨member, above⟩
      | false => exact stageRaised_of_outside member ▸ sound.bounded a
  filled a able left := by
    rw [shareRound_share]
    cases member : st.1.get a with
    | true =>
      have above : ¬ stageRaised w st a ≤ cap.get a := fun fits => by
        simp [(shareRound_member a).mpr ⟨member, fits⟩] at left
      exact if_pos ⟨rfl, Nat.not_le.mp above⟩
    | false => simpa [stageRaised_of_outside member] using sound.filled a able member
  idle a unable := by
    have outside : st.1.get a = false := by
      by_contra member
      simp [sound.members a (by simpa using member)] at unable
    simpa [shareRound_share, outside, stageRaised_of_outside outside] using sound.idle a unable

/-- A round lowers no share. -/
theorem StageSound.share_le (sound : StageSound cap eligible total st) (a : Axle) :
    st.2.1.get a ≤ (shareRound w cap st).2.1.get a := by
  rw [shareRound_share]
  split
  · exact sound.bounded a
  · exact Nat.le_add_right _ _

/-- Where a round leaves something over, an axle has left the set. -/
theorem shareRound_shrinks (rest : 0 < (shareRound w cap st).2.2) :
    (axlesOf (shareRound w cap st).1).length < (axlesOf st.1).length := by
  obtain ⟨a, left⟩ : ∃ a, stageExceeds w cap st a = true := by
    by_contra none_
    simp only [not_exists, Bool.not_eq_true] at none_
    simp [shareRound, none_] at rest
  have member : st.1.get a = true := (Bool.and_eq_true _ _ |>.mp left).1
  rw [axlesOf_shareRound, ← List.countP_eq_length_filter]
  exact List.countP_lt_length_iff.mpr ⟨a, mem_axlesOf.mpr member, by simp [left]⟩

/-- Every stage of the rounds is sound, and each round with something left over took an axle out of the set. -/
theorem StageSound.iterate (sound : StageSound cap eligible total st)
    (weighted : ∀ a, eligible a = true → 0 < w.get a) (k : Nat)
    (unfinished : ∀ i < k, Unfinished ((shareRound w cap)^[i] st)) :
    StageSound cap eligible total ((shareRound w cap)^[k] st) ∧
      (((shareRound w cap)^[k] st).2.2 = 0 ∨
        (axlesOf ((shareRound w cap)^[k] st).1).length + k ≤ (axlesOf st.1).length) := by
  induction k with
  | zero => exact ⟨sound, .inr (Nat.le_refl _)⟩
  | succ k ih =>
    obtain ⟨earlier, fewer⟩ := ih fun i before => unfinished i (by omega)
    have goes := unfinished k (Nat.lt_succ_self k)
    rw [Function.iterate_succ_apply']
    refine ⟨earlier.next weighted goes, ?_⟩
    obtain none_ | rest := Nat.eq_zero_or_pos (shareRound w cap ((shareRound w cap)^[k] st)).2.2
    · exact .inl none_
    · have := shareRound_shrinks rest
      obtain none_ | fewer := fewer
      · exact absurd none_ goes.1.ne'
      · exact .inr (by omega)

end Sound

end Sys2Proof.Machine
end


section
/-! PROOF. The sharing of a pass (R85 to R89): the stages of its rounds, and that the shares and the shortfall make up
the service total. -/

namespace Sys2Proof.Machine

/-! ## The stages of a pass (R87, R88) -/

namespace Part

variable (p : Part)

/-- The stage of a pass's distribution after so many rounds, from the eligible axles and the service total. -/
def shareStage (k : Nat) : ShareStage :=
  (shareRound (.ofFn p.passWeight) p.cap.items.service)^[k]
    (.ofFn p.isEligible, .replicate 0, p.wantedService)

theorem shareStage_succ (k : Nat) : p.shareStage (k + 1) =
    shareRound (.ofFn p.passWeight) p.cap.items.service (p.shareStage k) := Function.iterate_succ_apply' _ _ _

theorem passWeight_pos {p : Part} {a : Axle} (able : p.isEligible a = true) :
    0 < (Axles.ofFn p.passWeight).get a := by
  rw [Axles.get_ofFn, passWeight, if_pos able]
  exact Nat.le_max_right _ _

/-- The distribution begins with no shares, and the eligible axles in the set. -/
theorem shareStage_zero_sound :
    StageSound p.cap.items.service p.isEligible p.wantedService (p.shareStage 0) where
  members a member := by simpa [shareStage] using member
  balance := by simp [shareStage, Axle.all]
  bounded a := by simp [shareStage]
  filled a able left := by simp [shareStage, able] at left
  idle a _ := by simp [shareStage]

/-- Where trim rotation does not apply, a pass makes rounds until nothing remains or no axle can take more. -/
theorem sharing_of_not_trim (shared : p.usesTrim = false) : ∃ k ≤ 4,
    p.sharing = ⟨(p.shareStage k).2.1, (p.shareStage k).2.2, k⟩ ∧ (∀ i < k, Unfinished (p.shareStage i)) ∧
      StageSound p.cap.items.service p.isEligible p.wantedService (p.shareStage k) ∧
      ¬ Unfinished (p.shareStage k) := by
  obtain ⟨k, within, outcome, earlier, last⟩ :=
    shareRounds_iterate (.ofFn p.passWeight) p.cap.items.service (p.shareStage 0) 4 0
  obtain ⟨sound, fewer⟩ := p.shareStage_zero_sound.iterate (fun _ => passWeight_pos) k earlier
  have set : p.eligibleAxles = axlesOf (p.shareStage 0).1 := (axlesOf_ofFn p.isEligible).symm
  refine ⟨k, within, ?_, earlier, sound, last.elim (fun all => ?_) id⟩
  · rw [sharing, shared, set, if_neg Bool.false_ne_true]
    exact outcome.trans (by rw [Nat.zero_add]; rfl)
  · rintro ⟨rest, a, member⟩
    obtain none_ | fewer := fewer
    · exact rest.ne' none_
    · have most : (axlesOf (p.shareStage 0).1).length ≤ 4 := List.length_filter_le _ _
      have some_ : 0 < (axlesOf (p.shareStage k).1).length := List.length_pos_of_mem (mem_axlesOf.mpr member)
      have left : (axlesOf (p.shareStage k).1).length + k ≤ (axlesOf (p.shareStage 0).1).length := fewer
      omega

/-- Trim rotation gives the pointer axle the service total, and the others nothing (R86). -/
theorem sharing_of_trim (trim : p.usesTrim = true) :
    p.sharing = ⟨(Axles.replicate 0).set p.app.pointer p.wantedService, 0, 0⟩ := if_pos trim

end Part

/-! ## The balance (R89) -/

theorem Axles.sum_toList (x : Axles Nat) : x.toList.sum = (Axle.all.map x.get).sum := rfl

/-- A change of one share changes the sum of the shares by as much. -/
theorem Axles.sum_set (x : Axles Nat) (a : Axle) (v : Nat) :
    (x.set a v).toList.sum + x.get a = x.toList.sum + v := by
  fin_cases a <;> simp [Axles.toList, Axles.set, Axles.get] <;> omega

/-- The shares and the shortfall of a pass make up its service total (R89). -/
theorem Part.sharing_balance (p : Part) : p.sharing.shares.toList.sum + p.sharing.remainder = p.wantedService := by
  cases trim : p.usesTrim with
  | true =>
    have given := Axles.sum_set (.replicate 0) p.app.pointer p.wantedService
    rw [Axles.get_replicate, show (Axles.replicate 0).toList.sum = 0 from rfl, Nat.zero_add] at given
    rw [p.sharing_of_trim trim]
    exact given
  | false =>
    obtain ⟨k, -, outcome, -, sound, -⟩ := p.sharing_of_not_trim trim
    rw [outcome, Axles.sum_toList]
    exact sound.balance

end Sys2Proof.Machine
end


section
/-! PROOF. Every step keeps the shares and the shortfall equal to the service total (R89, R92), and the endurance brakes
released while passes are stopped (R76, R98, R119, R129, R131, R137). This file: what the laws ask of a part, and the
operations of the Channel Units, Retarder Control and Flap Control. -/

namespace Sys2Proof.Machine

open Safety

/-! ## The laws of the endurance brakes -/

/-- The retarder's timers and mark stand in the states that they time (R119, R123 to R125). -/
def RetarderControl.Timed (r : RetarderControl) : Prop :=
  (r.fillTimer ≠ none ↔ r.state = .filling) ∧ (r.drainTimer ≠ none ↔ r.state = .draining) ∧
    (r.releaseMark ≠ none → r.state = .active)

/-- The retarder is in a state that passes alone allow (R129). -/
def RetarderControl.Engaged (r : RetarderControl) : Prop := r.state = .filling ∨ r.state = .active

/-- The flap is commanded closed (R79). -/
def FlapControl.Commanded (f : FlapControl) : Prop := f.state = .closing ∨ f.state = .closed

/-- The solenoid and the flap timer stand as the flap state has them (R131). -/
def FlapControl.Driven (f : FlapControl) : Prop :=
  (f.solenoid = true ↔ f.Commanded) ∧ (f.timer ≠ none → f.state = .closing ∨ f.state = .opening)

/-- What holds of the part while passes are stopped (R76, R129, R137). -/
structure Halted (p : Part) : Prop where
  retarder : ¬ p.ret.Engaged
  flap : ¬ p.flap.Commanded
  passTimer : p.app.passTimer = none
  handed : ∀ h ∈ p.handed, h.lane.ofPass = false

/-- The laws of the endurance brakes. -/
structure BrakesLawful (p : Part) : Prop where
  timed : p.ret.Timed
  driven : p.flap.Driven
  halted : p.passesRun = false → Halted p

theorem brakesLawful_iff {p : Part} :
    BrakesLawful p ↔ EnduranceReleased p ∧ FlapDriven p ∧ RetarderTimed p := by
  constructor
  · intro h
    refine ⟨fun stopped => ?_, h.driven, h.timed⟩
    obtain ⟨retarder, flap, passTimer, handed⟩ := h.halted stopped
    obtain ⟨notFilling, notActive⟩ := not_or.mp retarder
    obtain ⟨notClosing, notClosed⟩ := not_or.mp flap
    exact ⟨notFilling, notActive, notClosing, notClosed, passTimer, handed⟩
  · rintro ⟨released, driven, timed⟩
    refine ⟨timed, driven, fun stopped => ?_⟩
    obtain ⟨notFilling, notActive, notClosing, notClosed, passTimer, handed⟩ := released stopped
    exact ⟨not_or.mpr ⟨notFilling, notActive⟩, not_or.mpr ⟨notClosing, notClosed⟩, passTimer, handed⟩

/-! ## What keeps them -/

/-- What an operation leaves of the balance of the shares and, law by law, of the endurance brakes. -/
structure EnduranceKept (p q : Part) : Prop where
  shares : SharesBalance p → SharesBalance q
  timed : p.ret.Timed → q.ret.Timed
  driven : p.flap.Driven → q.flap.Driven
  halted : (p.passesRun = false → Halted p) → q.passesRun = false → Halted q

theorem EnduranceKept.lawful {p q : Part} (k : EnduranceKept p q) (h : BrakesLawful p) : BrakesLawful q :=
  ⟨k.timed h.timed, k.driven h.driven, k.halted h.halted⟩

namespace EnduranceKept

variable {p q r : Part}

theorem refl (p : Part) : EnduranceKept p p := ⟨id, id, id, id⟩

theorem trans (h : EnduranceKept p q) (h' : EnduranceKept q r) : EnduranceKept p r :=
  ⟨h'.shares ∘ h.shares, h'.timed ∘ h.timed, h'.driven ∘ h.driven, h'.halted ∘ h.halted⟩

theorem ite {c : Prop} [Decidable c] (h : EnduranceKept p q) (h' : EnduranceKept p r) :
    EnduranceKept p (if c then q else r) := by
  split
  · exact h
  · exact h'

theorem foldl {α : Type} {f : Part → α → Part}
    (step : ∀ (q : Part) (a : α), EnduranceKept p q → EnduranceKept p (f q a)) (h : EnduranceKept p q)
    (l : List α) : EnduranceKept p (l.foldl f q) := by
  induction l generalizing q with
  | nil => exact h
  | cons a l ih => exact ih (step q a h)

/-- An operation on items that the laws do not read, and on the hand-offs that are not a pass's. -/
theorem handedOn (h : EnduranceKept p q)
    (same : r.control = q.control ∧ r.app.shares = q.app.shares ∧ r.app.shortfall = q.app.shortfall ∧
      r.app.serviceTotal = q.app.serviceTotal ∧ r.app.passTimer = q.app.passTimer ∧ r.ret = q.ret ∧ r.flap = q.flap)
    (handed : ∀ x ∈ r.handed, x ∈ q.handed ∨ x.lane.ofPass = false) : EnduranceKept p r := by
  obtain ⟨control, shares, shortfall, serviceTotal, passTimer, ret, flap⟩ := same
  refine h.trans ⟨fun balance => ?_, by rw [ret]; exact id, by rw [flap]; exact id, fun halted stopped => ?_⟩
  · simpa only [SharesBalance, shares, shortfall, serviceTotal] using balance
  · obtain ⟨released, opened, noPass, noHandoff⟩ := halted (Part.passesRun_congr control ▸ stopped)
    exact ⟨ret ▸ released, flap ▸ opened, passTimer.trans noPass, fun x mem => (handed x mem).elim (noHandoff x) id⟩

/-- An operation on items that the laws do not read. -/
theorem framed (h : EnduranceKept p q)
    (same : r.control = q.control ∧ r.app.shares = q.app.shares ∧ r.app.shortfall = q.app.shortfall ∧
      r.app.serviceTotal = q.app.serviceTotal ∧ r.app.passTimer = q.app.passTimer ∧ r.ret = q.ret ∧
      r.flap = q.flap ∧ r.handed = q.handed) : EnduranceKept p r := by
  obtain ⟨control, shares, shortfall, serviceTotal, passTimer, ret, flap, handed⟩ := same
  exact h.handedOn ⟨control, shares, shortfall, serviceTotal, passTimer, ret, flap⟩
    (by rw [handed]; exact fun _ => .inl)

theorem handOn (h : EnduranceKept p q) {x : Handoff} (other : x.lane.ofPass = false) :
    EnduranceKept p (q.handOn x) := by
  refine h.handedOn (by simp) fun y mem => ?_
  obtain old | new := List.mem_append.mp mem
  · exact .inl old
  · exact .inr (List.mem_singleton.mp new ▸ other)

theorem needCapacities (h : EnduranceKept p q) : EnduranceKept p q.needCapacities := h.handOn rfl

theorem taken (h : EnduranceKept p q) (l : Lane) : EnduranceKept p (q.taken l) :=
  h.handedOn (by simp) fun _ mem => .inl (List.mem_of_mem_eraseP mem)

theorem discardLanes (h : EnduranceKept p q) (gone : Lane → Bool) : EnduranceKept p (q.discardLanes gone) :=
  h.handedOn (by simp) fun _ mem => .inl (List.mem_filter.mp mem).1

theorem faultOccurs (h : EnduranceKept p q) (src : Source) (code : FaultCode) :
    EnduranceKept p (q.faultOccurs src code) := h.framed (by simp)

theorem faultEnds (h : EnduranceKept p q) (src : Source) (code : FaultCode) :
    EnduranceKept p (q.faultEnds src code) := h.framed (by simp)

theorem answer (h : EnduranceKept p q) (kind tag : Byte) (r : Reply) : EnduranceKept p (q.answer kind tag r) :=
  h.framed (by simp)

theorem chooseNext (h : EnduranceKept p q) : EnduranceKept p q.chooseNext := h.framed (by simp)

/-! ### The Channel Units -/

theorem setChannel (h : EnduranceKept p q) (a : Axle) (c : Channel) : EnduranceKept p (q.setChannel a c) :=
  h.framed (by simp)

theorem postTarget (h : EnduranceKept p q) (a : Axle) : EnduranceKept p (q.postTarget a) := h.framed (by simp)

theorem releaseChannel (h : EnduranceKept p q) (a : Axle) (st : ChannelState) :
    EnduranceKept p (q.releaseChannel a st) := h.framed (by simp)

theorem trackPressure (h : EnduranceKept p q) (a : Axle) (kPa : Nat) : EnduranceKept p (q.trackPressure a kPa) :=
  h.framed (by simp)

/-- A withdrawn share joins the shortfall, and its demand of 0 is handed on while passes run alone (R92). -/
theorem withdrawShare (h : EnduranceKept p q) (a : Axle) : EnduranceKept p (q.withdrawShare a) := by
  unfold Part.withdrawShare
  split
  · next running =>
    refine h.trans ⟨fun balance => ?_, id, id, fun _ stopped => ?_⟩
    · have moved := Axles.sum_set q.app.shares a 0
      simp only [SharesBalance, Part.handOn_app] at balance ⊢
      omega
    · exact absurd (running.symm.trans stopped) (by simp)
  · exact h

/-- A channel judged again withdraws its share at most (R92, R142). -/
theorem judgeChannel (h : EnduranceKept p q) (a : Axle) : EnduranceKept p (q.judgeChannel a) := by
  have released : EnduranceKept p (q.releasedUnlessAvailable a) := (h.releaseChannel a .backup).ite h
  have published := fun c => (released.setChannel a c).needCapacities
  exact released.ite ((published _).ite ((published _).withdrawShare a))

theorem pressureDemand (h : EnduranceKept p q) (a : Axle) : EnduranceKept p (q.pressureDemand a) := by
  unfold Part.pressureDemand
  split
  · exact (h.taken (.pressure a)).framed (by simp)
  · exact h

theorem judgeSample (h : EnduranceKept p q) (a : Axle) (kPa : Int) : EnduranceKept p (q.judgeSample a kPa) :=
  EnduranceKept.ite
    (((((h.setChannel a _).faultEnds _ _).ite (h.setChannel a _)).judgeChannel a).trackPressure a _)
    (((h.setChannel a _).ite ((h.setChannel a _).faultOccurs _ _)).judgeChannel a)

theorem localSample (h : EnduranceKept p q) (a : Axle) (kPa : Int) : EnduranceKept p (q.localSample a kPa) :=
  EnduranceKept.ite ((h.setChannel a _).ite ((h.setChannel a _).judgeSample a kPa)) h

theorem remoteMeasurement (h : EnduranceKept p q) (a : Axle) : EnduranceKept p (q.remoteMeasurement a) := by
  unfold Part.remoteMeasurement
  split
  · exact (h.taken (.channelLink a)).framed (by simp)
  · exact h

/-- A channel that has posted its target in a new state is judged again. -/
theorem entered (h : EnduranceKept p q) (a : Axle) (c : Channel) :
    EnduranceKept p (((q.setChannel a c).postTarget a).judgeChannel a) :=
  ((h.setChannel a c).postTarget a).judgeChannel a

theorem channelPresenceChange (h : EnduranceKept p q) (a : Axle) : EnduranceKept p (q.channelPresenceChange a) := by
  have lane := h.taken (.channelLink a)
  have found : EnduranceKept p ((q.taken (.channelLink a)).channelFound a) :=
    EnduranceKept.ite ((lane.setChannel a _).judgeChannel a) (lane.judgeChannel a)
  have lost : EnduranceKept p ((q.taken (.channelLink a)).channelLost a) :=
    EnduranceKept.ite (lane.entered a _) (lane.judgeChannel a)
  unfold Part.channelPresenceChange
  split
  · exact found.chooseNext
  · exact lost.chooseNext
  · exact h

theorem trackingTimerExpiry (h : EnduranceKept p q) (a : Axle) : EnduranceKept p (q.trackingTimerExpiry a) :=
  EnduranceKept.ite ((((h.setChannel a _).faultOccurs _ _).releaseChannel a _).judgeChannel a) h

theorem readmitChannel (h : EnduranceKept p q) (a : Axle) : EnduranceKept p (q.readmitChannel a) :=
  EnduranceKept.ite (h.entered a _) h

/-! ### Retarder Control -/

/-- An operation of Retarder Control that keeps its timers with its state, and engages while passes run alone. -/
theorem ofRetarder (h : EnduranceKept p q)
    (same : r.control = q.control ∧ r.app = q.app ∧ r.flap = q.flap ∧ r.handed = q.handed)
    (timed : q.ret.Timed → r.ret.Timed) (engaged : q.passesRun = false → r.ret.Engaged → q.ret.Engaged) :
    EnduranceKept p r := by
  obtain ⟨control, app, flap, handed⟩ := same
  refine h.trans ⟨by simp [SharesBalance, app], timed, by rw [flap]; exact id, fun halted stopped => ?_⟩
  have stopped := Part.passesRun_congr control ▸ stopped
  obtain ⟨released, opened, noPass, noHandoff⟩ := halted stopped
  exact ⟨fun now => released (engaged stopped now), flap ▸ opened, app ▸ noPass, handed ▸ noHandoff⟩

/-- What is sent, and the last command and node state, are no concern of the laws. -/
theorem sendRetarder (h : EnduranceKept p q) (t : RetarderTarget) : EnduranceKept p (q.sendRetarder t) :=
  h.ofRetarder (by simp) (by simp [RetarderControl.Timed]) (by simp [RetarderControl.Engaged])

theorem setCommand (h : EnduranceKept p q) (command : Nat) :
    EnduranceKept p { q with ret := { q.ret with handedCommand := command } } :=
  h.ofRetarder ⟨rfl, rfl, rfl, rfl⟩ id fun _ => id

theorem retargetRetarder (h : EnduranceKept p q) : EnduranceKept p q.retargetRetarder := h.ite (h.sendRetarder _)

/-- DRAINING runs the drain timer alone (R119, R125). -/
theorem drainRetarder (h : EnduranceKept p q) : EnduranceKept p q.drainRetarder :=
  h.ofRetarder (by simp) (by simp [Part.drainRetarder_ret, RetarderControl.Timed])
    (by simp [Part.drainRetarder_ret, RetarderControl.Engaged])

/-- A state that is not timed is entered with the timers stopped; ACTIVE from FILLING (R119, R123). -/
theorem enterRetarder (h : EnduranceKept p q) {st : RetarderState} (untimed : st ≠ .filling ∧ st ≠ .draining)
    (active : st = .active → q.ret.state = .filling) : EnduranceKept p (q.enterRetarder st) := by
  obtain ⟨notFilling, notDraining⟩ := untimed
  refine h.ofRetarder (by simp) (fun _ => ?_) fun _ engaged => .inl (active ?_)
  · simp [Part.enterRetarder_ret, RetarderControl.Timed, notFilling, notDraining]
  · simpa [Part.enterRetarder_ret, RetarderControl.Engaged, notFilling] using engaged

/-- FILLING is entered in ACTIVE mode alone, with the fill timer running (R121, R123). -/
theorem considerEngage (h : EnduranceKept p q) : EnduranceKept p q.considerEngage := by
  unfold Part.considerEngage
  dsimp only
  split
  · exact h
  · next mode =>
    have running : q.passesRun = true := Part.passesRun_iff.mpr (.inl (not_not.mp mode))
    have pruned : EnduranceKept p { q with ret := { q.ret with engagements := q.prunedEngagements } } :=
      h.ofRetarder ⟨rfl, rfl, rfl, rfl⟩ id fun _ => id
    have held : EnduranceKept p
        { q with ret := { q.ret with engagements := q.prunedEngagements, heldEpisode := true } }.flagWindowHeld :=
      h.ofRetarder ⟨rfl, rfl, rfl, rfl⟩ id fun _ => id
    refine h.ite (EnduranceKept.ite (EnduranceKept.retargetRetarder (h.ofRetarder ?_ (fun _ => ?_) ?_))
      (pruned.ite held))
    · exact ⟨rfl, rfl, rfl, rfl⟩
    · simp [RetarderControl.Timed, Part.setRetarder, Part.startTimer]
    · simp [running]

/-- The release-delay mark is set in ACTIVE (R124). -/
theorem judgeRelease (h : EnduranceKept p q) (active : q.ret.state = .active) (want command : Nat) :
    EnduranceKept p (q.judgeRelease want command) := by
  have marked (mark : Option Time) : EnduranceKept p { q with ret := { q.ret with releaseMark := mark } } :=
    h.ofRetarder ⟨rfl, rfl, rfl, rfl⟩ (fun ⟨fill, drain, _⟩ => ⟨fill, drain, fun _ => active⟩) fun _ => id
  unfold Part.judgeRelease
  split
  · split
    · exact marked _
    · exact h.drainRetarder.ite h
  · exact marked _

theorem takeWant (h : EnduranceKept p q) (want command : Nat) : EnduranceKept p (q.takeWant want command) := by
  have recorded := h.setCommand command
  have retargeted := recorded.retargetRetarder.ite recorded (c := q.ret.state = .active)
  unfold Part.takeWant
  dsimp only
  split
  · exact retargeted.considerEngage.ite retargeted
  · split
    · exact retargeted.drainRetarder.ite retargeted
    · exact retargeted.drainRetarder
    · exact retargeted
    · exact retargeted
    · exact retargeted
  · next active => exact retargeted.judgeRelease active want command
  · exact retargeted
  · exact retargeted

theorem retarderWantTaken (h : EnduranceKept p q) : EnduranceKept p q.retarderWantTaken := by
  unfold Part.retarderWantTaken
  split
  · exact (h.taken _).takeWant _ _
  · exact h

theorem takeNodeState (h : EnduranceKept p q) (st : NodeState) : EnduranceKept p (q.takeNodeState st) := by
  unfold Part.takeNodeState
  split
  · next filling => exact h.enterRetarder (by simp) fun _ => filling
  iterate 3 exact h
  iterate 2 exact h.drainRetarder
  iterate 2 exact h
  · exact h.enterRetarder (by simp) nofun
  iterate 3 exact h
  iterate 3 exact h.drainRetarder
  iterate 2 exact h

theorem retarderNodeStateTaken (h : EnduranceKept p q) : EnduranceKept p q.retarderNodeStateTaken := by
  unfold Part.retarderNodeStateTaken
  split
  · exact (h.taken _).takeNodeState _
  · exact h

theorem loseRetarder (h : EnduranceKept p q) : EnduranceKept p q.loseRetarder := by
  have drained := h.enterRetarder (st := .drained) (by simp) nofun
  unfold Part.loseRetarder
  split
  · exact drained
  · exact drained
  · exact drained
  · exact h
  · exact h

theorem retarderNodeLostTaken (h : EnduranceKept p q) : EnduranceKept p q.retarderNodeLostTaken := by
  unfold Part.retarderNodeLostTaken
  split
  · exact (h.taken _).loseRetarder.chooseNext
  · exact h

theorem fillTimerExpiry (h : EnduranceKept p q) : EnduranceKept p q.fillTimerExpiry :=
  ((h.faultOccurs _ _).enterRetarder (st := .faulted) (by simp) nofun).ite h

theorem drainTimerExpiry (h : EnduranceKept p q) : EnduranceKept p q.drainTimerExpiry :=
  ((h.faultOccurs _ _).enterRetarder (st := .faulted) (by simp) nofun).ite h

theorem readmitRetarder (h : EnduranceKept p q) : EnduranceKept p q.readmitRetarder :=
  ((h.enterRetarder (st := .drained) (by simp) nofun).ite h.drainRetarder).ite h

theorem stopRetarder (h : EnduranceKept p q) : EnduranceKept p q.stopRetarder := by
  have commanded := h.setCommand 0
  unfold Part.stopRetarder
  dsimp only
  split
  · exact commanded.drainRetarder
  · exact commanded.drainRetarder
  · exact commanded
  · exact commanded
  · exact commanded

/-! ### Flap Control -/

/-- Flap Control's items set to ones that are driven by their state, and command the flap closed while passes run
alone. -/
theorem setFlap (h : EnduranceKept p q) {f : FlapControl} (driven : q.flap.Driven → f.Driven)
    (commanded : q.passesRun = false → f.Commanded → q.flap.Commanded) : EnduranceKept p (q.setFlap f) := by
  refine h.trans ⟨id, id, driven, fun halted stopped => ?_⟩
  obtain ⟨released, opened, noPass, noHandoff⟩ := halted stopped
  exact ⟨released, fun now => opened (commanded stopped now), noPass, noHandoff⟩

theorem changeFlap (h : EnduranceKept p q) {f : FlapControl} (driven : q.flap.Driven → f.Driven)
    (commanded : q.passesRun = false → f.Commanded → q.flap.Commanded) : EnduranceKept p (q.changeFlap f) :=
  (h.setFlap driven commanded).ite (h.setFlap driven commanded).needCapacities

/-- A flap with its solenoid off that is not commanded closed. -/
theorem setFlap_released (h : EnduranceKept p q) {f : FlapControl} (off : f.solenoid = false)
    (state : f.state = .opened ∨ f.state = .opening ∨ f.state = .faulted)
    (timer : f.timer ≠ none → f.state = .opening) : EnduranceKept p (q.setFlap f) := by
  have opened : ¬ f.Commanded := by
    obtain state | state | state := state <;> simp [FlapControl.Commanded, state]
  exact h.setFlap (fun _ => ⟨iff_of_false (by simp [off]) opened, fun running => .inr (timer running)⟩)
    fun _ now => absurd now opened

theorem changeFlap_released (h : EnduranceKept p q) {f : FlapControl} (off : f.solenoid = false)
    (state : f.state = .opened ∨ f.state = .opening ∨ f.state = .faulted)
    (timer : f.timer ≠ none → f.state = .opening) : EnduranceKept p (q.changeFlap f) :=
  (h.setFlap_released off state timer).ite (h.setFlap_released off state timer).needCapacities

theorem flapOpened (h : EnduranceKept p q) : EnduranceKept p q.flapOpened :=
  h.changeFlap_released rfl (.inl rfl) (by simp)

theorem flapOpening (h : EnduranceKept p q) : EnduranceKept p q.flapOpening :=
  h.changeFlap_released rfl (.inr (.inl rfl)) (by simp)

theorem flapTrips (h : EnduranceKept p q) (code : FaultCode) : EnduranceKept p (q.flapTrips code) :=
  (h.faultOccurs .flap code).changeFlap_released rfl (.inr (.inr rfl)) (by simp)

theorem flapOpenWant (h : EnduranceKept p q) : EnduranceKept p q.flapOpenWant := by
  unfold Part.flapOpenWant
  split
  · exact h.flapOpening.ite h.flapOpened
  · exact h.flapOpening.ite h.flapOpened
  · exact h
  · exact h
  · exact h

/-- The flap is commanded closed while passes run (R132). -/
theorem flapCloseWant (h : EnduranceKept p q) (running : q.passesRun = true) : EnduranceKept p q.flapCloseWant := by
  unfold Part.flapCloseWant
  split
  · refine EnduranceKept.ite (h.changeFlap (fun _ => ?_) ?_) h
    · simp [FlapControl.Driven, FlapControl.Commanded]
    · simp [running]
  · exact h
  · exact h
  · exact h
  · exact h

/-- While passes are stopped no want waits (R98). -/
theorem exhaustWantTaken (h : EnduranceKept p q) : EnduranceKept p q.exhaustWantTaken := by
  have taken := (refl q).taken .exhaustWant
  refine h.trans ?_
  unfold Part.exhaustWantTaken
  split
  · next waits =>
    cases running : q.passesRun with
    | true => exact taken.flapCloseWant running
    | false =>
      have closing : ∀ q : Part, q.flap.Driven → q.flapCloseWant.flap.Driven := fun q driven => by
        unfold Part.flapCloseWant
        split
        · split
          · simp [FlapControl.Driven, FlapControl.Commanded]
          · exact driven
        all_goals exact driven
      refine ⟨by simp [SharesBalance], by simp, fun driven => closing _ driven, fun halted _ => ?_⟩
      have waited := (halted running).handed _ (List.mem_of_find?_eq_some waits)
      simp [Handoff.lane, Lane.ofPass] at waited
  · exact taken.flapOpenWant
  · exact refl q

theorem takeSwitch (h : EnduranceKept p q) (closed : Bool) : EnduranceKept p (q.takeSwitch closed) := by
  have read := h.setFlap (f := { q.flap with switchClosed := closed }) id fun _ => id
  unfold Part.takeSwitch
  dsimp only
  split
  · exact read.flapTrips _
  · exact read
  · next closing =>
    refine read.changeFlap (fun driven => ⟨?_, by simp⟩) fun _ _ => .inl closing
    simpa [FlapControl.Commanded] using driven.1.mpr (.inl closing)
  · exact read
  · exact read
  · exact read.flapTrips _
  · exact read
  · exact read.flapOpened
  · exact read.needCapacities
  · exact read.needCapacities

theorem takeWaitingSwitch (h : EnduranceKept p q) : EnduranceKept p q.takeWaitingSwitch := (h.takeSwitch _).ite h

theorem flapSwitchChange (h : EnduranceKept p q) (e : SwitchEvent) : EnduranceKept p (q.flapSwitchChange e) := by
  have levelled : EnduranceKept p
      (if e.closed = q.fswClosed then q else { q.takeWaitingSwitch with fswClosed := e.closed }) :=
    h.ite (h.takeWaitingSwitch.framed ⟨rfl, rfl, rfl, rfl, rfl, rfl, rfl, rfl⟩)
  exact levelled.takeWaitingSwitch.ite levelled

theorem flapTimerExpiry (h : EnduranceKept p q) : EnduranceKept p q.flapTimerExpiry := by
  have stopped := h.setFlap (f := { q.flap with timer := none }) (fun ⟨solenoid, _⟩ => ⟨solenoid, by simp⟩) fun _ => id
  unfold Part.flapTimerExpiry
  refine EnduranceKept.ite (EnduranceKept.ite ?_ stopped) h
  split
  · exact h.flapTrips _
  · exact h.flapTrips _
  · exact stopped
  · exact stopped
  · exact stopped

/-- A clear closes the flap again while passes run alone (R136). -/
theorem readmitFlap (h : EnduranceKept p q) : EnduranceKept p q.readmitFlap := by
  unfold Part.readmitFlap
  refine EnduranceKept.ite (h.flapOpened.ite ?_) h
  split
  · next running =>
    exact h.changeFlap (fun _ => by simp [FlapControl.Driven, FlapControl.Commanded]) (by simp [running])
  · exact h.flapOpening

/-- The flap judged anew is off, whatever it was (R137). -/
theorem judgeFlap (h : EnduranceKept p q) : EnduranceKept p q.judgeFlap := by
  have opening := h.setFlap_released (f := { q.flap with
    state := .opening, solenoid := false, timer := q.startTimer (q.setting idFlapTimeout)
    switchClosed := q.fswClosed }) rfl (.inr (.inl rfl)) (by simp)
  have opened := h.setFlap_released (f := { q.flap with
    state := .opened, solenoid := false, enteredOpen := q.now, timer := none, switchClosed := q.fswClosed })
    rfl (.inl rfl) (by simp)
  exact EnduranceKept.ite (opening.ite opening.needCapacities) (opened.ite opened.needCapacities)

theorem flapAtWarmReset (h : EnduranceKept p q) : EnduranceKept p q.flapAtWarmReset :=
  (h.changeFlap_released rfl (.inl rfl) (by simp)).ite h.judgeFlap

end EnduranceKept

end Sys2Proof.Machine
end


section
/-! PROOF. What the Capacity Unit, the clears, the actuator link and ROUTE leave of the shares and of the endurance
brakes. -/

namespace Sys2Proof.Machine

namespace EnduranceKept

variable {p q r : Part}

/-! ### The Capacity Unit and the fault table -/

theorem capacityRecomputation (h : EnduranceKept p q) : EnduranceKept p q.capacityRecomputation := by
  unfold Part.capacityRecomputation
  split
  · exact (h.taken .capacity).framed (by simp)
  · exact h

/-- The fault table is no concern of the laws. -/
theorem setFaults (h : EnduranceKept p q) (t : FaultTable) : EnduranceKept p { q with faults := t } :=
  h.framed ⟨rfl, rfl, rfl, rfl, rfl, rfl, rfl, rfl⟩

theorem setFlags (h : EnduranceKept p q) (f : Flags) : EnduranceKept p { q with flags := f } :=
  h.framed ⟨rfl, rfl, rfl, rfl, rfl, rfl, rfl, rfl⟩

/-! ### Clears -/

theorem readmitNamed (h : EnduranceKept p q) (mask : BitVec 16) : EnduranceKept p (q.readmitNamed mask) := by
  have retarder := h.readmitRetarder.ite h (c := maskNames mask .retarder)
  exact (retarder.readmitFlap.ite retarder).foldl (fun _ a h => (h.readmitChannel a).ite h) _

theorem applyClear (h : EnduranceKept p q) (mask : BitVec 16) : EnduranceKept p (q.applyClear mask) := by
  have cleared := h.setFaults { q.faults with entries := q.faults.entries.filter fun e => !e.clearedBy mask }
  exact ((cleared.setFlags _).ite cleared).readmitNamed mask

theorem applyHeld (h : EnduranceKept p q) (c : HeldClear) : EnduranceKept p (q.applyHeld c) :=
  ((h.setFaults _).applyClear _).answer _ _ _

theorem noLongerWaiting (h : EnduranceKept p q) (gone : Nat → Bool) : EnduranceKept p (q.noLongerWaiting gone) := by
  unfold Part.noLongerWaiting
  split
  · exact (h.applyHeld _).ite (h.setFaults _)
  · exact h

theorem post (h : EnduranceKept p q) (addr : Nat) (payload : Payload) : EnduranceKept p (q.post addr payload) :=
  h.framed (by simp)

theorem clearFaults (h : EnduranceKept p q) (tag : Byte) (mask : BitVec 16) :
    EnduranceKept p (q.clearFaults tag mask) := by
  unfold Part.clearFaults
  refine EnduranceKept.ite (h.answer _ _ _) (EnduranceKept.ite (h.answer _ _ _) ?_)
  split
  · exact (h.applyClear mask).answer _ _ _
  · exact EnduranceKept.foldl (fun _ addr h => h.post addr .poll) (h.setFaults _) _

theorem holdoffExpiry (h : EnduranceKept p q) : EnduranceKept p q.holdoffExpiry := by
  unfold Part.holdoffExpiry
  split
  · exact (h.applyHeld _).ite h
  · exact h

/-! ### Transactions of the actuator link -/

/-- The link's items are no concern of the laws. -/
theorem setLink (h : EnduranceKept p q) (link : LinkController) : EnduranceKept p { q with link := link } :=
  h.framed ⟨rfl, rfl, rfl, rfl, rfl, rfl, rfl, rfl⟩

theorem setNode (h : EnduranceKept p q) (addr : Nat) (f : NodeEntry → NodeEntry) :
    EnduranceKept p (q.setNode addr f) := h.setLink _

theorem handPresence (h : EnduranceKept p q) (use : NodeUse) (present : Bool) :
    EnduranceKept p (q.handPresence use present) := by
  unfold Part.handPresence
  split
  · exact h.handOn rfl
  · exact (h.ite (h.handOn rfl)).needCapacities

theorem handReported (h : EnduranceKept p q) (use : NodeUse) : EnduranceKept p (q.handReported use) := by
  unfold Part.handReported
  split
  · exact h.judgeChannel _
  · exact h.needCapacities

theorem afterTransaction (h : EnduranceKept p q) (addr : Nat) : EnduranceKept p (q.afterTransaction addr) :=
  ((h.noLongerWaiting _).ite h).chooseNext

theorem judgeFaultCode (h : EnduranceKept p q) (e : NodeEntry) (code : Nat) :
    EnduranceKept p (q.judgeFaultCode e code) :=
  EnduranceKept.ite (((((h.setNode _ _).faultEnds _ _).handReported _)).ite h)
    ((h.setNode _ _).ite (((h.setNode _ _).faultOccurs _ _).handReported _))

/-- The Capacity Unit's items are no concern of the laws. -/
theorem setCap (h : EnduranceKept p q) (c : CapacityUnit) : EnduranceKept p { q with cap := c } :=
  h.framed ⟨rfl, rfl, rfl, rfl, rfl, rfl, rfl, rfl⟩

theorem setNodeState (h : EnduranceKept p q) (st : Option NodeState) :
    EnduranceKept p { q with ret := { q.ret with lastNodeState := st } } :=
  h.ofRetarder ⟨rfl, rfl, rfl, rfl⟩ id fun _ => id

theorem handPayload (h : EnduranceKept p q) (e : NodeEntry) (ans : NodeAnswer) :
    EnduranceKept p (q.handPayload e ans) := by
  unfold Part.handPayload
  split
  · exact h.handOn rfl
  · next st oil _ _ =>
    exact (EnduranceKept.setCap ((h.setNodeState (some st)).handOn (x := .retarderNodeState st) rfl) _).needCapacities
  · exact h
  · exact h

theorem takeGoodAnswer (h : EnduranceKept p q) (e : NodeEntry) (ans : NodeAnswer) :
    EnduranceKept p (q.takeGoodAnswer e ans) := by
  unfold Part.takeGoodAnswer
  dsimp only
  refine (EnduranceKept.judgeFaultCode (EnduranceKept.ite ?_ (EnduranceKept.handPresence ?_ _ _)) e _).handPayload e ans
  all_goals exact ((h.setNode _ _).faultEnds _ _).ite (h.setNode _ _)

theorem takeMiss (h : EnduranceKept p q) (e : NodeEntry) (r : Request) : EnduranceKept p (q.takeMiss e r) := by
  have counted := h.setNode e.addr fun x => { x with misses := min (e.misses + 1) 3 }
  have requeued : EnduranceKept p
      ((q.setNode e.addr fun x => { x with misses := min (e.misses + 1) 3 }).requeueMissed r) :=
    counted.framed (by simp)
  have lost := requeued.setNode e.addr fun x => { x with presence := .lost, lostPresent := true }
  exact ((lost.ite (lost.faultOccurs _ _)).handPresence _ _).ite requeued

theorem completeTransaction (h : EnduranceKept p q) (t : Transaction) (received : Option (List Byte)) :
    EnduranceKept p (q.completeTransaction t received) := by
  have ended : EnduranceKept p q.endTransaction := h.setLink _
  unfold Part.completeTransaction
  dsimp only
  split
  · exact ended.chooseNext
  · split
    · exact ended.chooseNext
    · refine EnduranceKept.afterTransaction ?_ _
      split
      · exact ended.takeGoodAnswer _ _
      · exact ended.takeMiss _ _

theorem actuatorAnswer (h : EnduranceKept p q) (received : List Byte) :
    EnduranceKept p (q.actuatorAnswer received) := by
  unfold Part.actuatorAnswer
  split
  · split
    · exact (h.completeTransaction _ _).ite h
    · exact h
  · exact h
  · exact h

theorem answerTimeout (h : EnduranceKept p q) : EnduranceKept p q.answerTimeout := by
  unfold Part.answerTimeout
  split
  · exact (h.completeTransaction _ _).ite h
  · exact h
  · exact h

theorem commandFrameSent (h : EnduranceKept p q) : EnduranceKept p q.commandFrameSent := by
  unfold Part.commandFrameSent
  split
  · exact (h.setLink _).ite h
  · exact (h.setLink _).ite h
  · exact h

theorem abandonedWindowEnd (h : EnduranceKept p q) : EnduranceKept p q.abandonedWindowEnd := by
  unfold Part.abandonedWindowEnd
  split
  · exact (h.setLink _).chooseNext.ite h
  · exact h
  · exact h

theorem pollTimerExpiry (h : EnduranceKept p q) (addr : Nat) : EnduranceKept p (q.pollTimerExpiry addr) := by
  unfold Part.pollTimerExpiry
  split
  · exact ((h.setNode _ _).post _ _).ite h
  · exact h

/-! ### ROUTE -/

theorem resetChannel (h : EnduranceKept p q) (a : Axle) (x : Route) : EnduranceKept p (q.resetChannel a x) := by
  have ended := (h.faultEnds (.axle a) .sensor).ite h (c := (q.chan.get a).sensorOut)
  unfold Part.resetChannel
  dsimp only
  exact EnduranceKept.discardLanes (EnduranceKept.setChannel ended a _) _

theorem removeNode (h : EnduranceKept p q) (e : NodeEntry) : EnduranceKept p (q.removeNode e) := by
  have lost := (h.faultEnds (.node e.addr) .nodeLost).ite h (c := e.lostPresent)
  have reported := (lost.faultEnds (.node e.addr) .reported).ite lost (c := e.reported)
  exact reported.setLink _

theorem rerouteRetarder (h : EnduranceKept p q) (old : Option Nat) : EnduranceKept p (q.rerouteRetarder old) := by
  have discarded := (h.discardLanes fun l => decide (l = .retarderLink)).setNodeState none
  exact h.ite (discarded.setCap _).loseRetarder.needCapacities

theorem applyRoute (h : EnduranceKept p q) (routes : Axles Route) (retarder : Option Nat) :
    EnduranceKept p (q.applyRoute routes retarder) := by
  have reset := h.foldl (fun _ a h => h.resetChannel a (routes.get a)) (q.changedAxles routes)
  have removed := fun nodes => EnduranceKept.foldl (fun _ e h => h.removeNode e)
    (reset.framed (r := { q.channelsReset (q.changedAxles routes) routes with retRoute := retarder })
      ⟨rfl, rfl, rfl, rfl, rfl, rfl, rfl, rfl⟩) nodes
  have routed : EnduranceKept p (q.routed routes retarder) := (removed _).setLink _
  have judged := routed.foldl (fun _ a h => h.judgeChannel a) (q.changedAxles routes)
  have posted := judged.foldl (fun _ a h => h.postTarget a) (q.changedAxles routes)
  have rerouted := (posted.rerouteRetarder q.retRoute).chooseNext
  exact (rerouted.noLongerWaiting _).ite rerouted

theorem routeRequest (h : EnduranceKept p q) (fields : Axles RouteField) (retarder : Nat) :
    EnduranceKept p (q.routeRequest fields retarder).1 := by
  unfold Part.routeRequest
  split
  · exact h
  · split
    · exact h
    · split
      · exact h
      · exact h.applyRoute _ _

end EnduranceKept

end Sys2Proof.Machine
end

section
/-! PROOF. What the Apportioner, the Demand Arbiter, the Slip Monitor, Motion Input, the Thermal Model and the tables
leave of the shares and of the endurance brakes: a pass balances its shares, and is run while passes run alone (R76,
R89). -/

namespace Sys2Proof.Machine

open Safety

namespace EnduranceKept

variable {p q r : Part}

/-! ### The Apportioner -/

/-- A pass shares its service total out whole (R89), and hands on its demands while passes run (R76, R77). -/
theorem runPass (h : EnduranceKept p q) (running : q.passesRun = true) : EnduranceKept p q.runPass := by
  refine h.trans ⟨fun _ => ?_, by simp, by simp, fun _ stopped => ?_⟩
  · rw [SharesBalance, Part.runPass_app]
    exact q.sharing_balance
  · rw [Part.passesRun_congr (p := q) (by simp), running] at stopped
    exact absurd stopped (by simp)

theorem startPassTimer (h : EnduranceKept p q) (running : q.passesRun = true) : EnduranceKept p q.startPassTimer :=
  h.trans ⟨id, id, id, fun _ stopped => absurd (running.symm.trans stopped) (by simp)⟩

/-- The Apportioner's items beside the shares, the shortfall, the service total and the pass timer are no concern of the
laws. -/
theorem setApp (h : EnduranceKept p q) {x : Apportioner}
    (same : x.shares = q.app.shares ∧ x.shortfall = q.app.shortfall ∧ x.serviceTotal = q.app.serviceTotal ∧
      x.passTimer = q.app.passTimer) : EnduranceKept p { q with app := x } := by
  obtain ⟨shares, shortfall, serviceTotal, passTimer⟩ := same
  exact h.framed ⟨rfl, shares, shortfall, serviceTotal, passTimer, rfl, rfl, rfl⟩

theorem rotationTimerExpiry (h : EnduranceKept p q) : EnduranceKept p q.rotationTimerExpiry :=
  EnduranceKept.ite (h.setApp ⟨rfl, rfl, rfl, rfl⟩) h

theorem setMask (h : EnduranceKept p q) (flags : Axles Nat) : EnduranceKept p (q.setMask flags).1 := by
  have masked (mask : Axles Bool) : EnduranceKept p { q with app := { q.app with mask := mask } } :=
    h.setApp ⟨rfl, rfl, rfl, rfl⟩
  unfold Part.setMask
  split
  · exact h
  · split
    · exact h
    · dsimp only
      split
      · exact h
      · exact (masked _).needCapacities.foldl (fun _ a h => (h.withdrawShare a).ite h) _

theorem judgeAlarm (h : EnduranceKept p q) : EnduranceKept p q.judgeAlarm := h.framed (by simp [Part.judgeAlarm_app])

/-! ### The Demand Arbiter -/

/-- The Demand Arbiter's items are no concern of the laws. -/
theorem setDemand (h : EnduranceKept p q) (d : DemandArbiter) : EnduranceKept p { q with demand := d } :=
  h.framed ⟨rfl, rfl, rfl, rfl, rfl, rfl, rfl, rfl⟩

theorem retotal (h : EnduranceKept p q) : EnduranceKept p q.retotal := h.setDemand _

theorem cancelHold (h : EnduranceKept p q) : EnduranceKept p q.cancelHold := h.setDemand _

theorem setAssists (h : EnduranceKept p q) (l : List AssistEntry) : EnduranceKept p (q.setAssists l) := h.setDemand _

theorem dropAssists (h : EnduranceKept p q) : EnduranceKept p q.dropAssists := h.framed (by simp)

theorem speedHoldUpdate (h : EnduranceKept p q) : EnduranceKept p q.speedHoldUpdate := by
  unfold Part.speedHoldUpdate
  split
  · exact (h.taken _).setDemand _
  · exact h

theorem holdSet (h : EnduranceKept p q) (setpoint : Nat) : EnduranceKept p (q.holdSet setpoint).1 := by
  unfold Part.holdSet
  split
  · exact h
  · exact h.setDemand _

theorem assist (h : EnduranceKept p q) (requester decel hold : Nat) :
    EnduranceKept p (q.assist requester decel hold).1 := by
  unfold Part.assist
  dsimp only
  split
  · exact h
  · split
    · exact h
    · split
      · exact h.setAssists _
      · split
        · exact h
        · exact h.setAssists _

theorem assistCancel (h : EnduranceKept p q) (requester : Nat) : EnduranceKept p (q.assistCancel requester).1 := by
  unfold Part.assistCancel
  split
  · exact h
  · split
    · exact h.setAssists _
    · exact h

theorem assistExpiry (h : EnduranceKept p q) (requester : Nat) : EnduranceKept p (q.assistExpiry requester) :=
  (h.setAssists _).ite h

theorem mass (h : EnduranceKept p q) (kg : Nat) : EnduranceKept p (q.mass kg).1 := by
  unfold Part.mass
  split
  · exact h
  · exact h.setDemand _

/-! ### The Slip Monitor and Motion Input -/

theorem slipEvaluation (h : EnduranceKept p q) : EnduranceKept p q.slipEvaluation := by
  unfold Part.slipEvaluation
  split
  · exact (h.taken .slipRecord).framed (by simp)
  · exact h

/-- Motion Input's items are no concern of the laws. -/
theorem setMotion (h : EnduranceKept p q) (m : MotionInput) : EnduranceKept p { q with motion := m } :=
  h.framed ⟨rfl, rfl, rfl, rfl, rfl, rfl, rfl, rfl⟩

theorem judgeSpeedMissing (h : EnduranceKept p q) (wheels : Axles (Option Nat)) (a : Axle) :
    EnduranceKept p (q.judgeSpeedMissing wheels a) := by
  unfold Part.judgeSpeedMissing
  dsimp only
  split
  · exact EnduranceKept.faultOccurs (h.setMotion _) _ _
  · exact EnduranceKept.faultEnds (h.setMotion _) _ _
  · exact h
  · exact h

theorem driveCheck (h : EnduranceKept p q) (reference : Option Nat) (engine : Nat) (gear : Gear) (clutch : Bool) :
    EnduranceKept p (q.driveCheck reference engine gear clutch) := by
  have judged := fun m => h.setMotion m
  have raised := fun m c => ((judged m).faultOccurs .driveline .mismatch).ite (judged m) (c := c = true)
  have ended := fun m c c' => ((raised m c).faultEnds .driveline .mismatch).ite (raised m c) (c := c' = true)
  exact (ended _ _ _).ite (ended _ _ _).needCapacities

theorem madeStale (h : EnduranceKept p q) : EnduranceKept p q.madeStale := h.framed (by simp)

/-! ### The Thermal Model and the report -/

/-- The Thermal Model's items are no concern of the laws. -/
theorem setThermal (h : EnduranceKept p q) (t : ThermalModel) : EnduranceKept p { q with thermal := t } :=
  h.framed ⟨rfl, rfl, rfl, rfl, rfl, rfl, rfl, rfl⟩

theorem thermalReplaced (h : EnduranceKept p q) (t : ThermalModel) : EnduranceKept p (q.thermalReplaced t) := by
  have informed := (h.setThermal t).needCapacities
  exact EnduranceKept.ite (informed.ite informed.judgeAlarm) (h.setThermal t)

theorem thermalUpdate (h : EnduranceKept p q) : EnduranceKept p q.thermalUpdate := by
  cases running : q.thermal.timer with
  | none => rwa [Part.thermalUpdate_of_not_due (by rw [running]; rfl)]
  | some t =>
    rw [Part.thermalUpdate_of_timer running]
    exact (h.thermalReplaced _).ite h

theorem seedTemps (h : EnduranceKept p q) (temps : List Int) : EnduranceKept p (q.seedTemps temps).1 := by
  have seeded := h.thermalReplaced { q.thermal with axles := .ofFn (q.seededAxle temps) }
  unfold Part.seedTemps
  split
  · exact h
  · split
    · exact h
    · split
      · exact h
      · split
        · exact h
        · exact seeded

theorem statusReport (h : EnduranceKept p q) : EnduranceKept p q.statusReport :=
  EnduranceKept.ite (h.framed ⟨rfl, rfl, rfl, rfl, rfl, rfl, rfl, rfl⟩) h

/-! ### Settings and tables -/

/-- The Table Store's items are no concern of the laws. -/
theorem setStore (h : EnduranceKept p q) (st : TableStore) : EnduranceKept p { q with store := st } :=
  h.framed ⟨rfl, rfl, rfl, rfl, rfl, rfl, rfl, rfl⟩

theorem settingsRequest (h : EnduranceKept p q) (pairs : List (Nat × Nat)) :
    EnduranceKept p (q.settingsRequest pairs).1 := by
  unfold Part.settingsRequest
  split
  · exact h
  · split
    · exact h
    · split
      · exact h
      · exact h.setStore _

theorem tableServiceChanged (h : EnduranceKept p q) (id : TableId) : EnduranceKept p (q.tableServiceChanged id) := by
  cases id with
  | pedalMap | leverMap => exact h.setDemand _
  | retarderCurve | exhaustCurve | gearTable => exact h.needCapacities

theorem abandonTable (h : EnduranceKept p q) : EnduranceKept p q.abandonTable := h.framed (by simp)

theorem tableOpen (h : EnduranceKept p q) (n start : Nat) : EnduranceKept p (q.tableOpen n start).1 := by
  unfold Part.tableOpen
  split
  · exact h
  · split
    · exact h
    · next id _ =>
      have abandoned : EnduranceKept p (q.othersAbandoned id) := h.abandonTable.ite h
      have placed := fun t => (abandoned.framed (r := (q.othersAbandoned id).setTable id t) (by simp)).setStore
      have opened : EnduranceKept p (q.opened id start) := EnduranceKept.ite ((placed _ _).setStore _) (placed _ _)
      split
      · rw [Part.openTable_eq]
        exact (opened.tableServiceChanged id).ite opened
      · exact h

theorem tableData (h : EnduranceKept p q) (fields : List Nat) : EnduranceKept p (q.tableData fields).1 := by
  have written := fun id t => h.framed (r := q.setTable id t) (by simp)
  unfold Part.tableData
  split
  · exact h
  · split
    · exact h
    · split
      · exact h
      · split
        · exact h
        · exact (written _ _).setStore _

theorem tableClose (h : EnduranceKept p q) : EnduranceKept p q.tableClose.1 := by
  cases open_ : q.store.cursor with
  | none => rwa [Part.tableClose_none_open open_]
  | some c =>
    cases offending : firstOffending c.table (q.table c.table) c.index with
    | some k =>
      rw [Part.tableClose_offending open_ offending]
      exact h.framed (by simp)
    | none =>
      rw [Part.tableClose_passing open_ offending]
      have passed : EnduranceKept p (q.passed c) := h.framed (by simp)
      exact passed.tableServiceChanged _

theorem tableRead (h : EnduranceKept p q) (n first count : Nat) : EnduranceKept p (q.tableRead n first count).1 := by
  unfold Part.tableRead
  (repeat' split) <;> exact h

end EnduranceKept

end Sys2Proof.Machine
end


section
/-! PROOF. A change of mode, the acceptance of the chassis record and the two resets keep the balance of the shares and
the laws of the endurance brakes; so does every command, and every step (R76, R89, R92, R98, R119, R129, R131, R137). -/

namespace Sys2Proof.Machine

open Safety

/-! ## The laws across a change of mode -/

/-- What an operation makes of a part that meets the balance, and the laws of the endurance brakes, meets them. -/
structure PassLawsKept (p q : Part) : Prop where
  shares : SharesBalance p → SharesBalance q
  brakes : BrakesLawful p → BrakesLawful q

theorem EnduranceKept.laws {p q : Part} (k : EnduranceKept p q) : PassLawsKept p q := ⟨k.shares, k.lawful⟩

namespace PassLawsKept

variable {p q r : Part}

theorem refl (p : Part) : PassLawsKept p p := ⟨id, id⟩

theorem trans (h : PassLawsKept p q) (h' : PassLawsKept q r) : PassLawsKept p r :=
  ⟨h'.shares ∘ h.shares, h'.brakes ∘ h.brakes⟩

theorem ite {c : Prop} [Decidable c] (h : PassLawsKept p q) (h' : PassLawsKept p r) :
    PassLawsKept p (if c then q else r) := by
  split
  · exact h
  · exact h'

theorem answer (h : PassLawsKept p q) (kind tag : Byte) (r : Reply) : PassLawsKept p (q.answer kind tag r) :=
  h.trans ((EnduranceKept.refl q).answer kind tag r).laws

end PassLawsKept

/-! ## Passes stop (R98, R129, R137) -/

section

variable {p q : Part}

/-- With passes stopped the shares, the shortfall and the service total are 0 (R98). -/
theorem EnduranceKept.stopApportioner (h : EnduranceKept p q) :
    EnduranceKept p { q with app := Part.stoppedApportioner q.app } :=
  h.trans ⟨fun _ => rfl, id, id, fun halted stopped => { halted stopped with passTimer := rfl }⟩

theorem EnduranceKept.stopPasses (h : EnduranceKept p q) : EnduranceKept p q.stopPasses :=
  (((h.stopApportioner.discardLanes Lane.ofPass).flapOpenWant).stopRetarder).framed (by simp [Part.stopPasses])

theorem Part.stopPasses_halted (p : Part) : Halted p.stopPasses := by
  have released := p.stopPasses_released
  refine ⟨?_, ?_, by simp [Part.stoppedApportioner, Apportioner.cold], released.handed⟩
  · rw [RetarderControl.Engaged, released.retState]
    split
    · simp
    · next free => exact free
  · rw [FlapControl.Commanded, released.flapState]
    split
    · split <;> simp
    · next free => exact free

/-! ## The modes (R168) -/

theorem EnduranceKept.actOnModeChange (h : EnduranceKept p q) (old : Mode) :
    EnduranceKept p (q.actOnModeChange old) := by
  have timed {x : Part} (h : EnduranceKept p x) (t : Option Timer) :
      EnduranceKept p { x with app := { x.app with rotationTimer := t } } := h.setApp ⟨rfl, rfl, rfl, rfl⟩
  unfold Part.actOnModeChange
  split
  · next active =>
    have running : q.passesRun = true := Part.passesRun_iff.mpr (.inl active)
    exact (timed h.retotal _).ite (timed (h.startPassTimer running) _)
  · exact timed h.cancelHold.dropAssists.retotal _
  · exact h.stopPasses.cancelHold.dropAssists.judgeAlarm
  · exact h.ite h.stopPasses.retotal.judgeAlarm
  · exact h.stopPasses.retotal.judgeAlarm

/-- Every mode in which passes are stopped stops them at its entry, but STANDBY from FALLBACK, where they are
stopped. -/
theorem Part.actOnModeChange_halted {old : Mode} (stopped : p.passesRun = false)
    (standing : old = .fallback → Halted p) : Halted (p.actOnModeChange old) := by
  have still {x : Part} (k : EnduranceKept p.stopPasses x) (control : x.control = p.control) : Halted x :=
    k.halted (fun _ => p.stopPasses_halted) ((Part.passesRun_congr control).trans stopped)
  have stops := EnduranceKept.refl p.stopPasses
  unfold Part.actOnModeChange
  split
  · next active => simp [Part.passesRun, active] at stopped
  · next standingDown => simp [Part.passesRun, standingDown] at stopped
  · exact still stops.cancelHold.dropAssists.judgeAlarm (by simp)
  · split
    · next left => exact standing left
    · exact still stops.retotal.judgeAlarm (by simp)
  · exact still stops.retotal.judgeAlarm (by simp)

/-- What stands of the laws of the brakes with the mode changed alone. -/
theorem Halted.setControl (h : Halted p) (c : ModeControl) : Halted { p with control := c } :=
  ⟨h.retarder, h.flap, h.passTimer, h.handed⟩

theorem passLawsKept_changeMode (p : Part) (new : Mode) : PassLawsKept p (p.changeMode new) := by
  by_cases change : p.control.mode = new
  · rw [Part.changeMode_same change]
    exact .refl p
  rw [Part.changeMode_eq change]
  have acted := (EnduranceKept.refl (p.entering new)).actOnModeChange p.control.mode
  refine PassLawsKept.trans ⟨fun balance => acted.shares (by simpa [SharesBalance] using balance), fun lawful =>
    ⟨acted.timed (by simpa using lawful.timed), acted.driven (by simpa using lawful.driven), fun stopped => ?_⟩⟩
    ((EnduranceKept.refl _).needCapacities.laws)
  refine Part.actOnModeChange_halted ((Part.passesRun_congr (by simp)).trans stopped) fun fallback => ?_
  obtain ⟨retarder, flap, passTimer, handed⟩ := lawful.halted (by simp [Part.passesRun, fallback])
  exact ⟨by simpa using retarder, by simpa using flap, by simpa using passTimer, by simpa using handed⟩

/-- The start times of Mode Control leave the mode, and so the laws. -/
theorem EnduranceKept.setStartTimes (h : EnduranceKept p q) {c : ModeControl} (mode : c.mode = q.control.mode) :
    EnduranceKept p { q with control := c } := by
  have same : Part.passesRun { q with control := c } = q.passesRun := by simp only [Part.passesRun, mode]
  exact h.trans ⟨id, id, id, fun halted stopped => (halted (same ▸ stopped)).setControl c⟩

/-! ## The causes of a change of mode (R169 to R175) -/

theorem passLawsKept_start (p : Part) : PassLawsKept p p.start.1 := by
  have keeps : PassLawsKept p p := .refl p
  have ready : PassLawsKept p (if p.motion.freshness = .fresh then (p.changeMode .active, Reply.done)
      else (p, .refused (.notReady 10 0))).1 := by
    split
    · exact passLawsKept_changeMode p _
    · exact keeps
  unfold Part.start
  split
  · exact keeps
  · exact keeps
  · exact keeps
  · split
    · exact keeps
    · exact ready
  · split
    · exact keeps
    · exact ready

theorem passLawsKept_standDown (p : Part) : PassLawsKept p p.standDown.1 := by
  unfold Part.standDown
  split
  · have noted : EnduranceKept p { p with control := { p.control with standDownStart := some p.now } } :=
      (EnduranceKept.refl p).setStartTimes rfl
    exact noted.laws.trans (passLawsKept_changeMode _ _)
  · exact .refl p
  · exact passLawsKept_changeMode p _
  · exact .refl p
  · exact .refl p

theorem passLawsKept_modeOnStale (p : Part) : PassLawsKept p p.modeOnStale := by
  have forgotten : EnduranceKept p { p with control := { p.control with recovery := none } } :=
    (EnduranceKept.refl p).setStartTimes rfl
  unfold Part.modeOnStale
  split
  · exact (forgotten.setFlags _).laws.trans (passLawsKept_changeMode _ _)
  · exact passLawsKept_changeMode p _
  · exact forgotten.laws
  · exact .refl p
  · exact .refl p

theorem passLawsKept_modeOnFreshAgain (p : Part) : PassLawsKept p p.modeOnFreshAgain := by
  unfold Part.modeOnFreshAgain
  split
  · exact ((EnduranceKept.refl p).setStartTimes
      (c := { p.control with recovery := p.startTimer (p.setting idFallbackRecovery) }) rfl).laws
  · exact .refl p

theorem passLawsKept_modeOnValidRecord (p : Part) (pedal : Nat) : PassLawsKept p (p.modeOnValidRecord pedal) :=
  (((EnduranceKept.refl p).setFlags _).laws.trans (passLawsKept_changeMode _ _)).ite (.refl p)

theorem passLawsKept_recoveryExpiry (p : Part) : PassLawsKept p p.recoveryExpiry :=
  (((EnduranceKept.refl p).setFlags _).laws.trans (passLawsKept_changeMode _ _)).ite (.refl p)

theorem passLawsKept_judgeStandDown (p : Part) : PassLawsKept p p.judgeStandDown := by
  unfold Part.judgeStandDown
  split
  · exact (passLawsKept_changeMode p _).ite (.refl p)
  · exact .refl p

theorem passLawsKept_motionTimerExpiry (p : Part) : PassLawsKept p p.motionTimerExpiry := by
  rw [Part.motionTimerExpiry_eq]
  exact PassLawsKept.ite ((EnduranceKept.refl p).madeStale.laws.trans (passLawsKept_modeOnStale _)) (.refl p)

/-- A pass is due while passes run alone, and what it leaves keeps the laws (R76, R89). -/
theorem passLawsKept_runPass (due : timerDue p.app.passTimer p.now = true) :
    PassLawsKept p p.runPass.startPassTimer := by
  cases running : p.passesRun with
  | true =>
    have ran := (EnduranceKept.refl p).runPass running
    exact (ran.startPassTimer (by rw [Part.passesRun_congr (p := p) (by simp), running])).laws
  | false =>
    refine ⟨fun _ => ?_, fun lawful => ?_⟩
    · show SharesBalance p.runPass
      rw [SharesBalance, Part.runPass_app]
      exact p.sharing_balance
    · rw [(lawful.halted running).passTimer] at due
      exact absurd due (by simp [timerDue])

theorem passLawsKept_pass (p : Part) : PassLawsKept p p.pass := by
  unfold Part.pass
  split
  · next due => exact (passLawsKept_runPass due).trans (passLawsKept_judgeStandDown _)
  · exact .refl p

/-! ## A MOTION record (R42 to R53) -/

theorem EnduranceKept.publishRoad (h : EnduranceKept p q) (l : LimitedRecord) (v : Nat) :
    EnduranceKept p (q.publishRoad l v) := h.setMotion _

theorem EnduranceKept.refresh (h : EnduranceKept p q) : EnduranceKept p q.refresh := h.framed (by simp)

theorem EnduranceKept.publishEngine (h : EnduranceKept p q) (l : LimitedRecord) :
    EnduranceKept p (q.publishEngine l) := h.setMotion _

theorem passLawsKept_takeValid (p : Part) (l : LimitedRecord) (v : Nat) : PassLawsKept p (p.takeValid l v) := by
  have refreshed : EnduranceKept p (p.publishRoad l v).refresh := ((EnduranceKept.refl p).publishRoad l v).refresh
  have handed := (refreshed.handOn (x := .slipRecord v ((p.publishRoad l v).refresh.driveSpeed l.wheels)
    (!((p.publishRoad l v).refresh.nonDrivenSpeeds l.wheels).isEmpty)) rfl).needCapacities
  have keeps : PassLawsKept p _ := handed.laws
  exact ((keeps.trans (passLawsKept_modeOnFreshAgain _)).ite keeps).trans (passLawsKept_modeOnValidRecord _ _)

theorem passLawsKept_takeMotion (p : Part) (r : MotionRecord) : PassLawsKept p (p.takeMotion r) := by
  have counted := (EnduranceKept.refl p).setMotion
  unfold Part.takeMotion
  split
  · exact (counted _).laws
  · have clamped : EnduranceKept p (if (p.limitRecord r).changed then p.countClamped else p) :=
      (counted _).ite (.refl p)
    have judged := clamped.foldl (fun _ a h => h.judgeSpeedMissing (p.limitRecord r).wheels a)
    have checked := fun axles reference => (((judged axles).publishEngine (p.limitRecord r)).driveCheck reference
      (p.limitRecord r).engine (p.limitRecord r).gear (p.limitRecord r).clutch).handOn
        (x := .demandRecord (p.limitRecord r).pedal (p.limitRecord r).lever reference) rfl
    dsimp only
    split
    · exact (checked _ _).laws.trans (passLawsKept_takeValid _ _ _)
    · exact (checked _ _).laws

/-! ## The acceptance of the chassis record (R5) -/

/-- A flap that is not commanded closed has its solenoid off, and Flap Control leaves it so (R131). -/
theorem passLawsKept_flapAtAcceptance (config : p.passesRun = false) : PassLawsKept p p.flapAtAcceptance := by
  have keeps := EnduranceKept.refl p
  refine ⟨fun balance => by simpa [SharesBalance] using balance, fun lawful => ?_⟩
  have off : p.flap.solenoid = false := by
    simpa using mt lawful.driven.1.mp (lawful.halted config).flap
  refine EnduranceKept.lawful (EnduranceKept.ite keeps.judgeFlap ?_) lawful
  exact keeps.changeFlap_released off (.inl rfl) (by simp)

theorem passLawsKept_acceptChassis {c : ChassisRecord} (config : p.control.mode = .config) :
    PassLawsKept p (p.acceptChassis c) := by
  have noted : EnduranceKept p ((p.described c).startThermal.startFade.setMass c.grossMass) :=
    (EnduranceKept.refl p).framed (by simp)
  have stopped : Part.passesRun ((p.described c).startThermal.startFade.setMass c.grossMass) = false := by
    rw [Part.passesRun_congr (p := p) (by simp)]
    simp [Part.passesRun, config]
  rw [Part.acceptChassis_eq]
  exact (noted.laws.trans (passLawsKept_flapAtAcceptance stopped)).trans (EnduranceKept.refl _).needCapacities.laws

theorem passLawsKept_chassisRequest (p : Part) (c : ChassisRecord) : PassLawsKept p (p.chassisRequest c).1 := by
  have keeps : PassLawsKept p p := .refl p
  unfold Part.chassisRequest
  split
  · exact keeps
  · split
    · exact keeps
    · next config =>
      split
      · exact keeps
      · split
        · exact keeps
        · split
          · exact keeps
          · split
            · exact keeps
            · exact passLawsKept_acceptChassis (not_not.mp config)

/-! ## The two resets (R130, R137, R177, R178) -/

/-- A warm reset leaves Retarder Control DRAINING with its drain timer running, or DRAINED with no timer (R130). -/
theorem Part.warmRetarder_released (p : Part) : p.warmRetarder.ret.Timed ∧ ¬ p.warmRetarder.ret.Engaged := by
  simp only [Part.warmRetarder, RetarderControl.Timed, RetarderControl.Engaged]
  split <;> simp [Part.startTimer]

theorem EnduranceKept.warmRetarder (h : EnduranceKept p q) : EnduranceKept p q.warmRetarder := by
  obtain ⟨timed, released⟩ := q.warmRetarder_released
  exact h.ofRetarder ⟨rfl, rfl, rfl, rfl⟩ (fun _ => timed) fun _ engaged => absurd engaged released

theorem EnduranceKept.warmDemand (h : EnduranceKept p q) : EnduranceKept p q.warmDemand := h.setDemand _

theorem EnduranceKept.warmMotion (h : EnduranceKept p q) : EnduranceKept p q.warmMotion := h.setMotion _

theorem EnduranceKept.warmShares (h : EnduranceKept p q) : EnduranceKept p q.warmShares :=
  h.stopApportioner.framed ⟨rfl, rfl, rfl, rfl, rfl, rfl, rfl, rfl⟩

theorem EnduranceKept.warmThermal (h : EnduranceKept p q) : EnduranceKept p q.warmThermal := h.setThermal _

theorem EnduranceKept.warmChannels (h : EnduranceKept p q) : EnduranceKept p q.warmChannels :=
  h.framed ⟨rfl, rfl, rfl, rfl, rfl, rfl, rfl, rfl⟩

theorem EnduranceKept.warmLink (h : EnduranceKept p q) : EnduranceKept p q.warmLink := h.setLink _

theorem EnduranceKept.warmClear (h : EnduranceKept p q) : EnduranceKept p q.warmClear := h.setFaults _

theorem EnduranceKept.warmBlocks (h : EnduranceKept p q) : EnduranceKept p q.warmBlocks := by
  have stopped := h.abandonTable.warmDemand.warmMotion.warmShares.warmThermal.warmRetarder
  exact stopped.flapAtWarmReset.warmChannels.warmLink.warmClear.discardLanes fun l => l.ofPass || l.ofLink

theorem Part.flapAtWarmReset_open (p : Part) : ¬ p.flapAtWarmReset.flap.Commanded := by
  have judged : ¬ p.judgeFlap.flap.Commanded := by
    unfold Part.judgeFlap
    dsimp only
    split <;> simp [Part.flapOpening, Part.flapOpened, FlapControl.Commanded]
  unfold Part.flapAtWarmReset
  split
  · simp [FlapControl.Commanded]
  · exact judged

theorem Part.warmBlocks_ret (p : Part) :
    p.warmBlocks.ret = p.abandonTable.warmDemand.warmMotion.warmShares.warmThermal.warmRetarder.ret := by
  simp [Part.warmBlocks, Part.warmChannels, Part.warmLink, Part.warmClear]

theorem Part.warmBlocks_flap (p : Part) : p.warmBlocks.flap =
    p.abandonTable.warmDemand.warmMotion.warmShares.warmThermal.warmRetarder.flapAtWarmReset.flap := by
  simp [Part.warmBlocks, Part.warmChannels, Part.warmLink, Part.warmClear]

theorem Part.warmBlocks_halted (p : Part) : Halted p.warmBlocks := by
  refine ⟨?_, ?_, by simp [Part.stoppedApportioner, Apportioner.cold], fun x mem => ?_⟩
  · rw [Part.warmBlocks_ret]
    exact (Part.warmRetarder_released _).2
  · rw [Part.warmBlocks_flap]
    exact Part.flapAtWarmReset_open _
  · have kept := (List.mem_filter.mp mem).2
    simp only [Bool.not_eq_true', Bool.or_eq_false_iff] at kept
    exact kept.1

/-- What is released stays so in the mode that a warm reset sets (R177). -/
theorem passLawsKept_warmMode (halted : Halted p) : PassLawsKept p p.warmMode := by
  unfold Part.warmMode
  dsimp only
  generalize (if p.missingItem.isNone = true then Mode.standby else .config) = new
  have entered : PassLawsKept p { p with control := ⟨new, none, none⟩ } :=
    ⟨id, fun lawful => ⟨lawful.timed, lawful.driven, fun _ => halted.setControl _⟩⟩
  exact entered.ite (entered.trans ((EnduranceKept.refl _).setFlags _).laws)

theorem passLawsKept_warmReset (p : Part) : PassLawsKept p p.warmReset := by
  have blocks := (EnduranceKept.refl p).warmBlocks.laws.trans (passLawsKept_warmMode p.warmBlocks_halted)
  have judged := (EnduranceKept.refl p.warmBlocks.warmMode).retotal.judgeAlarm.foldl
    (fun _ a h => h.judgeChannel a) Axle.all
  rw [Part.warmReset_eq]
  exact blocks.trans ((judged.needCapacities.sendRetarder _).foldl (fun _ a h => h.postTarget a) Axle.all).laws

end

theorem passLawsKept_resetWarm (p : Part) (tag : Byte) : PassLawsKept p (p.resetWarm tag) :=
  ((PassLawsKept.refl p).answer _ _ _).trans (passLawsKept_warmReset _)

theorem sharesBalance_cold (closed : Bool) (phase : LinkPhase) : SharesBalance (Part.cold closed phase) := rfl

theorem brakesLawful_cold (closed : Bool) (phase : LinkPhase) : BrakesLawful (Part.cold closed phase) where
  timed := by simp [RetarderControl.Timed, Part.cold, RetarderControl.cold]
  driven := by cases closed <;> simp [FlapControl.Driven, FlapControl.Commanded, Part.cold, FlapControl.cold]
  halted _ :=
    { retarder := by simp [RetarderControl.Engaged, Part.cold, RetarderControl.cold]
      flap := by cases closed <;> simp [FlapControl.Commanded, Part.cold, FlapControl.cold]
      passTimer := rfl
      handed := nofun }

end Sys2Proof.Machine
end

section
/-! PROOF. What every request keeps, the receiving of the vehicle link's bytes keeps; and every command and every step
keep the balance of the shares and the laws of the endurance brakes. -/

namespace Sys2Proof.Machine

/-! ## Bytes of the vehicle link (R12 to R15) -/

section

variable {R : Part → Part → Prop} (refl : ∀ p, R p p) (trans : ∀ {p q r}, R p q → R q r → R p r)
  (setLink : ∀ (p : Part) (vl : VehicleLink), R p { p with vl := vl })
  (answer : ∀ (p : Part) (kind tag : Byte) (r : Reply), R p (p.answer kind tag r))
  (takeRequest : ∀ (p : Part) (i : Instr), R p (p.takeRequest i))

include answer takeRequest in
theorem Part.takeFrame_keeps (p : Part) (kind tag : Byte) (payload : List Byte) :
    R p (p.takeFrame kind tag payload) := by
  unfold Part.takeFrame
  split
  · exact answer p _ _ _
  · exact answer p _ _ _
  · exact answer p _ _ _
  · exact takeRequest p _

include trans setLink answer takeRequest in
theorem Part.completeFrame_keeps (p : Part) (bytes : List Byte) : R p (p.completeFrame bytes) := by
  unfold Part.completeFrame
  dsimp only
  split
  · exact trans (setLink p _) (Part.takeFrame_keeps answer takeRequest _ _ _ _)
  · exact setLink p _

include refl trans setLink answer takeRequest

theorem Part.receiveByte_keeps (p : Part) (x : LineByte) : R p (p.receiveByte x) := by
  have hunted (p : Part) (b : Byte) : R p (p.huntByte b) := by
    unfold Part.huntByte
    split
    · exact setLink p _
    · exact refl p
  have framed (bytes : List Byte) (b : Byte) : R p (p.frameByte bytes b) := by
    unfold Part.frameByte
    split
    · exact setLink p _
    · dsimp only
      split
      · exact Part.completeFrame_keeps (R := R) trans setLink answer takeRequest p _
      · exact setLink p _
  unfold Part.receiveByte
  split
  · exact hunted p _
  · split
    · exact trans (setLink p _) (hunted _ _)
    · exact framed _ _

/-- A reflexive and transitive relation that the link's items, the answers and the requests keep is kept by every byte
that is received. -/
theorem Part.receiveBytes_keeps (p : Part) (received : List LineByte) : R p (p.receiveBytes received) := by
  induction received generalizing p with
  | nil => exact refl p
  | cons x rest ih => exact trans (Part.receiveByte_keeps refl trans setLink answer takeRequest p x) (ih _)

theorem Part.frameAbandoned_keeps (p : Part) (received : List LineByte) : R p (p.frameAbandoned received) := by
  cases received with
  | nil =>
    unfold Part.frameAbandoned
    dsimp only
    split
    · exact setLink p _
    · exact refl p
  | cons x rest => exact Part.receiveBytes_keeps refl trans setLink answer takeRequest p (x :: rest)

end

/-! ## Frames, commands and steps -/

theorem passLawsKept_takeRequest (p : Part) (i : Instr) : PassLawsKept p (p.takeRequest i) := by
  have k := EnduranceKept.refl p
  cases i with
  | chassis tag record => exact (passLawsKept_chassisRequest p record).answer _ _ _
  | settings tag pairs => exact ((k.settingsRequest pairs).answer _ _ _).laws
  | tableOpen tag table start => exact ((k.tableOpen table start).answer _ _ _).laws
  | tableData tag fields => exact ((k.tableData fields).answer _ _ _).laws
  | tableClose tag => exact (k.tableClose.answer _ _ _).laws
  | tableRead tag table first count => exact ((k.tableRead table first count).answer _ _ _).laws
  | route tag axles retarder => exact ((k.routeRequest axles retarder).answer _ _ _).laws
  | mask tag flags => exact ((k.setMask flags).answer _ _ _).laws
  | seedTemps tag temps => exact ((k.seedTemps temps).answer _ _ _).laws
  | start tag => exact (passLawsKept_start p).answer _ _ _
  | standDown tag => exact (passLawsKept_standDown p).answer _ _ _
  | resetWarm tag => exact passLawsKept_resetWarm p tag
  | holdSet tag setpoint => exact ((k.holdSet setpoint).answer _ _ _).laws
  | holdCancel tag => exact (k.cancelHold.answer _ _ _).laws
  | assist tag requester decel hold => exact ((k.assist requester decel hold).answer _ _ _).laws
  | assistCancel tag requester => exact ((k.assistCancel requester).answer _ _ _).laws
  | mass tag kg => exact ((k.mass kg).answer _ _ _).laws
  | queryCapacities tag => exact (k.answer _ _ _).laws
  | queryAxles tag => exact (k.answer _ _ _).laws
  | queryFaults tag => exact (k.answer _ _ _).laws
  | queryEngagements tag => exact (k.answer _ _ _).laws
  | queryAssist tag => exact (k.answer _ _ _).laws
  | queryChassis tag => exact (k.answer _ _ _).laws
  | querySettings tag => exact (k.answer _ _ _).laws
  | queryRoute tag => exact (k.answer _ _ _).laws
  | motion record => exact passLawsKept_takeMotion p record
  | clearFaults tag sources => exact (k.clearFaults tag sources).laws
  | _ => exact k.laws

/-- The Vehicle Link Interface's items are no concern of the laws. -/
theorem passLawsKept_setLink (p : Part) (vl : VehicleLink) : PassLawsKept p { p with vl := vl } :=
  ((EnduranceKept.refl p).framed (r := { p with vl := vl }) ⟨rfl, rfl, rfl, rfl, rfl, rfl, rfl, rfl⟩).laws

theorem passLawsKept_receiveBytes (p : Part) (received : List LineByte) : PassLawsKept p (p.receiveBytes received) :=
  p.receiveBytes_keeps .refl .trans passLawsKept_setLink (fun p => (PassLawsKept.refl p).answer)
    passLawsKept_takeRequest received

theorem passLawsKept_frameAbandoned (p : Part) (received : List LineByte) :
    PassLawsKept p (p.frameAbandoned received) :=
  p.frameAbandoned_keeps .refl .trans passLawsKept_setLink (fun p => (PassLawsKept.refl p).answer)
    passLawsKept_takeRequest received

/-- Every command keeps the balance and the laws; a cold reset leaves a part that meets them outright. -/
theorem exec_keeps_passLaws (c : Instr) (s : State) :
    ∃ q, exec c s = .next { s with part := q } ∧ PassLawsKept s.part q := by
  have k := EnduranceKept.refl s.part
  have request := passLawsKept_takeRequest s.part c
  cases c with
  | coldReset => exact ⟨_, rfl, fun _ => sharesBalance_cold s.part.fswClosed s.part.coldPhase,
      fun _ => brakesLawful_cold s.part.fswClosed s.part.coldPhase⟩
  | speedHoldUpdate => exact ⟨_, rfl, k.speedHoldUpdate.laws⟩
  | slipEvaluation => exact ⟨_, rfl, k.slipEvaluation.laws⟩
  | capacityRecomputation => exact ⟨_, rfl, k.capacityRecomputation.laws⟩
  | motionTimerExpiry => exact ⟨_, rfl, passLawsKept_motionTimerExpiry s.part⟩
  | recoveryExpiry => exact ⟨_, rfl, passLawsKept_recoveryExpiry s.part⟩
  | assistExpiry requester => exact ⟨_, rfl, (k.assistExpiry requester).laws⟩
  | holdoffExpiry => exact ⟨_, rfl, k.holdoffExpiry.laws⟩
  | vehicleLinkFrame received => exact ⟨_, rfl, passLawsKept_receiveBytes s.part received⟩
  | frameAbandoned received => exact ⟨_, rfl, passLawsKept_frameAbandoned s.part received⟩
  | statusReport => exact ⟨_, rfl, k.statusReport.laws⟩
  | pass => exact ⟨_, rfl, passLawsKept_pass s.part⟩
  | rotationTimerExpiry => exact ⟨_, rfl, k.rotationTimerExpiry.laws⟩
  | thermalUpdate => exact ⟨_, rfl, k.thermalUpdate.laws⟩
  | retarderWant => exact ⟨_, rfl, k.retarderWantTaken.laws⟩
  | retarderNodeState => exact ⟨_, rfl, k.retarderNodeStateTaken.laws⟩
  | fillTimerExpiry => exact ⟨_, rfl, k.fillTimerExpiry.laws⟩
  | drainTimerExpiry => exact ⟨_, rfl, k.drainTimerExpiry.laws⟩
  | retarderNodeLost => exact ⟨_, rfl, k.retarderNodeLostTaken.laws⟩
  | exhaustWant => exact ⟨_, rfl, k.exhaustWantTaken.laws⟩
  | flapSwitchChange e => exact ⟨_, rfl, (k.flapSwitchChange e).laws⟩
  | flapTimerExpiry => exact ⟨_, rfl, k.flapTimerExpiry.laws⟩
  | pressureDemand axle => exact ⟨_, rfl, (k.pressureDemand axle).laws⟩
  | localSample axle kPa => exact ⟨_, rfl, (k.localSample axle kPa).laws⟩
  | remoteMeasurement axle => exact ⟨_, rfl, (k.remoteMeasurement axle).laws⟩
  | channelPresenceChange axle => exact ⟨_, rfl, (k.channelPresenceChange axle).laws⟩
  | trackingTimerExpiry axle => exact ⟨_, rfl, (k.trackingTimerExpiry axle).laws⟩
  | pollTimerExpiry addr => exact ⟨_, rfl, (k.pollTimerExpiry addr).laws⟩
  | commandFrameSent => exact ⟨_, rfl, k.commandFrameSent.laws⟩
  | actuatorAnswer received => exact ⟨_, rfl, (k.actuatorAnswer received).laws⟩
  | answerTimeout => exact ⟨_, rfl, k.answerTimeout.laws⟩
  | abandonedWindowEnd => exact ⟨_, rfl, k.abandonedWindowEnd.laws⟩
  | transmitFrameSent => exact ⟨_, rfl, passLawsKept_setLink s.part _⟩
  | _ => exact ⟨_, rfl, request⟩

theorem exec_next_keeps_passLaws {c : Instr} {s t : State} (h : exec c s = .next t) : PassLawsKept s.part t.part := by
  obtain ⟨q, next, kept⟩ := exec_keeps_passLaws c s
  cases next.symm.trans h
  exact kept

/-- One step, whether a command waits, an event of the part comes next, or 1 ms passes. -/
theorem step_keeps_passLaws {s t : State} (h : step s = .next t) : PassLawsKept s.part t.part := by
  unfold step at h
  split at h
  · have kept := exec_next_keeps_passLaws h
    exact kept
  · split at h
    · exact exec_next_keeps_passLaws h
    · cases h
      exact ((EnduranceKept.refl s.part).framed (r := s.part.tick) (by simp)).laws

/-- Settles O53: a pass shares its service total out whole, a withdrawn share joins the shortfall, and nothing else
touches either but a stop of passes, which sets them to 0. -/
theorem sharesAlwaysBalance : Obligations.SharesAlwaysBalance := fun _ _ h => (step_keeps_passLaws h).shares

/-- Settles O55: the brakes are engaged while passes run alone, every entry to a mode that stops passes releases them,
and each state of the retarder and of the flap is entered with its timer and its solenoid. -/
theorem enduranceBrakesStayReleased : Obligations.EnduranceBrakesStayReleased :=
  fun _ _ h held => brakesLawful_iff.mp ((step_keeps_passLaws h).brakes (brakesLawful_iff.mpr held))

end Sys2Proof.Machine
end


section
/-! PROOF. A pass that does not complete a stand-down (R76 to R84): what it changes of the part, what it hands on, and
its decisions for the endurance brakes. -/

namespace Sys2Proof.Machine

open Safety

/-! ## The pass (R76, R77) -/

theorem Part.judgeStandDown_of_not_complete {p : Part} (incomplete : ¬ StandDownComplete p) : p.judgeStandDown = p := by
  unfold Part.judgeStandDown
  split
  · next t standing start =>
    refine if_neg fun ⟨aged, ready⟩ => incomplete ⟨standing, ?_, Part.standDownActuatorsReady_iff.mp ready⟩
    rw [start]
    exact decide_eq_true aged
  · rfl

/-- The part after a pass, before Mode Control judges the stand-down. -/
def Part.afterPass (p : Part) : Part := p.runPass.startPassTimer

/-- The Apportioner's items after a pass: its results, with the pass timer started again. -/
theorem Part.afterPass_app (p : Part) : p.afterPass.app =
    { p.passResults with passTimer := some ⟨p.now, p.setting idPassPeriod⟩ } := by
  simp [Part.afterPass, Part.startPassTimer, Part.startTimer, Part.setting]

theorem Part.afterPass_frame (p : Part) : p.afterPass =
    { p with app := p.afterPass.app, flags := p.afterPass.flags, handed := p.afterPass.handed } := by
  unfold Part.afterPass
  exact Part.eq_of_fields (app := rfl) (flags := rfl) (handed := rfl)

/-- Hand-offs formed from the Apportioner's items wait in the order of the list. -/
theorem Part.foldl_handOn_handed (p : Part) (f : Part → Axle → Handoff)
    (kept : ∀ (p : Part) (h : Handoff), f (p.handOn h) = f p) (l : List Axle) :
    (l.foldl (fun q a => q.handOn (f q a)) p).handed = p.handed ++ l.map (f p) := by
  induction l generalizing p with
  | nil => simp
  | cons a l ih =>
    rw [List.foldl_cons, ih, kept]
    simp [Part.handOn]

theorem Part.afterPass_handed (p : Part) : p.afterPass.handed = p.handed ++ .exhaustWant p.afterPass.app.exhaustWant ::
    .retarderWant p.afterPass.app.retarderWant p.afterPass.app.command ::
      (Axle.all.filter fun a => decide (a.val < p.axleCount)).map fun a =>
        .pressureDemand a (p.afterPass.app.demands.get a) := by
  have demands (q : Part) : q.handOnPass.handed = q.handed ++ .exhaustWant q.app.exhaustWant ::
      .retarderWant q.app.retarderWant q.app.command ::
        q.axles.map fun a => .pressureDemand a (q.app.demands.get a) := by
    unfold Part.handOnPass
    dsimp only
    rw [Part.foldl_handOn_handed (f := fun q a => .pressureDemand a (q.app.demands.get a)) _ fun _ _ => rfl]
    rw [Part.axles_congr (p := q) (by simp)]
    simp [Part.handOn]
  rw [Part.afterPass_app]
  have axles : ({ p with app := p.passResults }.flagAlarm p.app.alarm).axles = p.axles :=
    Part.axles_congr (by simp)
  exact (demands _).trans (by simp [axles]; rfl)

theorem exec_pass_of_not_complete {s : State} {t : Timer} (running : s.part.app.passTimer = some t)
    (due : t.interval ≤ (s.part.now - t.start).toNat) (incomplete : ¬ StandDownComplete s.part) :
    exec .pass s = .next { s with part := s.part.afterPass } := by
  refine State.next_congr ?_
  show s.part.pass = _
  rw [Part.pass, if_pos (timerDue_of_elapsed running due)]
  refine Part.judgeStandDown_of_not_complete fun complete => incomplete ?_
  exact standDownComplete_congr (by simp) (by simp) (by simp) (by simp) (by simp) (by simp) (by simp) complete

/-! ## The endurance brakes (R78 to R84) -/

section Decisions

variable (p : Part)

theorem Part.exhaustDecision_iff : p.exhaustDecision = .close ↔
    0 < p.cap.items.exhaust ∧ p.cap.items.exhaust ≤ p.slip.limit ∧
      (p.cap.items.exhaust * p.setting idOnRatio / 1000 ≤ p.enduranceTarget ∨
        (p.flap.state = .closing ∨ p.flap.state = .closed) ∧
          p.cap.items.exhaust * p.setting idOffRatio / 1000 ≤ p.enduranceTarget) := by
  unfold Part.exhaustDecision
  split
  · next want => simpa [Part.exhaustAvailable, Part.flapCommandedClosed, and_assoc] using want
  · next want => simpa [Part.exhaustAvailable, Part.flapCommandedClosed, and_assoc] using want

theorem Part.countedExhaust_eq : p.countedExhaust =
    if p.flap.state = .closed ∨ (p.flap.state = .opening ∨ p.flap.state = .faulted) ∧ p.flap.switchClosed = true
    then p.cap.items.exhaust else 0 := by
  unfold Part.countedExhaust
  split <;> simp [*]

/-- What is wanted of the retarder is within its capacity and within what the exhaust leaves of the slip limit. -/
theorem Part.wantedRetarder_le : p.wantedRetarder ≤ p.commandBound := by
  simp only [Part.wantedRetarder, Part.commandBound, Part.enduranceTarget]
  omega

theorem Part.nextCommand_le : p.nextCommand ≤ p.commandBound := by
  have want := p.wantedRetarder_le
  unfold Part.nextCommand
  dsimp only
  (repeat' split) <;> omega

theorem Part.nextCommand_idle (idle : p.ret.state ≠ .active) : p.nextCommand = 0 := if_neg idle

/-- Upward the command follows the want by the ramp step, downward at once (R82). -/
theorem Part.nextCommand_active (active : p.ret.state = .active) (mode : p.control.mode ≠ .standingDown) :
    p.nextCommand = min p.wantedRetarder (p.app.command + p.setting idRampStep) := by
  simp only [Part.nextCommand, if_pos active, if_neg mode]
  split <;> omega

/-- In a stand-down the command only falls, by the ramp step (R83). -/
theorem Part.nextCommand_standingDown (active : p.ret.state = .active) (mode : p.control.mode = .standingDown) :
    p.nextCommand = if p.app.command ≤ p.wantedRetarder then p.app.command
      else min (max p.wantedRetarder (p.app.command - p.setting idRampStep)) p.commandBound := by
  simp only [Part.nextCommand, if_pos active, if_pos mode]

end Decisions

/-- Settles O23, by what a pass publishes and hands on, stage by stage. -/
theorem passDecidesTheEnduranceBrakes : Obligations.PassDecidesTheEnduranceBrakes := by
  intro s t running due incomplete q e target held previous step
  refine ⟨q.afterPass, exec_pass_of_not_complete running due incomplete, q.afterPass_frame, q.afterPass_handed, ?_⟩
  rw [Part.afterPass_app]
  obtain ⟨capacity, slip⟩ := Nat.le_min.mp q.nextCommand_le
  have standing (active : q.ret.state = .active) (mode : q.control.mode = .standingDown) :=
    q.nextCommand_standingDown active mode
  exact ⟨rfl, rfl, rfl, rfl, q.exhaustDecision_iff, q.countedExhaust_eq, rfl, q.nextCommand_idle,
    q.nextCommand_active, fun active mode => ⟨fun within => (standing active mode).trans (if_pos within),
      fun above => (standing active mode).trans (if_neg (Nat.not_le.mpr above))⟩,
    rfl, capacity, slip, rfl, rfl⟩

end Sys2Proof.Machine
end


section
/-! PROOF. How a pass shares the service total (R85 to R91): eligibility, trim rotation, each round axle by axle as R88
has it, and the pressure demands. -/

namespace Sys2Proof.Machine

open Safety

/-! ## A round axle by axle (R88) -/

section

variable (w : Axles Nat) (st : ShareStage)

/-- An axle's weight while it is in the set, and 0 outside. -/
def stageWeight (a : Axle) : Nat := if st.1.get a then w.get a else 0

/-- The part of the remainder that its weight gives an axle (R88, step 1). -/
def stageBase (a : Axle) : Nat :=
  st.2.2 * stageWeight w st a / (stageWeight w st 0 + stageWeight w st 1 + stageWeight w st 2 + stageWeight w st 3)

/-- What the parts leave over (R88, step 2). -/
def stageLeftover : Nat :=
  st.2.2 - (stageBase w st 0 + stageBase w st 1 + stageBase w st 2 + stageBase w st 3)

/-- How many axles of the set come before an axle (R88, step 2). -/
def stageRank (a : Axle) : Nat :=
  (Axle.all.filter fun b => decide (st.1.get b = true ∧
    (stageWeight w st a < stageWeight w st b ∨ stageWeight w st a = stageWeight w st b ∧ b < a))).length

theorem sum_axlesOf (set : Axles Bool) (f : Axle → Nat) : ((axlesOf set).map f).sum =
    (if set.get 0 then f 0 else 0) + (if set.get 1 then f 1 else 0) + (if set.get 2 then f 2 else 0) +
      (if set.get 3 then f 3 else 0) := by
  rw [axlesOf, sum_map_filter]
  simp [Axle.all, Nat.add_assoc]

variable {w st}

theorem stageWeight_of_mem {a : Axle} (member : st.1.get a = true) : stageWeight w st a = w.get a := if_pos member

theorem roundBase_of_mem {a : Axle} (member : st.1.get a = true) :
    roundBase w (axlesOf st.1) st.2.2 a = stageBase w st a := by
  rw [roundBase, stageBase, sum_axlesOf, stageWeight_of_mem member]
  rfl

theorem stageBase_of_outside {a : Axle} (outside : st.1.get a = false) : stageBase w st a = 0 := by
  simp [stageBase, stageWeight, outside]

theorem roundLeftover_eq : roundLeftover w (axlesOf st.1) st.2.2 = stageLeftover w st := by
  have part (a : Axle) : (if st.1.get a then roundBase w (axlesOf st.1) st.2.2 a else 0) = stageBase w st a := by
    cases member : st.1.get a with
    | true => exact roundBase_of_mem member
    | false => exact (stageBase_of_outside member).symm
  rw [roundLeftover, stageLeftover, sum_axlesOf]
  simp only [part]

theorem weightRank_of_mem {a : Axle} (member : st.1.get a = true) :
    weightRank w (axlesOf st.1) a = stageRank w st a := by
  rw [weightRank, axlesOf, List.filter_filter, stageRank]
  congr 2
  funext b
  cases mem : st.1.get b <;> simp [stageWeight, member, mem, Bool.and_comm, beq_eq_decide]

theorem stageRaised_eq (a : Axle) : stageRaised w st a = st.2.1.get a +
    if st.1.get a then stageBase w st a + (if stageRank w st a < stageLeftover w st then 1 else 0) else 0 := by
  cases member : st.1.get a with
  | true =>
    simp only [stageRaised, raisedShare, axlesOf_contains, member, if_true, roundAmount, roundBase_of_mem member,
      weightRank_of_mem member, roundLeftover_eq]
  | false => simpa using stageRaised_of_outside member

end

/-! ## Eligibility, trim rotation and the shares (R85 to R89) -/

section

variable {p : Part}

theorem Part.isEligible_iff {a : Axle} : p.isEligible a = true ↔ a.val < p.axleCount ∧ p.app.mask.get a = false ∧
    (p.chan.get a).available = true ∧ 0 < p.cap.items.service.get a := by
  simp [Part.isEligible, Part.hasAxle, and_assoc]

theorem Part.usesTrim_iff : p.usesTrim = true ↔ 0 < p.wantedService ∧ 0 < p.setting idTrimLimit ∧
    p.wantedService ≤ p.setting idTrimLimit ∧ p.isEligible p.app.pointer = true ∧
      p.wantedService ≤ p.cap.items.service.get p.app.pointer := by
  simp [Part.usesTrim, and_assoc]

theorem Part.sharing_trim (trim : p.usesTrim = true) (a : Axle) :
    p.sharing.shares.get a = if a = p.app.pointer then p.wantedService else 0 := by
  rw [p.sharing_of_trim trim]
  split
  · next pointer => simp [pointer]
  · next other => exact (Axles.get_set_ne _ _ other).trans (Axles.get_replicate _ _)

/-- What holds of the shares of a pass, by trim rotation or by rounds. -/
theorem Part.sharing_sound (p : Part) (a : Axle) :
    (p.isEligible a = false → p.sharing.shares.get a = 0) ∧ p.sharing.shares.get a ≤ p.cap.items.service.get a ∧
      (0 < p.sharing.remainder → p.isEligible a = true → p.sharing.shares.get a = p.cap.items.service.get a) := by
  cases trim : p.usesTrim with
  | true =>
    obtain ⟨-, -, -, able, within⟩ := Part.usesTrim_iff.mp trim
    rw [Part.sharing_trim trim, show p.sharing.remainder = 0 by rw [p.sharing_of_trim trim]]
    refine ⟨fun unable => if_neg fun pointer => ?_, ?_, nofun⟩
    · simp [pointer, able] at unable
    · split
      · next pointer => exact pointer ▸ within
      · exact Nat.zero_le _
  | false =>
    obtain ⟨k, -, outcome, -, sound, ended⟩ := p.sharing_of_not_trim trim
    rw [outcome]
    refine ⟨sound.idle a, sound.bounded a, fun rest able => sound.filled a able ?_⟩
    rw [← Bool.not_eq_true]
    exact fun member => ended ⟨rest, a, member⟩

/-- The rounds of a pass without trim rotation end with its shares, with nothing left over or no axle in the set. -/
theorem Part.sharing_rounds (shared : p.usesTrim = false) :
    (p.shareStage p.sharing.rounds).2 = (p.sharing.shares, p.sharing.remainder) ∧
      (∀ k < p.sharing.rounds, Unfinished (p.shareStage k)) ∧
      (p.sharing.remainder = 0 ∨ ∀ a, (p.shareStage p.sharing.rounds).1.get a = false) ∧ p.sharing.rounds ≤ 4 := by
  obtain ⟨k, most, outcome, earlier, -, ended⟩ := p.sharing_of_not_trim shared
  rw [outcome]
  refine ⟨rfl, earlier, ?_, most⟩
  simpa [Unfinished, or_iff_not_imp_left, Nat.pos_iff_ne_zero] using ended

theorem Part.nextPointer_stays (small : p.usesTrim = true ∨ p.wantedService ≤ p.setting idTrimLimit) :
    p.nextPointer = p.app.pointer := by
  refine if_neg fun moves => ?_
  simp only [Bool.and_eq_true, Bool.not_eq_true', decide_eq_true_eq] at moves
  obtain trim | small := small
  · simp [trim] at moves
  · omega

/-- Beyond the trim limit the pointer goes to the eligible axle of the lowest index (R90). -/
theorem Part.nextPointer_large (large : p.setting idTrimLimit < p.wantedService) :
    p.nextPointer = (Axle.all.find? p.isEligible).getD p.app.pointer := by
  have rounds : p.usesTrim = false := by
    rw [← Bool.not_eq_true, Part.usesTrim_iff]
    omega
  rw [Part.nextPointer, rounds, Part.eligibleAxles, List.headD_eq_head?_getD, List.head?_filter]
  exact if_pos (by simpa using large)

end

/-- Settles O24, from the stages of the rounds, each of which is a round as R88 has it, and from what holds of every
sharing. -/
theorem passSharesTheServiceTotal : Obligations.PassSharesTheServiceTotal := by
  intro s t running due incomplete q tierWeight
  refine ⟨q.afterPass, exec_pass_of_not_complete running due incomplete, ?_⟩
  rw [Part.afterPass_app]
  intro x capacity eligible trim
  have able (a : Axle) : q.isEligible a = true ↔ eligible a := Part.isEligible_iff
  have unable (a : Axle) : q.isEligible a = false ↔ ¬ eligible a := by rw [← able, Bool.not_eq_true]
  have trims : q.usesTrim = true ↔ trim := Part.usesTrim_iff.trans (by rw [able]; rfl)
  have weight (tier : Tier) : tierWeight tier = tier.weight := by cases tier <;> rfl
  refine ⟨fun a => ?_, ?_, fun applies => ?_, fun applies => ?_⟩
  · obtain ⟨idle, bounded, filled⟩ := q.sharing_sound a
    refine ⟨?_, fun out => ⟨idle ((unable a).mpr out), ?_⟩, fun inside => ⟨bounded, ?_⟩,
      fun short inside => filled short ((able a).mpr inside), ?_⟩
    · simpa [x, Part.passResults] using able a
    · simp [x, Part.passResults, Part.passWeight, (unable a).mpr out]
    · simp [x, Part.passResults, Part.passWeight, (able a).mpr inside, axleWeight, weight]
    · exact (Axles.get_ofFn _ a).trans rfl
  · have balance := q.sharing_balance
    simp only [Axles.toList, List.sum_cons, List.sum_nil] at balance
    simp only [x, Part.passResults]
    omega
  · have uses := trims.mpr applies
    have shares := Part.sharing_trim uses
    refine ⟨if_pos uses, ?_, ?_, fun a other => ?_, ?_, Part.nextPointer_stays (.inl uses)⟩
    · simp [x, Part.passResults, q.sharing_of_trim uses]
    · exact (shares _).trans (if_pos rfl)
    · exact (shares a).trans (if_neg other)
    · simp [x, Part.passResults, q.sharing_of_trim uses]
  · have rounds : q.usesTrim = false := by rw [← Bool.not_eq_true, trims]; exact applies
    obtain ⟨shares, earlier, ended, most⟩ := Part.sharing_rounds rounds
    intro round after
    have same : round = shareRound (.ofFn q.passWeight) capacity := by
      funext st
      simp only [shareRound, stageExceeds, stageRaised_eq]
      rfl
    have stages (k : Nat) : after k = q.shareStage k := by
      simp only [after, same]
      rw [List.foldl_const, List.length_range]
      rfl
    simp only [stages]
    refine ⟨shares, earlier, ended, if_neg (by simp [rounds]), most, fun small => Part.nextPointer_stays (.inr small),
      fun large => ⟨fun none_ => ?_, fun a inside first => ?_⟩⟩
    · show q.nextPointer = _
      rw [Part.nextPointer_large large, find_axle_of_none fun a => (unable a).mpr (none_ a)]
      rfl
    · show q.nextPointer = _
      rw [Part.nextPointer_large large, find_axle_of_first ((able a).mpr inside) fun b below =>
        (unable b).mpr (first b below)]
      rfl

end Sys2Proof.Machine
end


section
/-! PROOF. The first round of proportional distribution (R87, R88): the parts by weight, and the axles that they
fill. -/

namespace Sys2Proof.Machine

open Safety

section

variable {p : Part} {a : Axle}

theorem Part.shareStage_zero_member : (p.shareStage 0).1.get a = p.isEligible a := Axles.get_ofFn _ _

/-- At the start an axle's weight in the set is the weight published, which is 0 for an axle that is not eligible. -/
theorem Part.stageWeight_zero : stageWeight (.ofFn p.passWeight) (p.shareStage 0) = (Axles.ofFn p.passWeight).get := by
  funext a
  rw [stageWeight, Part.shareStage_zero_member, Axles.get_ofFn, Part.passWeight]
  split <;> rfl

/-- An eligible axle's part of the first round. -/
def Part.firstPart (p : Part) (a : Axle) : Nat := stageRaised (.ofFn p.passWeight) (p.shareStage 0) a

theorem Part.firstPart_eq (able : p.isEligible a = true) : p.firstPart a =
    stageBase (.ofFn p.passWeight) (p.shareStage 0) a +
      if stageRank (.ofFn p.passWeight) (p.shareStage 0) a < stageLeftover (.ofFn p.passWeight) (p.shareStage 0)
      then 1 else 0 := by
  have none_ : (p.shareStage 0).2.1.get a = 0 := Axles.get_replicate _ _
  rw [Part.firstPart, stageRaised_eq, Part.shareStage_zero_member, if_pos able, none_, Nat.zero_add]

/-- The first round gives an eligible axle its part, or its capacity where that is less. -/
theorem Part.shareStage_one_share (able : p.isEligible a = true) :
    (p.shareStage 1).2.1.get a = min (p.firstPart a) (p.cap.items.service.get a) := by
  rw [Part.shareStage_succ, shareRound_share, Part.shareStage_zero_member, ← Part.firstPart]
  simp only [able, true_and]
  split <;> omega

/-- Where no part exceeds its capacity, the first round leaves nothing over. -/
theorem Part.shareStage_one_rest (fits : ∀ a, p.isEligible a = true → p.firstPart a ≤ p.cap.items.service.get a) :
    (p.shareStage 1).2.2 = 0 := by
  have none_ (a : Axle) : stageExceeds (.ofFn p.passWeight) p.cap.items.service (p.shareStage 0) a = false := by
    rw [stageExceeds, Part.shareStage_zero_member]
    cases able : p.isEligible a with
    | true => exact decide_eq_false (Nat.not_lt.mpr (fits a able))
    | false => rfl
  simp [Part.shareStage_succ, shareRound, none_]

/-- No round after the first lowers a share. -/
theorem Part.shareStage_one_le {k : Nat} (unfinished : ∀ i < k, Unfinished (p.shareStage i)) (some_ : 1 ≤ k) :
    (p.shareStage 1).2.1.get a ≤ (p.shareStage k).2.1.get a := by
  induction k, some_ using Nat.le_induction with
  | base => exact Nat.le_refl _
  | succ k _ ih =>
    have earlier : ∀ i < k, Unfinished (p.shareStage i) := fun i before => unfinished i (by omega)
    have sound := (p.shareStage_zero_sound.iterate (fun _ => Part.passWeight_pos) k earlier).1
    rw [p.shareStage_succ k]
    exact (ih earlier).trans (sound.share_le a)

end

/-- Settles O25, from the stage after the first round: it is the last where nothing is left over, and no later round
lowers a share or raises one above its capacity. -/
theorem firstRoundSharesByWeight : Obligations.FirstRoundSharesByWeight := by
  intro s t running due incomplete
  refine ⟨s.part.afterPass, exec_pass_of_not_complete running due incomplete, ?_⟩
  rw [Part.afterPass_app]
  generalize s.part = q
  intro w eligible sumW total floors leftover before part proportional positive ⟨b, someAble⟩
  have able (a : Axle) : eligible a ↔ q.isEligible a = true := by
    simp [eligible, Part.passResults]
  have parts (a : Axle) (inside : eligible a) : part a = q.firstPart a := by
    rw [Part.firstPart_eq ((able a).mp inside)]
    simp only [stageLeftover, stageBase, stageRank, Part.stageWeight_zero]
    rfl
  have rounds : q.usesTrim = false := by
    rw [← Bool.not_eq_true]
    exact fun trim => by simp [Part.passResults, trim] at proportional
  obtain ⟨k, -, outcome, earlier, sound, ended⟩ := q.sharing_of_not_trim rounds
  have begun : 1 ≤ k := by
    refine Nat.one_le_iff_ne_zero.mpr fun none_ => ended ?_
    subst none_
    exact ⟨positive, b, Part.shareStage_zero_member.trans ((able b).mp someAble)⟩
  have given (a : Axle) : q.sharing.shares.get a = (q.shareStage k).2.1.get a := by rw [outcome]
  refine ⟨fun fits => ?_, fun a inside => ?_⟩
  · have rest : (q.shareStage 1).2.2 = 0 :=
      Part.shareStage_one_rest fun a inside => parts a ((able a).mpr inside) ▸ fits a ((able a).mpr inside)
    have one : k = 1 := by
      by_contra more
      exact (earlier 1 (by omega)).1.ne' rest
    subst one
    refine ⟨by simp [Part.passResults, outcome], fun a inside => ?_⟩
    have share := (given a).trans (Part.shareStage_one_share ((able a).mp inside))
    rwa [← parts a inside, Nat.min_eq_left (fits a inside)] at share
  · have least := Part.shareStage_one_le (a := a) earlier begun
    have most := sound.bounded a
    rw [Part.shareStage_one_share ((able a).mp inside), ← parts a inside, ← given] at least
    rw [← given] at most
    exact ⟨least, fun above => Nat.le_antisymm most (by rwa [Nat.min_eq_right above.le] at least)⟩

end Sys2Proof.Machine
end


section
/-! PROOF. The alarm at a pass (R96, R97), the rotation timer (R95) and the axle mask (R92, R93). -/

namespace Sys2Proof.Machine

open Safety

/-! ## The alarm (R96, R97) -/

section

variable {p : Part}

theorem Part.anyFade_iff :
    p.anyFade = true ↔ ∃ a : Axle, a.val < p.axleCount ∧ (p.thermal.axles.get a).tier = .fade := by
  simp [Part.anyFade, Part.axles, Part.hasAxle, Axles.mem_all]

theorem Part.markAged_eq (mark : Option Time) (delay : Nat) :
    p.markAged mark delay = mark.any fun x => decide (delay ≤ (p.now - x).toNat) := by
  cases mark <;> rfl

theorem Part.afterPass_flags : p.afterPass.flags = ({ p with app := p.passResults }.flagAlarm p.app.alarm).flags := by
  simp [Part.afterPass, Part.runPass, Part.startPassTimer]

theorem Part.nextAlarm_of_clear (clear : p.app.alarm = .clear) (shortfall : Nat) :
    p.nextAlarm shortfall = .raised ↔
      p.markAged (p.nextRaiseMark shortfall) (p.setting idAlarmRaise) = true ∨ p.anyFade = true := by
  simp [Part.nextAlarm, clear, or_iff_not_imp_left]

theorem Part.nextAlarm_of_raised (raised : p.app.alarm = .raised) (shortfall : Nat) :
    p.nextAlarm shortfall = .clear ↔
      p.markAged (p.nextClearMark shortfall) (p.setting idAlarmClear) = true := by
  simp [Part.nextAlarm, raised]

/-- ALARM_RAISED is set by a pass that raises the alarm, and by no other from CLEAR. -/
theorem Part.flags_of_clear (clear : p.app.alarm = .clear) : p.afterPass.flags =
    { p.flags with alarmRaised := p.flags.alarmRaised || decide (p.passResults.alarm = .raised) } := by
  rw [Part.afterPass_flags, clear]
  cases new : p.passResults.alarm <;> simp [Part.flagAlarm, new]

theorem Part.flags_of_raised (raised : p.app.alarm = .raised) : p.afterPass.flags =
    { p.flags with alarmCleared := p.flags.alarmCleared || decide (p.passResults.alarm = .clear) } := by
  rw [Part.afterPass_flags, raised]
  cases new : p.passResults.alarm <;> simp [Part.flagAlarm, new]

theorem Part.nextClearMark_of_alarming {shortfall : Nat} (alarming : 0 < shortfall ∨ p.anyFade = true) :
    p.nextClearMark shortfall = none :=
  if_neg fun ⟨none_, calm⟩ => by
    obtain short | fade := alarming
    · omega
    · simp [fade] at calm

end

theorem some_getD_eq {α : Type} [DecidableEq α] (o : Option α) (x : α) :
    some (o.getD x) = if o = none then some x else o := by
  cases o <;> simp

/-- Settles O26, by the marks and the alarm level that a pass publishes, and the flags that its change sets. -/
theorem alarmFollowsShortfallAndFade : Obligations.AlarmFollowsShortfallAndFade := by
  intro s t running due incomplete q fade aged
  refine ⟨q.afterPass, exec_pass_of_not_complete running due incomplete, ?_⟩
  have fades : q.anyFade = true ↔ fade := Part.anyFade_iff
  have ages (mark : Option Time) (delay : Nat) : q.markAged mark delay = aged mark delay := Part.markAged_eq mark delay
  have marked (mark : Option Time) : some (mark.getD q.now) = if mark = none then some q.now else mark :=
    some_getD_eq mark q.now
  rw [Part.afterPass_app]
  intro n
  refine ⟨?_, fun alarming => ?_, fun none_ calm => ?_, fun clear => ⟨?_, Part.flags_of_clear clear⟩, fun raised => ⟨?_,
    Part.flags_of_raised raised⟩⟩
  · exact if_congr Iff.rfl rfl (marked _)
  · exact Part.nextClearMark_of_alarming (alarming.imp_right fades.mpr)
  · have quiet : q.anyFade = false := by rwa [← Bool.not_eq_true, fades]
    exact (if_pos ⟨none_, by simp [quiet]⟩).trans (marked _)
  · rw [← ages, ← fades]
    exact Part.nextAlarm_of_clear clear _
  · rw [← ages]
    exact Part.nextAlarm_of_raised raised _

/-! ## The rotation timer (R95) -/

section

variable {p : Part}

theorem Part.rotationFit_iff {a : Axle} : p.rotationFit a = true ↔ a.val < p.axleCount ∧ p.app.mask.get a = false ∧
    (p.chan.get a).available = true ∧
      ((p.thermal.axles.get a).tier = .normal ∨ (p.thermal.axles.get a).tier = .warm) := by
  simp [Part.rotationFit, Part.hasAxle, and_assoc]

/-- How far an axle lies behind another in cyclic order. -/
def cyclicDistance (pointer a : Axle) : Nat := (a.val + 4 - pointer.val) % 4

/-- A list in ascending order of a distance is searched from the nearest. -/
theorem find?_nearest {α : Type} {d : α → Nat} {l : List α} {f : α → Bool} {a : α}
    (ascending : l.Pairwise fun x y => d x < d y) (member : a ∈ l) (fit : f a = true)
    (nearest : ∀ b ∈ l, f b = true → d a ≤ d b) : l.find? f = some a := by
  obtain ⟨before, after, rfl⟩ := List.append_of_mem member
  refine List.find?_eq_some_iff_append.mpr ⟨fit, before, after, rfl, fun b earlier => ?_⟩
  have nearer := (List.pairwise_append.mp ascending).2.2 b earlier a (by simp)
  rw [Bool.not_eq_true', ← Bool.not_eq_true]
  exact fun fits => absurd (nearest b (by simp [earlier]) fits) (by omega)

theorem Part.rotationOrder_ascending (p : Part) : p.rotationOrder.Pairwise fun x y =>
    cyclicDistance p.app.pointer x < cyclicDistance p.app.pointer y := by
  have ordered : ∀ pointer : Axle, (Axle.all.filter (fun a => decide (pointer < a)) ++
      Axle.all.filter fun a => decide (a < pointer)).Pairwise fun x y =>
        cyclicDistance pointer x < cyclicDistance pointer y := by decide
  refine (ordered p.app.pointer).sublist ?_
  exact (List.filter_sublist.filter _).append (List.filter_sublist.filter _)

theorem Part.mem_rotationOrder {a : Axle} :
    a ∈ p.rotationOrder ↔ a.val < p.axleCount ∧ a ≠ p.app.pointer := by
  simp only [Part.rotationOrder, Part.axles, List.mem_append, List.mem_filter, Axles.mem_all, Part.hasAxle_iff,
    decide_eq_true_eq, true_and, ne_eq, Fin.ext_iff, Fin.lt_def]
  omega

theorem Part.rotationTimerExpiry_of_due (due : timerDue p.app.rotationTimer p.now = true) :
    p.rotationTimerExpiry = { p with app := { p.app with
      pointer := (p.rotationOrder.find? p.rotationFit).getD p.app.pointer
      rotationTimer := some ⟨p.now, p.setting idRotationInterval * 1000⟩ } } := if_pos due

end

/-- Settles O27: the search goes through the axles in ascending cyclic distance from the pointer. -/
theorem rotationPassesOverHotAxles : Obligations.RotationPassesOverHotAxles := by
  intro s t running due q fit distance
  refine ⟨_, State.next_congr (Part.rotationTimerExpiry_of_due (timerDue_of_elapsed running due)), rfl,
    fun none_ => ?_, fun a other fits nearest => ?_⟩
  · have missed : q.rotationOrder.find? q.rotationFit = none := List.find?_eq_none.mpr fun a member =>
      mt Part.rotationFit_iff.mp (none_ a (Part.mem_rotationOrder.mp member).2)
    simp only [q] at missed
    simp only [missed, Option.getD_none, q]
  · have here := fits.1
    have found : q.rotationOrder.find? q.rotationFit = some a :=
      find?_nearest q.rotationOrder_ascending (Part.mem_rotationOrder.mpr ⟨here, other⟩)
        (Part.rotationFit_iff.mpr fits) fun b member bFits =>
          nearest b (Part.mem_rotationOrder.mp member).2 (Part.rotationFit_iff.mp bFits)
    simp only [q] at found
    simp only [found, Option.getD_some]

end Sys2Proof.Machine
end


section
/-! PROOF. The axle mask (R92, R93): the checks of MASK, and the shares that are withdrawn of the newly masked axles. -/

namespace Sys2Proof.Machine

open Safety

/-! ## Shares withdrawn (R92) -/

/-- What withdrawing the shares of the axles given makes of a part. -/
structure SharesWithdrawn (gone : List Axle) (p q : Part) : Prop where
  frame : q = { p with
    app := { p.app with
      shares := q.app.shares
      demands := q.app.demands
      shortfall := q.app.shortfall }
    handed := q.handed }
  shares : ∀ b, q.app.shares.get b = if b ∈ gone then 0 else p.app.shares.get b
  demands : ∀ b, q.app.demands.get b = if b ∈ gone then 0 else p.app.demands.get b
  shortfall : q.app.shortfall = p.app.shortfall + (gone.map p.app.shares.get).sum
  handed : q.handed = p.handed ++ gone.map fun b => .pressureDemand b 0

section

variable {p q r : Part} {a : Axle} {gone : List Axle}

theorem SharesWithdrawn.refl (p : Part) : SharesWithdrawn [] p p := ⟨rfl, by simp, by simp, by simp, by simp⟩

theorem sharesWithdrawn_one (running : p.passesRun = true) (a : Axle) : SharesWithdrawn [a] p (p.withdrawShare a) := by
  have withdrawn : p.withdrawShare a = { p with app := { p.app with
        shortfall := p.app.shortfall + p.app.shares.get a
        shares := p.app.shares.set a 0
        demands := p.app.demands.set a 0 } }.handOn (.pressureDemand a 0) := if_pos running
  rw [withdrawn]
  exact ⟨rfl, fun b => by simp [Axles.get_set], fun b => by simp [Axles.get_set], by simp, by simp [Part.handOn]⟩

theorem SharesWithdrawn.cons (first : SharesWithdrawn [a] p q) (rest : SharesWithdrawn gone q r)
    (other : a ∉ gone) : SharesWithdrawn (a :: gone) p r where
  frame := by
    have frame := rest.frame
    rw [first.frame] at frame
    exact frame
  shares b := by
    rw [rest.shares, first.shares]
    simp only [List.mem_cons]
    split <;> simp_all
  demands b := by
    rw [rest.demands, first.demands]
    simp only [List.mem_cons]
    split <;> simp_all
  shortfall := by
    have kept : gone.map q.app.shares.get = gone.map p.app.shares.get :=
      List.map_congr_left fun b member => by
        have apart : b ∉ [a] := fun same => other (List.mem_singleton.mp same ▸ member)
        rw [first.shares, if_neg apart]
    rw [rest.shortfall, first.shortfall, kept]
    simp [Nat.add_assoc]
  handed := by
    rw [rest.handed, first.handed]
    simp

theorem sharesWithdrawn_foldl (running : p.passesRun = true) (distinct : gone.Nodup) :
    SharesWithdrawn gone p (gone.foldl Part.withdrawShare p) := by
  induction gone generalizing p with
  | nil => exact .refl p
  | cons a gone ih =>
    obtain ⟨other, distinct⟩ := List.nodup_cons.mp distinct
    have still : (p.withdrawShare a).passesRun = true := (Part.passesRun_congr (by simp)).trans running
    exact (sharesWithdrawn_one running a).cons (ih still distinct) other

theorem Part.withdrawShare_of_stopped (stopped : p.passesRun = false) (a : Axle) : p.withdrawShare a = p :=
  if_neg (by simp [stopped])

/-- The shares of the axles marked are withdrawn while passes run, and none while they are stopped. -/
theorem sharesWithdrawn_marked (p : Part) (marked : Axle → Bool) :
    SharesWithdrawn (Axle.all.filter fun b => marked b && p.passesRun) p
      (Axle.all.foldl (fun q b => if marked b then q.withdrawShare b else q) p) := by
  rw [← List.foldl_filter]
  cases running : p.passesRun with
  | true =>
    simp only [Bool.and_true]
    exact sharesWithdrawn_foldl running (List.Nodup.filter _ (by decide))
  | false =>
    have kept (l : List Axle) : l.foldl Part.withdrawShare p = p := by
      induction l with
      | nil => rfl
      | cons a l ih => rwa [List.foldl_cons, Part.withdrawShare_of_stopped running]
    simp only [Bool.and_false, kept, List.filter_false]
    exact .refl p

end

/-! ## MASK (R93) -/

section

variable {p : Part} {flags : Axles Nat} {a : Axle}

theorem Part.setMask_unset (unset : p.store.chassis = none) :
    p.setMask flags = (p, .refused (.notReady 2 0)) := if_pos (by simp [unset])

theorem Part.setMask_fault (set : p.store.chassis ≠ none) (fault : p.maskFault flags = some a) :
    p.setMask flags = (p, .refused (.badValue a.val)) := by
  rw [Part.setMask, if_neg (by simpa using set), fault]

theorem Part.maskFault_value (bad : 1 < flags.get a) (first : ∀ b < a, flags.get b ≤ 1) :
    p.maskFault flags = some a := by
  rw [Part.maskFault, find_axle_of_first (decide_eq_true bad) fun b below =>
    decide_eq_false (Nat.not_lt.mpr (first b below))]

theorem Part.maskFault_of_values (values : ∀ b, flags.get b ≤ 1) :
    p.maskFault flags = Axle.all.find? fun a => !p.hasAxle a && decide (flags.get a ≠ 0) := by
  rw [Part.maskFault, find_axle_of_none fun b => decide_eq_false (Nat.not_lt.mpr (values b))]

theorem Part.maskFault_position (values : ∀ b, flags.get b ≤ 1) (absent : p.axleCount ≤ a.val) (flag : flags.get a = 1)
    (first : ∀ b < a, p.axleCount ≤ b.val → flags.get b = 0) : p.maskFault flags = some a := by
  rw [Part.maskFault_of_values values]
  refine find_axle_of_first (by simp [Part.hasAxle, absent, flag]) fun b below => ?_
  simpa [Part.hasAxle] using first b below

theorem Part.maskFault_none (values : ∀ b, flags.get b ≤ 1)
    (positions : ∀ b : Axle, p.axleCount ≤ b.val → flags.get b = 0) : p.maskFault flags = none := by
  rw [Part.maskFault_of_values values]
  exact find_axle_of_none fun b => by simpa [Part.hasAxle] using positions b

/-- The part with the flags as its mask, and a changed mask handed to the Capacity Unit. -/
def Part.maskNoted (p : Part) (flags : Axles Nat) : Part :=
  { p with
    app := { p.app with mask := flags.map (· == 1) }
    handed := p.handed ++ if flags.map (· == 1) = p.app.mask then [] else [.recompute] }

/-- Whether MASK's flags mask an axle that was not masked. -/
def Part.newlyMasked (p : Part) (flags : Axles Nat) (b : Axle) : Bool :=
  decide (flags.get b = 1 ∧ p.app.mask.get b = false)

/-- MASK accepted: the mask noted, and the shares of the newly masked axles withdrawn (R92, R93). -/
theorem Part.setMask_accepted (set : p.store.chassis ≠ none) (accepted : p.maskFault flags = none) :
    ∃ r, p.setMask flags = (r, .done) ∧
      SharesWithdrawn (Axle.all.filter fun b => p.newlyMasked flags b && p.passesRun) (p.maskNoted flags) r := by
  have newly (b : Axle) : ((flags.map (· == 1)).get b && !p.app.mask.get b) = p.newlyMasked flags b := by
    simp [Part.newlyMasked, beq_eq_decide]
  rw [Part.setMask, if_neg (by simpa using set), accepted]
  dsimp only
  by_cases same : flags.map (· == 1) = p.app.mask
  · refine ⟨p, if_pos same, ?_⟩
    have none_ (b : Axle) : p.newlyMasked flags b = false := by rw [← newly, same]; simp
    have noted : p.maskNoted flags = p := by simp [Part.maskNoted, same]
    simp only [none_, noted, Bool.false_and, List.filter_false]
    exact .refl p
  · have noted : Part.needCapacities { p with app := { p.app with mask := flags.map (· == 1) } } =
        p.maskNoted flags := by simp [Part.maskNoted, same, Part.needCapacities, Part.handOn]
    refine ⟨_, if_neg same, ?_⟩
    rw [noted]
    simp only [newly]
    exact sharesWithdrawn_marked (p.maskNoted flags) _

end

/-- Settles O28: the checks of MASK in their order, and the shares withdrawn of the axles newly masked. -/
theorem maskWithdrawsShares : Obligations.MaskWithdrawsShares := by
  intro s tag flags a q refusal newly withdrawn
  have refused {r : Reason} (h : q.setMask flags = (q, .refused r)) : exec (.mask tag flags) s = refusal r :=
    State.next_congr (Part.request_of_eq h)
  refine ⟨fun unset => refused (Part.setMask_unset unset),
    fun set bad first => refused (Part.setMask_fault set (Part.maskFault_value bad first)),
    fun set values absent flag first =>
      refused (Part.setMask_fault set (Part.maskFault_position values absent flag first)),
    fun set values positions => ?_⟩
  obtain ⟨r, accepted, given⟩ := Part.setMask_accepted set (Part.maskFault_none values positions)
  have running : q.passesRun = (q.control.mode == .active || q.control.mode == .standingDown) := by
    rw [Bool.eq_iff_iff, Part.passesRun_iff]
    simp
  have gone (b : Axle) : (q.newlyMasked flags b && q.passesRun) = withdrawn b := by
    rw [running]
    rfl
  simp only [gone] at given
  obtain ⟨frame, shares, demands, shortfall, handed⟩ := given
  refine ⟨r.answer kindMask tag .done, State.next_congr (Part.request_of_eq accepted), ?_, ?_,
    fun b => ⟨?_, ?_, ?_⟩, ?_, ?_⟩
  · rw [frame]
    rfl
  · rw [Part.answer_app, frame]
    rfl
  · rw [Part.answer_app, frame]
    simp [Part.maskNoted]
  · rw [Part.answer_app, shares]
    simp [Part.maskNoted, Axles.mem_all]
  · rw [Part.answer_app, demands]
    simp [Part.maskNoted, Axles.mem_all]
  · rw [Part.answer_app, shortfall, sum_map_filter]
    rfl
  · have mask : r.app.mask = flags.map (· == 1) := by rw [frame]; rfl
    rw [Part.answer_handed, Part.answer_app, handed, mask]
    rfl

end Sys2Proof.Machine
end


section
/-! PROOF. A channel judged again while passes run (R92, R142): what becomes of the channel, of its share, of the link
and of the hand-offs. -/

namespace Sys2Proof.Machine

/-! ## A share that is lost (R92) -/

/-- The Apportioner's items with the share of an axle withdrawn. -/
def Apportioner.without (x : Apportioner) (a : Axle) : Apportioner :=
  { x with
    shortfall := x.shortfall + x.shares.get a
    shares := x.shares.set a 0
    demands := x.demands.set a 0 }

/-- Whether a channel loses its share as its availability goes from one value to another. -/
abbrev Part.LosesShare (p : Part) (before after : Bool) : Prop :=
  before = true ∧ after = false ∧ (p.control.mode = .active ∨ p.control.mode = .standingDown)

/-- The Apportioner's items once a channel's availability has gone from one value to another. -/
def Part.appJudged (p : Part) (a : Axle) (before after : Bool) : Apportioner :=
  if p.LosesShare before after then p.app.without a else p.app

/-- What waits once a channel's availability has gone from one value to another. -/
def Part.handedJudged (p : Part) (a : Axle) (before after : Bool) : List Handoff :=
  p.handed ++ (if after = before then [] else [.recompute]) ++
    if p.LosesShare before after then [.pressureDemand a 0] else []

section

variable (p : Part) (a : Axle)

theorem Part.releasedUnlessAvailable_untouched :
    (p.releasedUnlessAvailable a).app = p.app ∧ (p.releasedUnlessAvailable a).control = p.control ∧
      (p.releasedUnlessAvailable a).handed = p.handed ∧
      ((p.releasedUnlessAvailable a).chan.get a).available = (p.chan.get a).available := by
  unfold Part.releasedUnlessAvailable
  split
  · simp only [Part.releaseChannel_chan, Axles.get_set_same, Channel.posted_available, Channel.released]
    refine ⟨by simp, by simp, by simp, ?_⟩
    split <;> rfl
  · exact ⟨rfl, rfl, rfl, rfl⟩

/-- A channel that has become unavailable loses its share while passes run (R92). -/
theorem Part.withdrawShare_judged (running : Bool) (is : p.passesRun = running) :
    (p.withdrawShare a).app = (if running then p.app.without a else p.app) ∧
      (p.withdrawShare a).handed = p.handed ++ (if running then [.pressureDemand a 0] else []) ∧
      (p.withdrawShare a).link = p.link := by
  unfold Part.withdrawShare
  rw [is]
  cases running <;> simp [Apportioner.without, Part.handOn]

theorem Part.judgeChannel_shares :
    (p.judgeChannel a).app = p.appJudged a (p.chan.get a).available (p.channelAvailable a) ∧
      (p.judgeChannel a).handed = p.handedJudged a (p.chan.get a).available (p.channelAvailable a) ∧
      (p.judgeChannel a).link = (p.releasedUnlessAvailable a).link := by
  obtain ⟨app, control, handed, before⟩ := p.releasedUnlessAvailable_untouched a
  rw [Part.judgeChannel_eq, before]
  generalize p.releasedUnlessAvailable a = r at *
  generalize p.channelAvailable a = after, (p.chan.get a).available = was
  by_cases same : was = after
  · subst same
    have kept : ¬ p.LosesShare was was := fun ⟨lost, still, _⟩ => Bool.false_ne_true (still.symm.trans lost)
    simp only [if_true, app, handed, Part.appJudged, Part.handedJudged, if_neg kept, List.append_nil, and_self]
  rw [if_neg same]
  cases after with
  | true => simp [app, handed, Part.appJudged, Part.handedJudged, Part.availabilityPublished, Ne.symm same]
  | false =>
    have was_ : was = true := by simpa using same
    have running : (r.availabilityPublished a false).passesRun =
        decide (p.control.mode = .active ∨ p.control.mode = .standingDown) := by
      rw [Bool.eq_iff_iff, Part.passesRun_iff, decide_eq_true_eq]
      simp [Part.availabilityPublished, control]
    obtain ⟨app', handed', link'⟩ := Part.withdrawShare_judged _ a _ running
    rw [if_neg (by simp), app', handed', link']
    simp [app, handed, was_, Part.appJudged, Part.handedJudged, Part.LosesShare, Part.availabilityPublished]

/-- A channel judged again: the channel itself, the link that a release posts to, the share, and the hand-offs. -/
theorem Part.judgeChannel_frame : p.judgeChannel a = { p with
    chan := p.chan.set a ((p.chan.get a).judged p.link.nodes)
    link := (p.releasedUnlessAvailable a).link
    app := p.appJudged a (p.chan.get a).available (p.channelAvailable a)
    handed := p.handedJudged a (p.chan.get a).available (p.channelAvailable a) } := by
  obtain ⟨app, handed, link⟩ := p.judgeChannel_shares a
  exact Part.eq_of_fields (app := app) (handed := handed) (link := link) (chan := p.judgeChannel_chan a)

/-- A local channel that is released posts nothing. -/
theorem Part.releasedUnlessAvailable_link_of_local (route : (p.chan.get a).route = .localStage) :
    (p.releasedUnlessAvailable a).link = p.link := by
  unfold Part.releasedUnlessAvailable
  split
  · simp [Part.releaseChannel, Part.postTarget, route]
  · rfl

/-- A channel that is not COMMANDED is not released. -/
theorem Part.releasedUnlessAvailable_of_idle (idle : (p.chan.get a).state ≠ some .commanded) :
    p.releasedUnlessAvailable a = p := if_neg (by simp [idle])

/-! ## A pressure compared with the last demand (R150) -/

/-- A channel once a measured pressure has been compared with its last demand, at a time and by two settings. -/
def Channel.tracked (now : Time) (tolerance timeout kPa : Nat) (c : Channel) : Channel :=
  { c with tracking :=
      if c.state ≠ some .commanded then c.tracking
      else if absDiff kPa c.lastDemand ≤ tolerance then none
      else if c.tracking = none then some ⟨now, timeout⟩ else c.tracking }

theorem Part.trackPressure_eq (kPa : Nat) : p.trackPressure a kPa = { p with
    chan := p.chan.set a ((p.chan.get a).tracked p.now (p.setting idPressureTolerance) (p.setting idTrackingTimeout)
      kPa) } := by
  have same {c : Channel} {timer : Option Timer} (channel : p.chan.get a = c) (kept : timer = c.tracking) :
      p = { p with chan := p.chan.set a { c with tracking := timer } } := by
    rw [kept, ← channel, Axles.set_get_self]
  unfold Part.trackPressure Channel.tracked
  generalize channel : p.chan.get a = c
  dsimp only
  split
  · next commanded =>
    split
    · next far =>
      split
      · next t running => exact same channel (by simp [commanded, Nat.not_le.mpr far, running])
      · next stopped => simp [commanded, Nat.not_le.mpr far, stopped, Part.setChannel, Part.startTimer]
    · next near => simp [commanded, Nat.not_lt.mp near, Part.setChannel]
  · exact same channel rfl

/-! ## Conditions reported to the Fault Table (R183) -/

theorem Part.faultOccurs_eq (src : Source) (code : FaultCode) : p.faultOccurs src code = { p with
    faults := (p.faults.occurred p.now src code).1
    flags := { p.flags with faultsChanged := p.flags.faultsChanged || (p.faults.occurred p.now src code).2 } } := by
  unfold Part.faultOccurs
  dsimp only
  split
  · next changed => simp [changed, Part.flagFaultsChanged]
  · next same => simp [same]

theorem Part.faultEnds_eq (src : Source) (code : FaultCode) : p.faultEnds src code = { p with
    faults := (p.faults.ended src code).1
    flags := { p.flags with faultsChanged := p.flags.faultsChanged || (p.faults.ended src code).2 } } := by
  unfold Part.faultEnds
  dsimp only
  split
  · next changed => simp [changed, Part.flagFaultsChanged]
  · next same => simp [same]

end

end Sys2Proof.Machine
end


section
/-! PROOF. A local channel's sample, and the expiry of a channel's tracking timer (R146, R147, R150, R151). -/

namespace Sys2Proof.Machine

open Safety

/-! ## A local channel's sample (R146, R147) -/

/-- A channel whose sample time has ended: the next one begins, with the output not yet switched in it. -/
def Channel.sampled (c : Channel) (now : Time) : Channel := { c with sampling := some ⟨now, 5⟩, switched := false }

/-- A part whose channel has been judged, with the conditions of the channel reported. -/
def Part.channelJudged (p : Part) (a : Axle) (n : Channel) (faults : FaultTable) (flags : Flags) : Part :=
  { p with
    chan := p.chan.set a n
    faults := faults
    flags := flags
    app := p.appJudged a (p.chan.get a).available n.available
    handed := p.handedJudged a (p.chan.get a).available n.available }

theorem Part.channelJudged_channel (p : Part) (a : Axle) (n : Channel) (faults : FaultTable) (flags : Flags) :
    (p.channelJudged a n faults flags).chan.get a = n := Axles.get_set_same _ _ _

section

variable {p : Part} {a : Axle} {kPa : Int}

theorem Part.localSample_of_due (route : (p.chan.get a).route = .localStage)
    (due : timerDue (p.chan.get a).sampling p.now = true) : p.localSample a kPa =
      if (p.chan.get a).switched then p.setChannel a ((p.chan.get a).sampled p.now)
      else (p.setChannel a ((p.chan.get a).sampled p.now)).judgeSample a kPa := if_pos ⟨route, due⟩

/-- A local channel judged again, with its conditions reported. -/
theorem Part.judgeChannel_local {x : Part} {c : Channel}
    (frame : x = { p with chan := p.chan.set a c, faults := x.faults, flags := x.flags })
    (route : c.route = .localStage) (before : c.available = (p.chan.get a).available) :
    x.judgeChannel a = p.channelJudged a (c.judged p.link.nodes) x.faults x.flags := by
  have channel : x.chan.get a = c := by
    rw [frame]
    exact Axles.get_set_same _ _ _
  rw [Part.judgeChannel_frame, Part.releasedUnlessAvailable_link_of_local x a (by rw [channel, route]),
    Part.channelAvailable_eq, channel, before]
  rw [frame]
  simp only [Axles.set_set]
  rfl

/-- A sample outside the range is not available, and takes a COMMANDED channel to BACKUP (R142, R144, R147). -/
theorem Part.judgeSample_outside (outside : kPa < 0 ∨ 1200 < kPa) (route : (p.chan.get a).route = .localStage) :
    ∃ flags, (p.setChannel a ((p.chan.get a).sampled p.now)).judgeSample a kPa =
      p.channelJudged a (({ (p.chan.get a).sampled p.now with sensorOut := true } : Channel).judged p.link.nodes)
        (if (p.chan.get a).sensorOut then p.faults else (p.faults.occurred p.now (.axle a) .sensor).1) flags := by
  unfold Part.judgeSample
  dsimp only
  rw [if_neg (by omega), Part.setChannel_chan, Axles.get_set_same]
  generalize noted : ({ (p.chan.get a).sampled p.now with sensorOut := true } : Channel) = c
  have own : c.route = .localStage ∧ c.available = (p.chan.get a).available := by
    rw [← noted]
    exact ⟨route, rfl⟩
  obtain ⟨own, before⟩ := own
  cases out : (p.chan.get a).sensorOut with
  | true =>
    refine ⟨p.flags, ?_⟩
    simp only [Channel.sampled, out, if_true]
    rw [Part.judgeChannel_local (p := p) (c := c) (by simp [Part.setChannel, Axles.set_set]) own before]
    rfl
  | false =>
    refine ⟨{ p.flags with faultsChanged :=
      p.flags.faultsChanged || (p.faults.occurred p.now (.axle a) .sensor).2 }, ?_⟩
    simp only [Channel.sampled, out, Bool.false_eq_true, if_false]
    rw [Part.faultOccurs_eq]
    rw [Part.judgeChannel_local (p := p) (c := c) (by simp [Part.setChannel, Axles.set_set]) own before]
    rfl

/-- A sample within the range is the measured pressure, ends SENSOR, and is compared with the last demand (R146, R147,
R150). -/
theorem Part.judgeSample_within (low : 0 ≤ kPa) (high : kPa ≤ 1200) (route : (p.chan.get a).route = .localStage) :
    ∃ flags, (p.setChannel a ((p.chan.get a).sampled p.now)).judgeSample a kPa =
      p.channelJudged a ((({ (p.chan.get a).sampled p.now with
          measured := some kPa.toNat, sensorOut := false } : Channel).judged p.link.nodes).tracked p.now
            (p.setting idPressureTolerance) (p.setting idTrackingTimeout) kPa.toNat)
        (if (p.chan.get a).sensorOut then (p.faults.ended (.axle a) .sensor).1 else p.faults) flags := by
  have tracked (c : Channel) (faults : FaultTable) (flags : Flags) :
      (p.channelJudged a c faults flags).trackPressure a kPa.toNat = p.channelJudged a
        (c.tracked p.now (p.setting idPressureTolerance) (p.setting idTrackingTimeout) kPa.toNat) faults flags := by
    rw [Part.trackPressure_eq]
    simp only [Part.channelJudged, Axles.get_set_same, Axles.set_set]
    rfl
  unfold Part.judgeSample
  dsimp only
  rw [if_pos ⟨low, high⟩, Part.setChannel_chan, Axles.get_set_same]
  generalize noted : ({ (p.chan.get a).sampled p.now with
    measured := some kPa.toNat, sensorOut := false } : Channel) = c
  have own : c.route = .localStage ∧ c.available = (p.chan.get a).available := by
    rw [← noted]
    exact ⟨route, rfl⟩
  obtain ⟨own, before⟩ := own
  cases out : (p.chan.get a).sensorOut with
  | true =>
    refine ⟨{ p.flags with faultsChanged := p.flags.faultsChanged || (p.faults.ended (.axle a) .sensor).2 }, ?_⟩
    simp only [Channel.sampled, out, if_true]
    rw [Part.faultEnds_eq]
    rw [Part.judgeChannel_local (p := p) (c := c) (by simp [Part.setChannel, Axles.set_set]) own before, tracked]
    rfl
  | false =>
    refine ⟨p.flags, ?_⟩
    simp only [Channel.sampled, out, Bool.false_eq_true, if_false]
    rw [Part.judgeChannel_local (p := p) (c := c) (by simp [Part.setChannel, Axles.set_set]) own before, tracked]
    rfl

end

/-! ## What a sample makes of the channel -/

/-- A local channel with its sensor out is not available, and is not left COMMANDED (R142, R144). -/
theorem Channel.sampleOutside_spec {c : Channel} (route : c.route = .localStage) (now : Time) (nodes : List NodeEntry) :
    let n := ({ c.sampled now with sensorOut := true } : Channel).judged nodes
    n.route = c.route ∧ n.sampling = some ⟨now, 5⟩ ∧ n.lastSent = c.lastSent ∧ n.sensorOut = true ∧
      n.measured = c.measured ∧ n.available = false ∧
      (c.state = some .commanded →
        n.state = some .backup ∧ n.lastDemand = 0 ∧ n.tracking = none ∧ n.switched = true) ∧
      (c.state ≠ some .commanded → n.state = c.state ∧ n.lastDemand = c.lastDemand ∧ n.tracking = c.tracking ∧
        n.switched = false) := by
  by_cases commanded : c.state = some .commanded <;>
    simp [Channel.judged, Channel.availableIn, Channel.sampled, Channel.released, Channel.posted, route, commanded]

theorem Channel.sampleWithin_spec {c : Channel} (route : c.route = .localStage) (now : Time) (nodes : List NodeEntry)
    (tolerance timeout kPa : Nat) :
    let n := (({ c.sampled now with measured := some kPa, sensorOut := false } : Channel).judged nodes).tracked now
      tolerance timeout kPa
    n.route = c.route ∧ n.sampling = some ⟨now, 5⟩ ∧ n.lastSent = c.lastSent ∧ n.sensorOut = false ∧
      n.measured = some kPa ∧ n.available = decide (c.state ≠ some .faulted) ∧ n.state = c.state ∧
      n.lastDemand = c.lastDemand ∧ n.switched = false ∧
      n.tracking = (if c.state ≠ some .commanded then c.tracking
        else if absDiff kPa c.lastDemand ≤ tolerance then none
        else if c.tracking = none then some ⟨now, timeout⟩ else c.tracking) := by
  have judged : ({ c.sampled now with measured := some kPa, sensorOut := false } : Channel).judged nodes =
      { c.sampled now with
        measured := some kPa, sensorOut := false, available := decide (c.state ≠ some .faulted) } := by
    by_cases commanded : c.state = some .commanded <;>
      simp [Channel.judged, Channel.availableIn, Channel.sampled, route, commanded]
  rw [judged]
  exact ⟨rfl, rfl, rfl, rfl, rfl, rfl, rfl, rfl, rfl, rfl⟩

/-! ## The tracking timer's expiry (R151) -/

section

variable {p : Part} {a : Axle}

/-- What the link's choice and its posts read. -/
theorem Part.chooseNext_link_congr {q : Part} (now : q.now = p.now) (store : q.store = p.store)
    (link : q.link = p.link) (loss : q.lossWaiting = p.lossWaiting) : q.chooseNext.link = p.chooseNext.link := by
  have settings : q.setting = p.setting := by
    unfold Part.setting
    rw [store]
  unfold Part.chooseNext
  rw [now, settings, link, loss]
  (repeat' split) <;> simp [Part.beginTransaction, now, link]

theorem Part.post_link_congr {q : Part} (now : q.now = p.now) (store : q.store = p.store) (link : q.link = p.link)
    (loss : q.lossWaiting = p.lossWaiting) (addr : Nat) (payload : Payload) :
    (q.post addr payload).link = (p.post addr payload).link := by
  have node : q.node addr = p.node addr := by
    unfold Part.node
    rw [link]
  rw [Part.post_eq, Part.post_eq, node]
  split
  · exact Part.chooseNext_link_congr now store (by simp [Part.placed, link, now]) loss
  · exact link

/-- A channel that has tripped (R151). -/
def Channel.tripped (c : Channel) : Channel :=
  { c with
    state := some .faulted
    lastDemand := 0
    tracking := none
    switched := c.switched || decide (c.route = .localStage) }

theorem Channel.posted_lastSent_of_other {c : Channel} (other : ∀ addr, c.route ≠ .remote addr) :
    c.posted.lastSent = c.lastSent := by
  cases route : c.route with
  | remote addr => exact absurd route (other addr)
  | unrouted | localStage => simp [Channel.posted, route]

/-- The part with the trip TRACKING reported for a channel whose timer has stopped (R151). -/
def Part.trackingReported (p : Part) (a : Axle) : Part :=
  { p with
    chan := p.chan.set a { p.chan.get a with tracking := none }
    faults := (p.faults.occurred p.now (.axle a) .tracking).1
    flags := { p.flags with
      faultsChanged := p.flags.faultsChanged || (p.faults.occurred p.now (.axle a) .tracking).2 } }

theorem Part.trackingTimerExpiry_of_due (due : timerDue (p.chan.get a).tracking p.now = true)
    (commanded : (p.chan.get a).state = some .commanded) : p.trackingTimerExpiry a =
      (((p.trackingReported a).setChannel a (p.chan.get a).tripped).postTarget a).judgeChannel a := by
  have released : ((p.trackingReported a).chan.get a).released .faulted = (p.chan.get a).tripped := by
    simp [Part.trackingReported, Channel.released, commanded, Channel.tripped]
  rw [← released]
  refine (if_pos due).trans ?_
  dsimp only
  rw [Part.faultOccurs_eq]
  rfl

theorem Part.postTarget_link_of_remote {addr : Nat} (route : (p.chan.get a).route = .remote addr) :
    (p.postTarget a).link = if (p.chan.get a).lastSent = some (p.chan.get a).target then p.link
      else (p.post addr (.axleDemand (p.chan.get a).target)).link := by
  unfold Part.postTarget
  dsimp only
  rw [route]
  dsimp only
  split
  · rfl
  · refine Part.post_link_congr ?_ ?_ ?_ ?_ _ _ <;> rfl

theorem Part.postTarget_link_of_other (other : ∀ addr, (p.chan.get a).route ≠ .remote addr) :
    (p.postTarget a).link = p.link := by
  unfold Part.postTarget
  dsimp only
  split
  · next addr route => exact absurd route (other addr)
  · rfl
  · rfl

/-- A channel that is not COMMANDED posts its target and is judged: it is not released, and nothing more is posted. -/
theorem Part.judgeChannel_posted {x : Part} {c : Channel} (idle : c.state ≠ some .commanded) :
    ((x.setChannel a c).postTarget a).judgeChannel a = { x with
      chan := x.chan.set a { c.posted with available := c.availableIn x.link.nodes }
      link := ((x.setChannel a c).postTarget a).link
      app := x.appJudged a c.available (c.availableIn x.link.nodes)
      handed := x.handedJudged a c.available (c.availableIn x.link.nodes) } := by
  have chan : ((x.setChannel a c).postTarget a).chan = x.chan.set a c.posted := by
    simp [Part.postTarget_chan, Axles.set_set]
  have state : c.posted.state ≠ some .commanded := by rwa [c.posted_items.2.1]
  rw [Part.judgeChannel_frame, Part.releasedUnlessAvailable_of_idle _ a (by simpa [chan] using state),
    Part.channelAvailable_eq]
  refine Part.eq_of_fields (app := ?_) (chan := ?_) (handed := ?_)
  · simp [chan, Channel.posted_availableIn, Channel.posted_available, Part.appJudged, Part.LosesShare]
  · simp [chan, Axles.set_set, Channel.judged_of_idle state, Channel.posted_availableIn]
  · simp [chan, Channel.posted_availableIn, Channel.posted_available, Part.handedJudged, Part.LosesShare]

/-- A channel that has tripped is FAULTED, posts its release, and is not available (R142, R148, R151). -/
theorem Part.trackingTimerExpiry_frame (due : timerDue (p.chan.get a).tracking p.now = true)
    (commanded : (p.chan.get a).state = some .commanded) : p.trackingTimerExpiry a = { p.trackingReported a with
      chan := p.chan.set a { (p.chan.get a).tripped.posted with available := false }
      link := (((p.trackingReported a).setChannel a (p.chan.get a).tripped).postTarget a).link
      app := p.appJudged a (p.chan.get a).available false
      handed := p.handedJudged a (p.chan.get a).available false } := by
  have gone (nodes : List NodeEntry) : (p.chan.get a).tripped.availableIn nodes = false := by
    cases route : (p.chan.get a).route <;> simp [Channel.availableIn, Channel.tripped, route]
  rw [Part.trackingTimerExpiry_of_due due commanded, Part.judgeChannel_posted (by simp [Channel.tripped]), gone]
  simp only [Part.trackingReported, Axles.set_set]
  rfl

/-- A channel that trips posts its release, unless it had sent it (R148). -/
theorem Part.trackingTimerExpiry_link {addr : Nat} (route : (p.chan.get a).route = .remote addr) :
    (((p.trackingReported a).setChannel a (p.chan.get a).tripped).postTarget a).link =
      if (p.chan.get a).lastSent = some .release then p.link else (p.post addr (.axleDemand .release)).link := by
  have own : (((p.trackingReported a).setChannel a (p.chan.get a).tripped).chan.get a).route = .remote addr := by
    simpa [Channel.tripped] using route
  rw [Part.postTarget_link_of_remote own]
  simp only [Part.setChannel_chan, Axles.get_set_same]
  congr 1
  refine Part.post_link_congr ?_ ?_ ?_ ?_ _ _ <;> rfl

end

/-- A channel that becomes unavailable loses what share it has while passes run. -/
theorem Part.judged_unavailable (p : Part) (a : Axle) (before : Bool) :
    p.appJudged a before false = (if before = true ∧ (p.control.mode = .active ∨ p.control.mode = .standingDown)
      then p.app.without a else p.app) ∧
    p.handedJudged a before false = p.handed ++ (if before then [.recompute] else []) ++
      if before = true ∧ (p.control.mode = .active ∨ p.control.mode = .standingDown)
      then [.pressureDemand a 0] else [] := by
  cases before <;> simp [Part.appJudged, Part.handedJudged, Part.LosesShare]

/-- Settles O36: a sample by its range, and the trip of a channel that has not followed its demand. -/
theorem localSamplesAndTrackingAreJudged : Obligations.LocalSamplesAndTrackingAreJudged := by
  refine ⟨?sample, ?tracking⟩
  case sample =>
    intro s a kPa t q c route running due next passes
    have sampled := Part.localSample_of_due (kPa := kPa) route (timerDue_of_elapsed running due)
    refine ⟨fun switched => State.next_congr (sampled.trans (if_pos switched)), fun switched => ?_⟩
    have judges := sampled.trans (if_neg (by simpa using switched))
    by_cases within : 0 ≤ kPa ∧ kPa ≤ 1200
    · obtain ⟨low, high⟩ := within
      obtain ⟨flags, judged⟩ := Part.judgeSample_within low high route
      have apart : absDiff kPa.toNat c.lastDemand = (kPa - c.lastDemand).natAbs := by
        rw [absDiff_eq_natAbs, Int.toNat_of_nonneg low]
      refine ⟨_, State.next_congr (judges.trans judged), ?_⟩
      rw [Part.channelJudged_channel]
      obtain ⟨sameRoute, sampling, lastSent, sensorOut, measured, available, state, demand, switched, tracking⟩ :=
        Channel.sampleWithin_spec (c := c) route q.now q.link.nodes (q.setting idPressureTolerance)
          (q.setting idTrackingTimeout) kPa.toNat
      rw [apart] at tracking
      refine ⟨rfl, sameRoute, sampling, lastSent, fun outside => by omega,
        fun _ _ => ⟨sensorOut, measured, available, rfl, state, demand, switched, tracking⟩, rfl, rfl⟩
    · have outside : kPa < 0 ∨ 1200 < kPa := by omega
      obtain ⟨flags, judged⟩ := Part.judgeSample_outside outside route
      refine ⟨_, State.next_congr (judges.trans judged), ?_⟩
      rw [Part.channelJudged_channel]
      obtain ⟨sameRoute, sampling, lastSent, sensorOut, measured, available, commanded, idle⟩ :=
        Channel.sampleOutside_spec (c := c) route q.now q.link.nodes
      refine ⟨rfl, sameRoute, sampling, lastSent, fun _ => ⟨sensorOut, measured, available, rfl, commanded, idle⟩,
        fun low high => absurd ⟨low, high⟩ within, rfl, rfl⟩
  case tracking =>
    intro s a t q c running due commanded passes
    refine ⟨_, State.next_congr (Part.trackingTimerExpiry_frame (timerDue_of_elapsed running due) commanded), rfl, ?_⟩
    obtain ⟨app, handed⟩ := q.judged_unavailable a c.available
    simp only [Axles.get_set_same]
    refine ⟨?_, fun addr remote => ⟨?_, Part.trackingTimerExpiry_link remote⟩, fun other => ⟨?_, ?_⟩, handed, app⟩
    · cases route : (s.part.chan.get a).route <;> simp [Channel.posted, Channel.tripped, c, q, route]
    · have remote : (s.part.chan.get a).route = .remote addr := remote
      simp [Channel.posted, Channel.tripped, Channel.target, remote]
    · exact Channel.posted_lastSent_of_other other
    · exact Part.postTarget_link_of_other fun addr => by simpa [Channel.tripped] using other addr

end Sys2Proof.Machine
end


section
/-! PROOF. What a remote channel takes of its node: a measured pressure, and a change of the node's presence (R92, R142,
R148 to R150). -/

namespace Sys2Proof.Machine

section

variable {p : Part} {a : Axle} {l r : List Handoff}

/-! ## The hand-off that is taken -/

theorem Part.remoteMeasurement_of_oldest {kPa : Nat} (handed : p.handed = l ++ .remoteMeasurement a kPa :: r)
    (older : ∀ h ∈ l, h.lane ≠ .channelLink a) :
    p.remoteMeasurement a = Part.takeMeasurement { p with handed := l ++ r } a kPa := by
  rw [Part.remoteMeasurement, Part.waiting_of_oldest (lane := .channelLink a) handed rfl older,
    ← Part.taken_of_oldest (lane := .channelLink a) handed rfl older]

theorem Part.channelPresenceChange_of_oldest {present : Bool} (handed : p.handed = l ++ .channelPresence a present :: r)
    (older : ∀ h ∈ l, h.lane ≠ .channelLink a) : p.channelPresenceChange a =
      (if present then Part.channelFound { p with handed := l ++ r } a
        else Part.channelLost { p with handed := l ++ r } a).chooseNext := by
  rw [Part.channelPresenceChange, Part.waiting_of_oldest (lane := .channelLink a) handed rfl older,
    ← Part.taken_of_oldest (lane := .channelLink a) handed rfl older]
  cases present <;> rfl

theorem Part.chooseNext_frame (p : Part) : p.chooseNext = { p with link := p.chooseNext.link } := Part.eq_of_fields

/-! ## The channel judged (R142) -/

theorem Part.judgeChannel_of_notCommanded (idle : (p.chan.get a).state ≠ some .commanded) : p.judgeChannel a = { p with
    chan := p.chan.set a { p.chan.get a with available := (p.chan.get a).availableIn p.link.nodes }
    app := p.appJudged a (p.chan.get a).available ((p.chan.get a).availableIn p.link.nodes)
    handed := p.handedJudged a (p.chan.get a).available ((p.chan.get a).availableIn p.link.nodes) } := by
  rw [Part.judgeChannel_frame, Part.releasedUnlessAvailable_of_idle p a idle, Part.channelAvailable_eq,
    Channel.judged_of_idle idle]

/-- Judging a channel hands on no loss of a node. -/
theorem Part.handedJudged_loss (p : Part) (a : Axle) (before after : Bool) :
    (p.handedJudged a before after).any (·.isLoss) = p.lossWaiting := by
  simp only [Part.handedJudged, List.any_append, Part.lossWaiting]
  split <;> split <;> simp [Handoff.isLoss]

/-! ## The node is lost (R149) -/

theorem Channel.unreachable_items (c : Channel) : c.unreachable.route = c.route ∧
    c.unreachable.state = some .unreachable ∧ c.unreachable.lastDemand = 0 ∧ c.unreachable.tracking = none ∧
    c.unreachable.measured = none ∧ c.unreachable.lastSent = c.lastSent ∧ c.unreachable.sensorOut = c.sensorOut ∧
    c.unreachable.sampling = c.sampling ∧ c.unreachable.available = c.available := by
  unfold Channel.unreachable Channel.released
  split <;> simp

/-- A channel whose node is lost enters UNREACHABLE, posts its release, and is not available (R142, R148, R149). -/
theorem Part.channelLost_of_served {addr : Nat} (route : (p.chan.get a).route = .remote addr)
    (served : (p.chan.get a).state = some .backup ∨ (p.chan.get a).state = some .commanded) :
    p.channelLost a = { p with
      chan := p.chan.set a { (p.chan.get a).unreachable.posted with available := false }
      link := ((p.setChannel a (p.chan.get a).unreachable).postTarget a).link
      app := p.appJudged a (p.chan.get a).available false
      handed := p.handedJudged a (p.chan.get a).available false } := by
  obtain ⟨sameRoute, state, -, -, -, -, -, -, before⟩ := (p.chan.get a).unreachable_items
  have gone : (p.chan.get a).unreachable.availableIn p.link.nodes = false := by
    simp only [Channel.availableIn, sameRoute, route, state]
    simp
  refine (if_pos served).trans ?_
  rw [Part.judgeChannel_posted (by rw [state]; simp), gone, before]

theorem Part.channelLost_of_other
    (other : ¬ ((p.chan.get a).state = some .backup ∨ (p.chan.get a).state = some .commanded)) :
    p.channelLost a = p.judgeChannel a := if_neg other

/-- What a channel makes of the loss of its node (R142, R148, R149). -/
theorem Part.channelLost_spec {addr : Nat} (route : (p.chan.get a).route = .remote addr) : ∃ n link,
    p.channelLost a = { p with
      chan := p.chan.set a n
      link := link
      app := p.appJudged a (p.chan.get a).available n.available
      handed := p.handedJudged a (p.chan.get a).available n.available } ∧
    n.route = (p.chan.get a).route ∧ n.sensorOut = (p.chan.get a).sensorOut ∧
    n.sampling = (p.chan.get a).sampling ∧
    ((p.chan.get a).state = some .backup ∨ (p.chan.get a).state = some .commanded →
      n.state = some .unreachable ∧ n.lastDemand = 0 ∧ n.tracking = none ∧ n.measured = none ∧
        n.lastSent = some .release ∧ n.available = false) ∧
    ((p.chan.get a).state = some .faulted → n.state = some .faulted ∧ n.available = false ∧
      n.measured = (p.chan.get a).measured ∧ n.lastSent = (p.chan.get a).lastSent) := by
  by_cases served : (p.chan.get a).state = some .backup ∨ (p.chan.get a).state = some .commanded
  · obtain ⟨sameRoute, state, demand, tracking, measured, -, sensor, sampling, -⟩ := (p.chan.get a).unreachable_items
    obtain ⟨route', state', demand', measured', sensor', tracking', -, sampling', -⟩ :=
      (p.chan.get a).unreachable.posted_items
    have sent : (p.chan.get a).unreachable.posted.lastSent = some .release := by
      simp [Channel.posted, route, Channel.target]
    refine ⟨{ (p.chan.get a).unreachable.posted with available := false }, _,
      Part.channelLost_of_served route served, route'.trans sameRoute, sensor'.trans sensor,
      sampling'.trans sampling, fun _ => ⟨state'.trans state, demand'.trans demand, tracking'.trans tracking,
        measured'.trans measured, sent, rfl⟩, fun faulted => ?_⟩
    simp [faulted] at served
  · have idle : (p.chan.get a).state ≠ some .commanded := fun commanded => served (.inr commanded)
    have kept := (Part.channelLost_of_other served).trans (Part.judgeChannel_of_notCommanded idle)
    refine ⟨{ p.chan.get a with available := (p.chan.get a).availableIn p.link.nodes }, _, kept, rfl, rfl, rfl,
      fun now => absurd now served, fun faulted => ⟨faulted, ?_, rfl, rfl⟩⟩
    simp [Channel.availableIn, route, faulted]

/-- The link once a channel has posted its release and the share has been judged chooses as it does when the release is
posted then. -/
theorem Part.channelLost_link {addr : Nat} (route : (p.chan.get a).route = .remote addr)
    (served : (p.chan.get a).state = some .backup ∨ (p.chan.get a).state = some .commanded)
    (unsent : (p.chan.get a).lastSent ≠ some .release) : (p.channelLost a).chooseNext.link =
      (Part.post { p with handed := (p.channelLost a).handed } addr (.axleDemand .release)).chooseNext.link := by
  obtain ⟨sameRoute, state, demand, -, -, sent, -⟩ := (p.chan.get a).unreachable_items
  have target : (p.chan.get a).unreachable.target = .release := by rw [Channel.target, state]
  have posted : (p.channelLost a).link = (p.post addr (.axleDemand .release)).link := by
    rw [Part.channelLost_of_served route served]
    refine (Part.postTarget_link_of_remote (addr := addr) (by simpa [sameRoute] using route)).trans ?_
    simp only [Part.setChannel_chan, Axles.get_set_same, target, sent, if_neg unsent]
    refine Part.post_link_congr ?_ ?_ ?_ ?_ _ _ <;> rfl
  have loss : (p.channelLost a).lossWaiting = p.lossWaiting := by
    rw [Part.channelLost_of_served route served]
    exact p.handedJudged_loss a _ _
  have later : (Part.post { p with handed := (p.channelLost a).handed } addr (.axleDemand .release)).link =
      (p.post addr (.axleDemand .release)).link := by
    refine Part.post_link_congr ?_ ?_ ?_ ?_ _ _
    iterate 3 rfl
    exact loss
  refine Part.chooseNext_link_congr ?_ ?_ (posted.trans later.symm) ?_
  · simp [Part.channelLost_of_served route served]
  · simp [Part.channelLost_of_served route served]
  · simp [Part.lossWaiting]

/-! ## The node is found (R149) -/

/-- A channel whose node is found, but for its availability. -/
def Channel.returned (c : Channel) : Channel :=
  { c with state := if c.state = some .faulted then some .faulted else some .backup }

theorem Part.channelFound_eq (state : (p.chan.get a).state = some .unreachable ∨ (p.chan.get a).state = some .backup ∨
    (p.chan.get a).state = some .faulted) :
    p.channelFound a = (p.setChannel a (p.chan.get a).returned).judgeChannel a := by
  have stays (same : (p.chan.get a).returned = p.chan.get a) :
      p.setChannel a (p.chan.get a).returned = p := by rw [same, Part.setChannel, Axles.set_get_self]
  unfold Part.channelFound
  dsimp only
  split
  · next unreachable => simp [Channel.returned, unreachable]
  · next other =>
    obtain unreachable | backup | faulted := state
    · exact absurd unreachable other
    · rw [stays (by rw [Channel.returned, if_neg (by simp [backup]), ← backup])]
    · rw [stays (by rw [Channel.returned, if_pos faulted, ← faulted])]

/-- A channel that was not available has no share to lose. -/
theorem Part.judged_returning (p : Part) (a : Axle) (after : Bool) : p.appJudged a false after = p.app ∧
    p.handedJudged a false after = p.handed ++ if after = true then [.recompute] else [] := by
  cases after <;> simp [Part.appJudged, Part.handedJudged, Part.LosesShare]

/-- A channel that was not available and whose node is found is available unless it is FAULTED or the node reports a
fault (R142, R149). -/
theorem Part.channelFound_frame {addr : Nat} (route : (p.chan.get a).route = .remote addr)
    (state : (p.chan.get a).state = some .unreachable ∨ (p.chan.get a).state = some .backup ∨
      (p.chan.get a).state = some .faulted)
    (before : (p.chan.get a).available = false) : p.channelFound a = { p with
      chan := p.chan.set a { (p.chan.get a).returned with
        available := decide ((p.chan.get a).state ≠ some .faulted ∧ p.nodeAvailable addr = true) }
      handed := p.handed ++
        if (p.chan.get a).state ≠ some .faulted ∧ p.nodeAvailable addr = true then [.recompute] else [] } := by
  have available : (p.chan.get a).returned.availableIn p.link.nodes =
      decide ((p.chan.get a).state ≠ some .faulted ∧ p.nodeAvailable addr = true) := by
    by_cases faulted : (p.chan.get a).state = some .faulted <;>
      simp [Channel.availableIn, Channel.returned, route, faulted, Part.nodeAvailable_eq]
  have idle : (p.chan.get a).returned.state ≠ some .commanded := by
    simp only [Channel.returned]
    split <;> simp
  rw [Part.channelFound_eq state, Part.judgeChannel_of_notCommanded (by simpa using idle)]
  have channel : (p.setChannel a (p.chan.get a).returned).chan.get a = (p.chan.get a).returned :=
    Axles.get_set_same _ _ _
  have from_ : (p.chan.get a).returned.available = false := before
  obtain ⟨app, handed⟩ := Part.judged_returning (p.setChannel a (p.chan.get a).returned) a
    (decide ((p.chan.get a).state ≠ some .faulted ∧ p.nodeAvailable addr = true))
  rw [channel, from_, Part.setChannel_link, available, app, handed]
  simp only [Part.setChannel_chan, Axles.set_set, decide_eq_true_eq]
  rfl

end

/-- Settles O37: the hand-off taken, the channel's new state, and its availability judged anew. -/
theorem remoteChannelFollowsItsNode : Obligations.RemoteChannelFollowsItsNode := by
  intro s a l r kPa addr older q c far ready
  refine ⟨fun handed => ?measured, fun route handed => ?lost, fun route handed state before => ?found⟩
  case measured =>
    refine State.next_congr ((Part.remoteMeasurement_of_oldest handed older).trans ?_)
    rw [Part.takeMeasurement, Part.trackPressure_eq]
    have tracked : ({ c with measured := some kPa } : Channel).tracked q.now (q.setting idPressureTolerance)
        (q.setting idTrackingTimeout) kPa = { c with
          measured := some kPa
          tracking :=
            if c.state ≠ some .commanded then c.tracking
            else if ¬ far then none
            else if c.tracking = none then some ⟨s.part.now, s.part.setting idTrackingTimeout⟩ else c.tracking } := by
      simp only [Channel.tracked, absDiff_eq_natAbs, far, Nat.not_lt]
      rfl
    simp only [Part.setChannel_chan, Axles.get_set_same, Axles.set_set]
    exact congrArg (fun n => { q with chan := s.part.chan.set a n }) tracked
  case lost =>
    have lost : s.part.channelPresenceChange a = (q.channelLost a).chooseNext :=
      Part.channelPresenceChange_of_oldest handed older
    obtain ⟨n, link, frame, sameRoute, sensor, sampling, served, faulted⟩ :=
      Part.channelLost_spec (p := q) (a := a) route
    have channel : (q.channelLost a).chooseNext.chan.get a = n := by simp [frame]
    have own : (q.channelLost a).chooseNext.handed = (q.channelLost a).handed := by simp
    refine ⟨(q.channelLost a).chooseNext, State.next_congr lost, ?_⟩
    rw [channel]
    refine ⟨?_, sameRoute, sensor, sampling, fun state => ?_, faulted, ?_⟩
    · rw [Part.chooseNext_frame, frame]
    · obtain ⟨state', demand, tracking, measured, sent, available⟩ := served state
      refine ⟨state', demand, tracking, measured, sent, available, fun unsent => ?_⟩
      rw [own]
      exact Part.channelLost_link route state unsent
    · rw [Part.chooseNext_frame, frame]
      exact ⟨rfl, rfl⟩
  case found =>
    have found := (Part.channelPresenceChange_of_oldest handed older).trans
      (congrArg Part.chooseNext (Part.channelFound_frame (p := q) route state before))
    refine ⟨_, State.next_congr found, ?_⟩
    rw [Part.chooseNext_frame]
    exact ⟨rfl, rfl⟩

end Sys2Proof.Machine
end
